-- ==== Sys2Proof/Word.lean ====
section
/-! DEFINITION. The words the PL-740 carries on its request port, and the numbering of its records.

A quantity the manual counts or adds up (money, times, sizes, handles) is a natural number in this
model; a bit vector stands only where the manual treats the thing as bits: a byte on the wire, a MAC
address, an EtherType, a tag, an opaque reference, a permit mask, and the epoch number that wraps. -/

namespace Sys2Proof

/-- One byte of a frame. -/
abbrev Byte := BitVec 8

/-- A 48-bit MAC address (R173). -/
abbrev Mac := BitVec 48

/-- A link number 0 to 7 (R103). -/
abbrev LinkId := Fin 8

/-- A zone number 0 to 31 (R144). -/
abbrev ZoneId := Fin 32

/-- A plan number 0 to 31 (R10). -/
abbrev PlanId := Fin 32

/-- The address whose 48 bits are all 1 (R173). -/
def broadcast : Mac := BitVec.allOnes 48

/-- The eight link numbers in ascending order. -/
def allLinks : List LinkId := [0, 1, 2, 3, 4, 5, 6, 7]

end Sys2Proof
end

