-- ==== Sys2Proof/Config.lean ====
section
/-! DEFINITION. What an implementation fixes and the manual does not: the free values.

Each constant here has no body, so that no proof can see what it is. A command that meets one runs to
its end; only the one value the manual does not state is taken from here. -/

namespace Sys2Proof.Config

/-- The kind field of the response to a frame whose kind is 0x8000 or above: R176 gives "the kind of the
request plus 0x8000", a sum that then falls outside the 16-bit field (log entry 1). -/
opaque wrappedResponseKind : Nat → BitVec 16

/-- How a flag byte of 2 to 255 in a request reads: R186 gives a meaning to 0 and 1 only (log entry 2). -/
opaque oddFlag : Nat → Bool

/-- The byte that stands for the order's state in the response to a BATCH_ANSWER whose order ended with
the answer, by batch number: R131 names the field, and an ended order has no state (log entry 3). -/
opaque endedOrderState : Nat → BitVec 8

/-- The byte that stands for the role of a client record that is not in use and so has no role, by client
number: R180 returns the record, R186 gives no encoding of a missing role (log entry 4). -/
opaque missingRole : Nat → BitVec 8

end Sys2Proof.Config
end

