-- ==== Sys2Proof/Syntax.lean ====
section
/-! DEFINITION. The commands: one constructor of `Instr` for each row of spec/opcode_table.json, with the
operands the row's rule gives it.

A REQUEST row (the 37 rows from CLIENT_SET to READ_ORDERS that are requests) stands for its frame at the
moment the Request Port takes it for checking: it carries the frame's `Header` and the fields of its body.
FRAME_ARRIVAL, NOT_CLIENT and UNKNOWN_KIND carry the frame itself. The remaining rows are the part's own
events and the events on its pins.

An enumerated operand is an `Option`: `none` is a byte beyond the last position of its list (R186). -/

namespace Sys2Proof

/-- R179: a client's role. -/
inductive Role | purser | radio | meter | router | nav | gateway
  deriving DecidableEq, Repr

/-- R180: the action of CLIENT_SET. -/
inductive ClientAction | define | rebind | free
  deriving DecidableEq, Repr

/-- Table 1-1: a partner's kind. -/
inductive PartnerKind | homeRoaming | shipPlan
  deriving DecidableEq, Repr

/-- Table 1-1: a partner's status. -/
inductive PartnerStatus | active | suspended | barred
  deriving DecidableEq, Repr

/-- R10: the zone classes, numbered in this order from 0. -/
inductive ZoneClass | port | coastal | openSea | restricted
  deriving DecidableEq, Repr

/-- R41: the traffic classes. -/
inductive TrafficClass | voice | data | message | emergency
  deriving DecidableEq, Repr

/-- R10: a rate cell's rounding. -/
inductive Rounding | whole | prorata
  deriving DecidableEq, Repr

/-- R42: a zone's service level. -/
inductive ServiceLevel | full | limited | emergencyOnly
  deriving DecidableEq, Repr

/-- R105: the action of LINK_SET. -/
inductive LinkAction | keep | adminOn | adminOff | clearSuspect
  deriving DecidableEq, Repr

/-- Table 6-1: a link's kind. -/
inductive LinkKind | harbourFixed | shoreCell | microwave | satellite
  deriving DecidableEq, Repr

/-- R25: the admission gate. -/
inductive Gate | opened | held
  deriving DecidableEq, Repr

/-- R108: a link report's indication. -/
inductive Indication | up | down
  deriving DecidableEq, Repr

/-- R122: the source of a migration order or batch. -/
inductive Source | link (l : LinkId) | rescue
  deriving DecidableEq, Repr

/-- R122: the destination of a migration order. -/
inductive Dest | fixed (l : LinkId) | auto
  deriving DecidableEq, Repr

/-- R122: the scope of a migration order. -/
inductive Scope | all | nonEmergency
  deriving DecidableEq, Repr

/-- R131: ROUTER's verdict on a batch. -/
inductive Verdict | accept | refuse
  deriving DecidableEq, Repr

/-- R31, R97: a context named by handle or by identity. -/
inductive ContextRef | byHandle (handle : Nat) | byIdentity (identity : Nat)
  deriving DecidableEq, Repr

/-- R120, R162: one numbered record, or the indication ALL. -/
inductive NumberOrAll | one (n : Nat) | all
  deriving DecidableEq, Repr

/-- R173: a frame on the wire. `fcs` is the frame check sequence it arrived with. -/
structure Frame where
  dst : Mac
  src : Mac
  etherType : BitVec 16
  payload : List Byte
  fcs : BitVec 32
  deriving DecidableEq, Repr

/-- What the Request Port reads of a request frame beside its kind and body (Table 11-1, R173): the source
address, the EtherType, the header fields, and the number of bytes the frame carries after the header. -/
structure Header where
  src : Mac
  etherType : BitVec 16
  version : Nat
  client : Nat
  tag : BitVec 32
  length : Nat
  carried : Nat
  deriving DecidableEq, Repr

/-- R170: the twelve values of a GENERAL_SET, in the order of Table 9-2. -/
structure GeneralValues where
  passPeriod : Nat
  askTimeout : Nat
  dormancy : Nat
  idle : Nat
  staleExponent : Nat
  confirmCount : Nat
  confirmHold : Nat
  fallback : Nat
  batchTimeout : Nat
  reconcileFloor : Nat
  reconcileTolerance : Nat
  etherType : BitVec 16
  deriving DecidableEq, Repr

/-- R4: the body of a PARTNER_SET. -/
structure PartnerDef where
  code : Nat
  kind : Option PartnerKind
  barWindow : Nat
  plan : Nat
  adjustment : Int
  exposure : Nat
  initialStep : Nat
  topUpStep : Nat
  lowWater : Nat
  deriving DecidableEq, Repr

/-- R11: the body of a RATE_SET. -/
structure RateDef where
  plan : Nat
  zoneClass : Option ZoneClass
  cls : Option TrafficClass
  blockSize : Nat
  price : Nat
  rounding : Option Rounding
  minimum : Nat
  deriving DecidableEq, Repr

/-- R105: the profile a LINK_SET carries. -/
structure ProfileDef where
  kind : Option LinkKind
  mask : BitVec 32
  priority : Nat
  capacity : Nat
  surcharge : Nat
  degrade : Nat
  recover : Nat
  hold : Nat
  limit : Nat
  deriving DecidableEq, Repr

/-- R60: one usage entry. The other flag bits and the pad byte are not interpreted. -/
structure UsageEntry where
  session : Nat
  uncertain : Bool
  a : Nat
  b : Nat
  deriving DecidableEq, Repr

/-- Table 11-2: the request kinds. -/
inductive Kind
  | clientSet | generalSet | partnerSet | partnerStatus | partnerRemove | rateSet | zoneSet | linkSet
  | gateSet | pin | unpin | retire | grant | epochCut | serviceReset
  | attach | detach | lookup | sessionOpen | sessionClose | silenceSet
  | usage | linkReport | moveOrder | batchAnswer | reconcile | fix
  | status | readContext | readSession | readFolio | readPartner | readLink | readZone | readOrders
  deriving DecidableEq, Repr

/-- The commands: one constructor for each row of spec/opcode_table.json. -/
inductive Instr
  /-- FRAME_ARRIVAL (R173): a frame reaches the MAC. -/
  | frameArrival (f : Frame)
  /-- NOT_CLIENT (R174): a frame taken from the input queue is checked. -/
  | notClient (f : Frame)
  /-- UNKNOWN_KIND (R175): a frame from a valid client carries no request kind. -/
  | unknownKind (f : Frame)
  /-- FRAME_TRANSMIT (R178): the next frame of the transmit order leaves the port. -/
  | frameTransmit
  /-- CLIENT_SET (R180). -/
  | clientSet (h : Header) (client : Nat) (action : Option ClientAction) (role : Option Role) (address : Option Mac)
  /-- GENERAL_SET (R170). -/
  | generalSet (h : Header) (flags : BitVec 16) (v : GeneralValues)
  /-- PARTNER_SET (R4). -/
  | partnerSet (h : Header) (d : PartnerDef)
  /-- PARTNER_STATUS (R7). -/
  | partnerStatus (h : Header) (code : Nat) (status : Option PartnerStatus)
  /-- PARTNER_REMOVE (R9). -/
  | partnerRemove (h : Header) (code : Nat)
  /-- RATE_SET (R11). -/
  | rateSet (h : Header) (r : RateDef)
  /-- EPOCH_CUT (R15). -/
  | epochCut (h : Header)
  /-- ZONE_SET (R145). -/
  | zoneSet (h : Header) (zone : Nat) (cls : Option ZoneClass) (level : Option ServiceLevel) (window : Nat)
  /-- LINK_SET (R105). -/
  | linkSet (h : Header) (link : Nat) (action : Option LinkAction) (p : ProfileDef)
  /-- GATE_SET (R25). -/
  | gateSet (h : Header) (position : Option Gate)
  /-- PIN (R37). -/
  | pin (h : Header) (handle : Nat) (identity : Nat)
  /-- UNPIN (R38). -/
  | unpin (h : Header) (handle : Nat) (identity : Nat)
  /-- RETIRE (R35). -/
  | retire (h : Header) (handle : Nat) (identity : Nat)
  /-- GRANT (R88). -/
  | grant (h : Header) (handle : Nat) (identity : Nat) (ask : Nat) (amount : Nat)
  /-- SERVICE_RESET (R182). -/
  | serviceReset (h : Header)
  /-- ATTACH (R26). -/
  | attach (h : Header) (identity : Nat) (ref : BitVec 32)
  /-- DETACH (R33). -/
  | detach (h : Header) (handle : Nat)
  /-- LOOKUP (R30). -/
  | lookup (h : Header) (identity : Nat)
  /-- SESSION_OPEN (R45). -/
  | sessionOpen (h : Header) (handle : Nat) (cls : Option TrafficClass) (ref : BitVec 32)
  /-- SESSION_CLOSE (R51). -/
  | sessionClose (h : Header) (session : Nat) (subscriber : Nat)
  /-- SILENCE_SET (R158): `some true` is SET, `some false` is CLEAR. -/
  | silenceSet (h : Header) (value : Option Bool)
  /-- USAGE (R60): the entry count the body carries, and its entries. -/
  | usage (h : Header) (count : Nat) (entries : List UsageEntry)
  /-- LINK_REPORT (R108). -/
  | linkReport (h : Header) (link : Nat) (indication : Option Indication) (quality : Nat)
  /-- RECONCILE (R117). -/
  | reconcile (h : Header) (link : Nat) (bytes : Nat)
  /-- MOVE_ORDER (R124). -/
  | moveOrder (h : Header) (source : Option Source) (dest : Option Dest) (scope : Option Scope)
  /-- BATCH_ANSWER (R131). -/
  | batchAnswer (h : Header) (number : Nat) (verdict : Option Verdict)
  /-- FIX (R148). -/
  | fix (h : Header) (zone : Nat)
  /-- STATUS (R181). -/
  | status (h : Header)
  /-- READ_CONTEXT (R31). -/
  | readContext (h : Header) (ref : Option ContextRef)
  /-- READ_SESSION (R58). -/
  | readSession (h : Header) (session : Nat)
  /-- READ_FOLIO (R97). -/
  | readFolio (h : Header) (ref : Option ContextRef)
  /-- READ_PARTNER (R98): the SINGLE form without settling; `none` is a form that is neither SINGLE nor LIST. -/
  | readPartner (h : Header) (code : Option Nat)
  /-- READ_PARTNER_LIST (R99): the LIST form. -/
  | readPartnerList (h : Header) (start : Nat) (settle : Bool)
  /-- SETTLEMENT (R100): the SINGLE form with the settle option. -/
  | settlement (h : Header) (code : Nat)
  /-- READ_LINK (R120). -/
  | readLink (h : Header) (link : NumberOrAll)
  /-- READ_ZONE (R162). -/
  | readZone (h : Header) (zone : NumberOrAll)
  /-- READ_ORDERS (R142). -/
  | readOrders (h : Header)
  /-- POWER_ON (R183): power becomes stable or nRESET is released, with the SILENCE line sampled at this level. -/
  | powerOn (line : Bool)
  /-- SILENCE_LINE_CHANGE (R184): the filtered level of the SILENCE line becomes this level. -/
  | silenceLineChange (level : Bool)
  /-- PASS_START (R166). -/
  | passStart
  /-- PASS_VISIT (R167). -/
  | passVisit
  /-- CUT_PASS_VISIT (R79). -/
  | cutPassVisit
  /-- BATCH_STEP (R125). -/
  | batchStep
  /-- BATCH_TIMEOUT (R134). -/
  | batchTimeout
  /-- STALE_EXPIRY (R153). -/
  | staleExpiry
  /-- DEFERRAL_RELEASE (R151). -/
  | deferralRelease
  /-- NRESET_ASSERTED (R183). -/
  | nresetAsserted
  deriving DecidableEq, Repr

/-- The header of a request command; `none` for a command that is no request. -/
def Instr.header? : Instr → Option Header
  | .clientSet h _ _ _ _ => some h
  | .generalSet h _ _ => some h
  | .partnerSet h _ => some h
  | .partnerStatus h _ _ => some h
  | .partnerRemove h _ => some h
  | .rateSet h _ => some h
  | .epochCut h => some h
  | .zoneSet h _ _ _ _ => some h
  | .linkSet h _ _ _ => some h
  | .gateSet h _ => some h
  | .pin h _ _ => some h
  | .unpin h _ _ => some h
  | .retire h _ _ => some h
  | .grant h _ _ _ _ => some h
  | .serviceReset h => some h
  | .attach h _ _ => some h
  | .detach h _ => some h
  | .lookup h _ => some h
  | .sessionOpen h _ _ _ => some h
  | .sessionClose h _ _ => some h
  | .silenceSet h _ => some h
  | .usage h _ _ => some h
  | .linkReport h _ _ _ => some h
  | .reconcile h _ _ => some h
  | .moveOrder h _ _ _ => some h
  | .batchAnswer h _ _ => some h
  | .fix h _ => some h
  | .status h => some h
  | .readContext h _ => some h
  | .readSession h _ => some h
  | .readFolio h _ => some h
  | .readPartner h _ => some h
  | .readPartnerList h _ _ => some h
  | .settlement h _ => some h
  | .readLink h _ => some h
  | .readZone h _ => some h
  | .readOrders h => some h
  | .frameArrival _ | .notClient _ | .unknownKind _ | .frameTransmit | .powerOn _ | .silenceLineChange _
  | .passStart | .passVisit | .cutPassVisit | .batchStep | .batchTimeout | .staleExpiry | .deferralRelease
  | .nresetAsserted => none

/-- The request kind of a request command (Table 11-2); the three READ_PARTNER rows share one kind. -/
def Instr.kind? : Instr → Option Kind
  | .clientSet .. => some .clientSet
  | .generalSet .. => some .generalSet
  | .partnerSet .. => some .partnerSet
  | .partnerStatus .. => some .partnerStatus
  | .partnerRemove .. => some .partnerRemove
  | .rateSet .. => some .rateSet
  | .epochCut .. => some .epochCut
  | .zoneSet .. => some .zoneSet
  | .linkSet .. => some .linkSet
  | .gateSet .. => some .gateSet
  | .pin .. => some .pin
  | .unpin .. => some .unpin
  | .retire .. => some .retire
  | .grant .. => some .grant
  | .serviceReset .. => some .serviceReset
  | .attach .. => some .attach
  | .detach .. => some .detach
  | .lookup .. => some .lookup
  | .sessionOpen .. => some .sessionOpen
  | .sessionClose .. => some .sessionClose
  | .silenceSet .. => some .silenceSet
  | .usage .. => some .usage
  | .linkReport .. => some .linkReport
  | .reconcile .. => some .reconcile
  | .moveOrder .. => some .moveOrder
  | .batchAnswer .. => some .batchAnswer
  | .fix .. => some .fix
  | .status .. => some .status
  | .readContext .. => some .readContext
  | .readSession .. => some .readSession
  | .readFolio .. => some .readFolio
  | .readPartner .. => some .readPartner
  | .readPartnerList .. => some .readPartner
  | .settlement .. => some .readPartner
  | .readLink .. => some .readLink
  | .readZone .. => some .readZone
  | .readOrders .. => some .readOrders
  | .frameArrival _ | .notClient _ | .unknownKind _ | .frameTransmit | .powerOn _ | .silenceLineChange _
  | .passStart | .passVisit | .cutPassVisit | .batchStep | .batchTimeout | .staleExpiry | .deferralRelease
  | .nresetAsserted => none

end Sys2Proof
end

