-- ==== Sys2Proof/WellFormed.lean ====
section
/-! DEFINITION. Well-formed commands: the operands of a request fit the fields that carry them (R186), and
its frame carries at least the bytes of its body. A command the wire cannot spell is not well formed; `exec`
gives even such a command a meaning, by the ranges its rule checks. -/

namespace Sys2Proof

/-- R186: a value that fits a field of `n` bytes. -/
def fits (n v : Nat) : Bool := v < 256 ^ n

/-- R185: the header fields fit their widths. -/
def Header.wellFormed (h : Header) : Bool := fits 1 h.version && fits 1 h.client && fits 2 h.length

/-- The number of body bytes that hold the named fields of a command (R186, Table 11-3). -/
def Instr.fieldBytes : Instr → Nat
  | .clientSet .. => 10
  | .generalSet .. => 26
  | .partnerSet .. => 42
  | .partnerStatus .. => 5
  | .partnerRemove .. => 4
  | .rateSet .. => 13
  | .zoneSet .. => 5
  | .linkSet .. => 16
  | .gateSet .. => 1
  | .pin .. => 10
  | .unpin .. => 10
  | .retire .. => 10
  | .grant .. => 19
  | .attach .. => 12
  | .detach .. => 2
  | .lookup .. => 8
  | .sessionOpen .. => 7
  | .sessionClose .. => 4
  | .silenceSet .. => 1
  | .usage _ _ es => 2 + 12 * es.length
  | .linkReport .. => 3
  | .reconcile .. => 9
  | .moveOrder .. => 3
  | .batchAnswer .. => 3
  | .fix .. => 1
  | .readContext .. => 11
  | .readSession .. => 2
  | .readFolio .. => 11
  | .readPartner .. => 6
  | .readPartnerList .. => 6
  | .settlement .. => 6
  | .readLink .. => 1
  | .readZone .. => 1
  | .epochCut _ | .serviceReset _ | .status _ | .readOrders _ => 0
  | .frameArrival _ | .notClient _ | .unknownKind _ | .frameTransmit | .powerOn _ | .silenceLineChange _
  | .passStart | .passVisit | .cutPassVisit | .batchStep | .batchTimeout | .staleExpiry | .deferralRelease
  | .nresetAsserted => 0

/-- R31: a context reference fits its fields. -/
def ContextRef.wellFormed : ContextRef → Bool
  | .byHandle n => fits 2 n
  | .byIdentity i => fits 8 i

/-- A record number fits its byte and is not the byte that stands for ALL. -/
def NumberOrAll.wellFormed : NumberOrAll → Bool
  | .one n => n < 255
  | .all => true

/-- R60: a usage entry fits its 12 bytes. -/
def UsageEntry.wellFormed (e : UsageEntry) : Bool := fits 2 e.session && fits 4 e.a && fits 4 e.b

/-- The operands of a command fit their fields. -/
def Instr.operandsFit : Instr → Bool
  | .clientSet _ c _ _ _ => fits 1 c
  | .generalSet _ _ v => fits 1 v.passPeriod && fits 1 v.askTimeout && fits 4 v.dormancy && fits 4 v.idle
      && fits 1 v.staleExponent && fits 1 v.confirmCount && fits 2 v.confirmHold && fits 1 v.fallback
      && fits 2 v.batchTimeout && fits 4 v.reconcileFloor && fits 1 v.reconcileTolerance
  | .partnerSet _ d => fits 4 d.code && fits 2 d.barWindow && fits 1 d.plan && decide (-32768 ≤ d.adjustment)
      && decide (d.adjustment ≤ 32767) && fits 8 d.exposure && fits 8 d.initialStep && fits 8 d.topUpStep
      && fits 8 d.lowWater
  | .partnerStatus _ c _ => fits 4 c
  | .partnerRemove _ c => fits 4 c
  | .rateSet _ r => fits 1 r.plan && fits 4 r.blockSize && fits 4 r.price && fits 1 r.minimum
  | .zoneSet _ z _ _ w => fits 1 z && fits 2 w
  | .linkSet _ n _ p => fits 1 n && fits 1 p.priority && fits 2 p.capacity && fits 2 p.surcharge && fits 1 p.degrade
      && fits 1 p.recover && fits 1 p.hold && fits 1 p.limit
  | .pin _ n i => fits 2 n && fits 8 i
  | .unpin _ n i => fits 2 n && fits 8 i
  | .retire _ n i => fits 2 n && fits 8 i
  | .grant _ n i a m => fits 2 n && fits 8 i && fits 1 a && fits 8 m
  | .attach _ i _ => fits 8 i
  | .detach _ n => fits 2 n
  | .lookup _ i => fits 8 i
  | .sessionOpen _ n _ _ => fits 2 n
  | .sessionClose _ n m => fits 2 n && fits 2 m
  | .usage _ c es => fits 2 c && c == es.length && es.all UsageEntry.wellFormed
  | .linkReport _ n _ q => fits 1 n && fits 1 q
  | .reconcile _ n b => fits 1 n && fits 8 b
  | .batchAnswer _ n _ => fits 2 n
  | .fix _ z => fits 1 z
  | .readContext _ r => r.all ContextRef.wellFormed
  | .readSession _ n => fits 2 n
  | .readFolio _ r => r.all ContextRef.wellFormed
  | .readPartner _ c => c.all (fits 4)
  | .readPartnerList _ c _ => fits 4 c
  | .settlement _ c => fits 4 c
  | .readLink _ n => n.wellFormed
  | .readZone _ n => n.wellFormed
  | .gateSet _ _ | .silenceSet _ _ | .moveOrder _ _ _ _ | .epochCut _ | .serviceReset _ | .status _ | .readOrders _ => true
  | .frameArrival _ | .notClient _ | .unknownKind _ | .frameTransmit | .powerOn _ | .silenceLineChange _
  | .passStart | .passVisit | .cutPassVisit | .batchStep | .batchTimeout | .staleExpiry | .deferralRelease
  | .nresetAsserted => true

/-- A command the part's inputs can spell: for a request, its header and operands fit their fields and the
frame carries its body; a taken frame has passed admission, so its payload holds a header (R173). -/
def Instr.wellFormed (i : Instr) : Bool :=
  match i with
  | .notClient f => 16 ≤ f.payload.length
  | .unknownKind f => 16 ≤ f.payload.length
  | _ => i.operandsFit && i.header?.all fun h => h.wellFormed && i.fieldBytes ≤ h.carried

end Sys2Proof
end

