-- ==== Sys2Proof/Decode.lean ====
section
/-! DEFINITION. Frames to commands and back: the kind numbers of Table 11-2, the field encodings of R186,
the body of each request as the list of its named fields, the reading of a received frame (R185), the
encoder that writes the frame of a request, and `decodeTableWord`.

The table spec/opcode_table.json gives no row any bits, so `decodeTableWord` answers none. What the part
itself decodes is a frame: `requestOf` reads the request a frame spells. -/

namespace Sys2Proof

/-- R186: the position of a `Role` in its list. -/
def Role.code : Role → Nat
  | .purser => 0
  | .radio => 1
  | .meter => 2
  | .router => 3
  | .nav => 4
  | .gateway => 5

/-- The `Role` at a position of its list; `none` beyond the last (R186). -/
def Role.ofCode : Nat → Option Role
  | 0 => some .purser
  | 1 => some .radio
  | 2 => some .meter
  | 3 => some .router
  | 4 => some .nav
  | 5 => some .gateway
  | _ => none

/-- R186: the position of a `ClientAction` in its list. -/
def ClientAction.code : ClientAction → Nat
  | .define => 0
  | .rebind => 1
  | .free => 2

/-- The `ClientAction` at a position of its list; `none` beyond the last (R186). -/
def ClientAction.ofCode : Nat → Option ClientAction
  | 0 => some .define
  | 1 => some .rebind
  | 2 => some .free
  | _ => none

/-- R186: the position of a `PartnerKind` in its list. -/
def PartnerKind.code : PartnerKind → Nat
  | .homeRoaming => 0
  | .shipPlan => 1

/-- The `PartnerKind` at a position of its list; `none` beyond the last (R186). -/
def PartnerKind.ofCode : Nat → Option PartnerKind
  | 0 => some .homeRoaming
  | 1 => some .shipPlan
  | _ => none

/-- R186: the position of a `PartnerStatus` in its list. -/
def PartnerStatus.code : PartnerStatus → Nat
  | .active => 0
  | .suspended => 1
  | .barred => 2

/-- The `PartnerStatus` at a position of its list; `none` beyond the last (R186). -/
def PartnerStatus.ofCode : Nat → Option PartnerStatus
  | 0 => some .active
  | 1 => some .suspended
  | 2 => some .barred
  | _ => none

/-- R186: the position of a `ZoneClass` in its list. -/
def ZoneClass.code : ZoneClass → Nat
  | .port => 0
  | .coastal => 1
  | .openSea => 2
  | .restricted => 3

/-- The `ZoneClass` at a position of its list; `none` beyond the last (R186). -/
def ZoneClass.ofCode : Nat → Option ZoneClass
  | 0 => some .port
  | 1 => some .coastal
  | 2 => some .openSea
  | 3 => some .restricted
  | _ => none

/-- R186: the position of a `TrafficClass` in its list. -/
def TrafficClass.code : TrafficClass → Nat
  | .voice => 0
  | .data => 1
  | .message => 2
  | .emergency => 3

/-- The `TrafficClass` at a position of its list; `none` beyond the last (R186). -/
def TrafficClass.ofCode : Nat → Option TrafficClass
  | 0 => some .voice
  | 1 => some .data
  | 2 => some .message
  | 3 => some .emergency
  | _ => none

/-- R186: the position of a `Rounding` in its list. -/
def Rounding.code : Rounding → Nat
  | .whole => 0
  | .prorata => 1

/-- The `Rounding` at a position of its list; `none` beyond the last (R186). -/
def Rounding.ofCode : Nat → Option Rounding
  | 0 => some .whole
  | 1 => some .prorata
  | _ => none

/-- R186: the position of a `ServiceLevel` in its list. -/
def ServiceLevel.code : ServiceLevel → Nat
  | .full => 0
  | .limited => 1
  | .emergencyOnly => 2

/-- The `ServiceLevel` at a position of its list; `none` beyond the last (R186). -/
def ServiceLevel.ofCode : Nat → Option ServiceLevel
  | 0 => some .full
  | 1 => some .limited
  | 2 => some .emergencyOnly
  | _ => none

/-- R186: the position of a `LinkAction` in its list. -/
def LinkAction.code : LinkAction → Nat
  | .keep => 0
  | .adminOn => 1
  | .adminOff => 2
  | .clearSuspect => 3

/-- The `LinkAction` at a position of its list; `none` beyond the last (R186). -/
def LinkAction.ofCode : Nat → Option LinkAction
  | 0 => some .keep
  | 1 => some .adminOn
  | 2 => some .adminOff
  | 3 => some .clearSuspect
  | _ => none

/-- R186: the position of a `LinkKind` in its list. -/
def LinkKind.code : LinkKind → Nat
  | .harbourFixed => 0
  | .shoreCell => 1
  | .microwave => 2
  | .satellite => 3

/-- The `LinkKind` at a position of its list; `none` beyond the last (R186). -/
def LinkKind.ofCode : Nat → Option LinkKind
  | 0 => some .harbourFixed
  | 1 => some .shoreCell
  | 2 => some .microwave
  | 3 => some .satellite
  | _ => none

/-- R186: the position of a `Gate` in its list. -/
def Gate.code : Gate → Nat
  | .opened => 0
  | .held => 1

/-- The `Gate` at a position of its list; `none` beyond the last (R186). -/
def Gate.ofCode : Nat → Option Gate
  | 0 => some .opened
  | 1 => some .held
  | _ => none

/-- R186: the position of an `Indication` in its list. -/
def Indication.code : Indication → Nat
  | .up => 0
  | .down => 1

/-- The `Indication` at a position of its list; `none` beyond the last (R186). -/
def Indication.ofCode : Nat → Option Indication
  | 0 => some .up
  | 1 => some .down
  | _ => none

/-- R186: the position of a `Scope` in its list. -/
def Scope.code : Scope → Nat
  | .all => 0
  | .nonEmergency => 1

/-- The `Scope` at a position of its list; `none` beyond the last (R186). -/
def Scope.ofCode : Nat → Option Scope
  | 0 => some .all
  | 1 => some .nonEmergency
  | _ => none

/-- R186: the position of a `Verdict` in its list. -/
def Verdict.code : Verdict → Nat
  | .accept => 0
  | .refuse => 1

/-- The `Verdict` at a position of its list; `none` beyond the last (R186). -/
def Verdict.ofCode : Nat → Option Verdict
  | 0 => some .accept
  | 1 => some .refuse
  | _ => none

/-- Table 11-2: the number of a request kind. -/
def Kind.code : Kind → Nat
  | .clientSet => 0x0001
  | .generalSet => 0x0002
  | .partnerSet => 0x0003
  | .partnerStatus => 0x0004
  | .partnerRemove => 0x0005
  | .rateSet => 0x0006
  | .zoneSet => 0x0007
  | .linkSet => 0x0008
  | .gateSet => 0x0009
  | .pin => 0x000A
  | .unpin => 0x000B
  | .retire => 0x000C
  | .grant => 0x000D
  | .epochCut => 0x000E
  | .serviceReset => 0x000F
  | .attach => 0x0011
  | .detach => 0x0012
  | .lookup => 0x0013
  | .sessionOpen => 0x0014
  | .sessionClose => 0x0015
  | .silenceSet => 0x0016
  | .usage => 0x0021
  | .linkReport => 0x0031
  | .moveOrder => 0x0032
  | .batchAnswer => 0x0033
  | .reconcile => 0x0034
  | .fix => 0x0041
  | .status => 0x0051
  | .readContext => 0x0052
  | .readSession => 0x0053
  | .readFolio => 0x0054
  | .readPartner => 0x0055
  | .readLink => 0x0056
  | .readZone => 0x0057
  | .readOrders => 0x0058

/-- Table 11-2: the request kind of a number; `none` for every number the table does not list (R185). -/
def Kind.ofCode : Nat → Option Kind
  | 0x0001 => some .clientSet
  | 0x0002 => some .generalSet
  | 0x0003 => some .partnerSet
  | 0x0004 => some .partnerStatus
  | 0x0005 => some .partnerRemove
  | 0x0006 => some .rateSet
  | 0x0007 => some .zoneSet
  | 0x0008 => some .linkSet
  | 0x0009 => some .gateSet
  | 0x000A => some .pin
  | 0x000B => some .unpin
  | 0x000C => some .retire
  | 0x000D => some .grant
  | 0x000E => some .epochCut
  | 0x000F => some .serviceReset
  | 0x0011 => some .attach
  | 0x0012 => some .detach
  | 0x0013 => some .lookup
  | 0x0014 => some .sessionOpen
  | 0x0015 => some .sessionClose
  | 0x0016 => some .silenceSet
  | 0x0021 => some .usage
  | 0x0031 => some .linkReport
  | 0x0032 => some .moveOrder
  | 0x0033 => some .batchAnswer
  | 0x0034 => some .reconcile
  | 0x0041 => some .fix
  | 0x0051 => some .status
  | 0x0052 => some .readContext
  | 0x0053 => some .readSession
  | 0x0054 => some .readFolio
  | 0x0055 => some .readPartner
  | 0x0056 => some .readLink
  | 0x0057 => some .readZone
  | 0x0058 => some .readOrders
  | _ => none

/-- Table 11-2: the body length of a request kind; `none` for USAGE, whose length follows its entry count. -/
def Kind.bodyLength : Kind → Option Nat
  | .clientSet => some 12
  | .generalSet => some 28
  | .partnerSet => some 44
  | .partnerStatus => some 8
  | .partnerRemove => some 4
  | .rateSet => some 16
  | .zoneSet => some 8
  | .linkSet => some 16
  | .gateSet => some 4
  | .pin => some 12
  | .unpin => some 12
  | .retire => some 12
  | .grant => some 20
  | .epochCut => some 0
  | .serviceReset => some 0
  | .attach => some 12
  | .detach => some 4
  | .lookup => some 8
  | .sessionOpen => some 8
  | .sessionClose => some 4
  | .silenceSet => some 4
  | .usage => none
  | .linkReport => some 4
  | .moveOrder => some 4
  | .batchAnswer => some 4
  | .reconcile => some 12
  | .fix => some 4
  | .status => some 0
  | .readContext => some 12
  | .readSession => some 4
  | .readFolio => some 12
  | .readPartner => some 8
  | .readLink => some 4
  | .readZone => some 4
  | .readOrders => some 0

/-! ### Numbers in bytes -/

/-- The number a list of bytes spells, most significant byte first. -/
def be : List Byte → Nat
  | [] => 0
  | b :: bs => b.toNat * 256 ^ bs.length + be bs

/-- A number in `w` bytes, most significant byte first. -/
def beBytes : Nat → Nat → List Byte
  | 0, _ => []
  | w + 1, v => BitVec.ofNat 8 (v / 256 ^ w) :: beBytes w v

/-- The fields of the given widths that a list of bytes holds one after the other. -/
def readFields : List Nat → List Byte → List Nat
  | [], _ => []
  | w :: ws, bs => be (bs.take w) :: readFields ws (bs.drop w)

/-- The bytes of fields of the given widths, one after the other. -/
def writeFields : List Nat → List Nat → List Byte
  | w :: ws, v :: vs => beBytes w v ++ writeFields ws vs
  | _, _ => []

/-- R186: an adjustment as a signed 16-bit field. -/
def signed16 (n : Nat) : Int := if n < 32768 then (n : Int) else (n : Int) - 65536

/-- R186: the 16-bit two's complement field of an adjustment. -/
def unsigned16 (i : Int) : Nat := (i % 65536).toNat

/-- R186: a flag byte, 0 clear and 1 set; any other value reads as `Config.oddFlag` says (log entry 2). -/
def flagOf (n : Nat) : Bool := if n = 0 then false else if n = 1 then true else Config.oddFlag n

/-- R186: the byte of a flag. -/
def flagByte (b : Bool) : Nat := if b then 1 else 0

/-- The value a byte outside every list is written as: 255 names nothing where no indication is admitted. -/
def noValue : Nat := 255

/-- R186: an enumerated byte written from an operand. -/
def enumByte {α : Type} (code : α → Nat) (o : Option α) : Nat := (o.map code).getD noValue

/-- R124, R186: the source byte of a MOVE_ORDER, 255 for RESCUE. -/
def sourceOf (n : Nat) : Option Source :=
  if h : n < 8 then some (.link ⟨n, h⟩) else if n = 255 then some .rescue else none

/-- The byte of a migration source. -/
def Source.code : Source → Nat
  | .link l => l.val
  | .rescue => 255

/-- R124, R186: the destination byte of a MOVE_ORDER, 255 for AUTO. -/
def destOf (n : Nat) : Option Dest :=
  if h : n < 8 then some (.fixed ⟨n, h⟩) else if n = 255 then some .auto else none

/-- The byte of a migration destination. -/
def Dest.code : Dest → Nat
  | .fixed l => l.val
  | .auto => 255

/-- R120, R162, R186: a record number, or 255 for ALL. -/
def numberOrAll (n : Nat) : NumberOrAll := if n = 255 then .all else .one n

/-- The byte of a record number or of ALL. -/
def NumberOrAll.code : NumberOrAll → Nat
  | .one n => n
  | .all => 255

/-- R31, R97: selector BY_HANDLE 0, BY_IDENTITY 1; the field the selector does not name is not read. -/
def contextRefOf (selector handle identity : Nat) : Option ContextRef :=
  match selector with
  | 0 => some (.byHandle handle)
  | 1 => some (.byIdentity identity)
  | _ => none

/-- The selector, handle and identity fields of a context reference. -/
def contextRefFields : Option ContextRef → List Nat
  | some (.byHandle n) => [0, n, 0]
  | some (.byIdentity id) => [1, 0, id]
  | none => [noValue, 0, 0]

/-! ### The bodies of the requests -/

/-- The widths in bytes of the named fields of a request body, in the order its owning rule names them
(R186). The pad bytes up to the body length of Table 11-2 are not fields. A USAGE body has its own reading. -/
def Kind.layout : Kind → List Nat
  | .clientSet => [1, 1, 1, 1, 6]
  | .generalSet => [2, 1, 1, 4, 4, 1, 1, 2, 1, 2, 4, 1, 2]
  | .partnerSet => [4, 1, 2, 1, 2, 8, 8, 8, 8]
  | .partnerStatus => [4, 1]
  | .partnerRemove => [4]
  | .rateSet => [1, 1, 1, 4, 4, 1, 1]
  | .zoneSet => [1, 1, 1, 2]
  | .linkSet => [1, 1, 1, 4, 1, 2, 2, 1, 1, 1, 1]
  | .gateSet => [1]
  | .pin => [2, 8]
  | .unpin => [2, 8]
  | .retire => [2, 8]
  | .grant => [2, 8, 1, 8]
  | .epochCut => []
  | .serviceReset => []
  | .attach => [8, 4]
  | .detach => [2]
  | .lookup => [8]
  | .sessionOpen => [2, 1, 4]
  | .sessionClose => [2, 2]
  | .silenceSet => [1]
  | .usage => [2]
  | .linkReport => [1, 1, 1]
  | .moveOrder => [1, 1, 1]
  | .batchAnswer => [2, 1]
  | .reconcile => [1, 8]
  | .fix => [1]
  | .status => []
  | .readContext => [1, 2, 8]
  | .readSession => [2]
  | .readFolio => [1, 2, 8]
  | .readPartner => [1, 4, 1]
  | .readLink => [1]
  | .readZone => [1]
  | .readOrders => []

/-- The request that a kind and the fields of a body spell. Two of the cases read one kind as several rows:
the form and the settle option of a READ_PARTNER choose among READ_PARTNER, READ_PARTNER_LIST and SETTLEMENT. -/
def Instr.ofFields (h : Header) : Kind → List Nat → Option Instr
  | .clientSet, [c, a, r, p, m] => some
      (.clientSet h c (ClientAction.ofCode a) (Role.ofCode r) (if flagOf p then some (BitVec.ofNat 48 m) else none))
  | .generalSet, [f, pp, at_, d, i, k, cc, ch, fz, bt, rf, rt, e] => some
      (.generalSet h (BitVec.ofNat 16 f) ⟨pp, at_, d, i, k, cc, ch, fz, bt, rf, rt, BitVec.ofNat 16 e⟩)
  | .partnerSet, [c, k, w, p, a, x, i, t, l] => some
      (.partnerSet h ⟨c, PartnerKind.ofCode k, w, p, signed16 a, x, i, t, l⟩)
  | .partnerStatus, [c, s] => some (.partnerStatus h c (PartnerStatus.ofCode s))
  | .partnerRemove, [c] => some (.partnerRemove h c)
  | .rateSet, [p, z, c, b, pr, r, m] => some
      (.rateSet h ⟨p, ZoneClass.ofCode z, TrafficClass.ofCode c, b, pr, Rounding.ofCode r, m⟩)
  | .zoneSet, [z, c, l, w] => some (.zoneSet h z (ZoneClass.ofCode c) (ServiceLevel.ofCode l) w)
  | .linkSet, [n, a, k, m, p, c, s, d, r, hd, l] => some
      (.linkSet h n (LinkAction.ofCode a) ⟨LinkKind.ofCode k, BitVec.ofNat 32 m, p, c, s, d, r, hd, l⟩)
  | .gateSet, [p] => some (.gateSet h (Gate.ofCode p))
  | .pin, [n, i] => some (.pin h n i)
  | .unpin, [n, i] => some (.unpin h n i)
  | .retire, [n, i] => some (.retire h n i)
  | .grant, [n, i, a, m] => some (.grant h n i a m)
  | .epochCut, [] => some (.epochCut h)
  | .serviceReset, [] => some (.serviceReset h)
  | .attach, [i, r] => some (.attach h i (BitVec.ofNat 32 r))
  | .detach, [n] => some (.detach h n)
  | .lookup, [i] => some (.lookup h i)
  | .sessionOpen, [n, c, r] => some (.sessionOpen h n (TrafficClass.ofCode c) (BitVec.ofNat 32 r))
  | .sessionClose, [n, m] => some (.sessionClose h n m)
  | .silenceSet, [v] => some (.silenceSet h (if v = 0 then some false else if v = 1 then some true else none))
  | .linkReport, [n, i, q] => some (.linkReport h n (Indication.ofCode i) q)
  | .moveOrder, [s, d, c] => some (.moveOrder h (sourceOf s) (destOf d) (Scope.ofCode c))
  | .batchAnswer, [n, v] => some (.batchAnswer h n (Verdict.ofCode v))
  | .reconcile, [n, b] => some (.reconcile h n b)
  | .fix, [z] => some (.fix h z)
  | .status, [] => some (.status h)
  | .readContext, [s, n, i] => some (.readContext h (contextRefOf s n i))
  | .readSession, [n] => some (.readSession h n)
  | .readFolio, [s, n, i] => some (.readFolio h (contextRefOf s n i))
  | .readPartner, [f, c, o] =>
      match f with
      | 0 => if flagOf o then some (.settlement h c) else some (.readPartner h (some c))
      | 1 => some (.readPartnerList h c (flagOf o))
      | _ => some (.readPartner h none)
  | .readLink, [n] => some (.readLink h (numberOrAll n))
  | .readZone, [n] => some (.readZone h (numberOrAll n))
  | .readOrders, [] => some (.readOrders h)
  | _, _ => none

/-- The fields a request writes into its body, as `Instr.ofFields` reads them. -/
def Instr.fields : Instr → List Nat
  | .clientSet _ c a r m =>
      [c, enumByte ClientAction.code a, enumByte Role.code r, flagByte m.isSome, (m.map BitVec.toNat).getD 0]
  | .generalSet _ f v => [f.toNat, v.passPeriod, v.askTimeout, v.dormancy, v.idle, v.staleExponent, v.confirmCount,
      v.confirmHold, v.fallback, v.batchTimeout, v.reconcileFloor, v.reconcileTolerance, v.etherType.toNat]
  | .partnerSet _ d => [d.code, enumByte PartnerKind.code d.kind, d.barWindow, d.plan, unsigned16 d.adjustment,
      d.exposure, d.initialStep, d.topUpStep, d.lowWater]
  | .partnerStatus _ c s => [c, enumByte PartnerStatus.code s]
  | .partnerRemove _ c => [c]
  | .rateSet _ r => [r.plan, enumByte ZoneClass.code r.zoneClass, enumByte TrafficClass.code r.cls, r.blockSize,
      r.price, enumByte Rounding.code r.rounding, r.minimum]
  | .zoneSet _ z c l w => [z, enumByte ZoneClass.code c, enumByte ServiceLevel.code l, w]
  | .linkSet _ n a p => [n, enumByte LinkAction.code a, enumByte LinkKind.code p.kind, p.mask.toNat, p.priority,
      p.capacity, p.surcharge, p.degrade, p.recover, p.hold, p.limit]
  | .gateSet _ p => [enumByte Gate.code p]
  | .pin _ n i => [n, i]
  | .unpin _ n i => [n, i]
  | .retire _ n i => [n, i]
  | .grant _ n i a m => [n, i, a, m]
  | .attach _ i r => [i, r.toNat]
  | .detach _ n => [n]
  | .lookup _ i => [i]
  | .sessionOpen _ n c r => [n, enumByte TrafficClass.code c, r.toNat]
  | .sessionClose _ n m => [n, m]
  | .silenceSet _ v => [enumByte flagByte v]
  | .usage _ c _ => [c]
  | .linkReport _ n i q => [n, enumByte Indication.code i, q]
  | .reconcile _ n b => [n, b]
  | .moveOrder _ s d c => [(s.map Source.code).getD 254, (d.map Dest.code).getD 254, enumByte Scope.code c]
  | .batchAnswer _ n v => [n, enumByte Verdict.code v]
  | .fix _ z => [z]
  | .readContext _ r => contextRefFields r
  | .readSession _ n => [n]
  | .readFolio _ r => contextRefFields r
  | .readPartner _ (some c) => [0, c, 0]
  | .readPartner _ none => [noValue, 0, 0]
  | .readPartnerList _ c o => [1, c, flagByte o]
  | .settlement _ c => [0, c, 1]
  | .readLink _ n => [n.code]
  | .readZone _ n => [n.code]
  | .epochCut _ | .serviceReset _ | .status _ | .readOrders _ => []
  | .frameArrival _ | .notClient _ | .unknownKind _ | .frameTransmit | .powerOn _ | .silenceLineChange _
  | .passStart | .passVisit | .cutPassVisit | .batchStep | .batchTimeout | .staleExpiry | .deferralRelease
  | .nresetAsserted => []

/-- Table 11-3: one usage entry read from its 12 bytes; only the lowest bit of the flags byte is interpreted (R60). -/
def entryOf (bs : List Byte) : UsageEntry :=
  match readFields [2, 1, 1, 4, 4] bs with
  | [n, f, _, a, b] => ⟨n, f % 2 = 1, a, b⟩
  | _ => ⟨0, false, 0, 0⟩

/-- Table 11-3: up to `count` usage entries, as many as the bytes hold. -/
def entriesOf : Nat → List Byte → List UsageEntry
  | 0, _ => []
  | _ + 1, [] => []
  | n + 1, b :: bs => entryOf (b :: bs) :: entriesOf n ((b :: bs).drop 12)

/-- Table 11-3: the 12 bytes of a usage entry. -/
def UsageEntry.bytes (e : UsageEntry) : List Byte :=
  writeFields [2, 1, 1, 4, 4] [e.session, flagByte e.uncertain, 0, e.a, e.b]

/-! ### Frames -/

/-- Table 11-1: the widths of the header's fields. -/
def headerLayout : List Nat := [1, 1, 2, 4, 2, 2, 4]

/-- Table 11-1: the length of the header. -/
def headerLength : Nat := 16

/-- R185: the header fields of a received frame, with its kind number. The result field and the device
seconds field are not read. -/
def headerOf (f : Frame) : Header × Nat :=
  match readFields headerLayout f.payload with
  | [v, c, k, t, l, _, _] => (⟨f.src, f.etherType, v, c, BitVec.ofNat 32 t, l, f.payload.length - headerLength⟩, k)
  | _ => (⟨f.src, f.etherType, 0, 0, 0, 0, 0⟩, 0)

/-- The request a frame spells; `none` where its kind number is no request kind. -/
def requestOf (f : Frame) : Option Instr :=
  let (h, k) := headerOf f
  let body := f.payload.drop headerLength
  match Kind.ofCode k with
  | none => none
  | some .usage => let c := be (body.take 2)
                   some (.usage h c (entriesOf c (body.drop 2)))
  | some kind => Instr.ofFields h kind (readFields kind.layout body)

/-- The bytes of a request's body: its named fields and, for USAGE, its entries. -/
def Instr.body (i : Instr) : List Byte :=
  match i with
  | .usage _ c es => beBytes 2 c ++ es.flatMap UsageEntry.bytes
  | _ => match i.kind? with
         | some k => writeFields k.layout i.fields
         | none => []

/-- The frame of a request, to a destination address and with a check sequence: the header of Table 11-1,
the body, and bytes of 0 up to the number of bytes the header says the frame carries. -/
def Instr.frame (dst : Mac) (fcs : BitVec 32) (i : Instr) : Option Frame :=
  match i.header?, i.kind? with
  | some h, some k => some
      { dst := dst, src := h.src, etherType := h.etherType, fcs := fcs,
        payload := writeFields headerLayout [h.version, h.client, k.code, h.tag.toNat, h.length, 0, 0]
          ++ i.body ++ List.replicate (h.carried - i.body.length) 0 }
  | _, _ => none

/-- The command that a word spells by the bits of spec/opcode_table.json. The table gives no row any bits
("fields" is empty in every row and none has a match), so no word spells a command. -/
def decodeTableWord (_nbits _w : Nat) : Option Instr := none

end Sys2Proof
end

