-- ==== Sys2Proof/Machine/State.lean ====
section
/-! DEFINITION. The machine state: every table, record, count and flag the manual gives the PL-740, block by
block (Figure 1-1), as plain data. A sparse table (contexts, sessions, partners, set rate cells, clients in
use) is a list of numbered records in strictly rising order of their numbers; a fixed row of records (links,
zones, plan use counts) is a vector. -/

namespace Sys2Proof.Machine

/-- A sparse table: numbered records in strictly rising order. -/
abbrev Table (α : Type) := List (Nat × α)

/-! ### Partners, rate plans and epochs (TFU, and CRU's settlement records) -/

/-- Four zone-class subtotals (R3, R22). -/
structure Subtotals where
  port : Nat
  coastal : Nat
  openSea : Nat
  restricted : Nat
  deriving DecidableEq, Repr

/-- R101: what the last settlement recorded. -/
structure Settlement where
  time : Nat
  total : Nat
  sub : Subtotals
  deriving DecidableEq, Repr

/-- R3, Table 1-1: a partner record, with the settlement record of its slot (R101). -/
structure Partner where
  code : Nat
  kind : PartnerKind
  status : PartnerStatus
  barTime : Option Nat
  barWindow : Nat
  plan : PlanId
  adjustment : Int
  exposure : Nat
  initialStep : Nat
  topUpStep : Nat
  lowWater : Nat
  openTotal : Nat
  closedTotal : Nat
  closedSub : Subtotals
  present : Nat
  sessions : Nat
  settleNumber : Nat
  settled : Option Settlement
  deriving DecidableEq, Repr

/-- R10: the values of a rate cell. The set flag is the cell's presence in the table of set cells. -/
structure Cell where
  blockSize : Nat
  price : Nat
  rounding : Rounding
  minimum : Nat
  deriving DecidableEq, Repr

/-- R14: a revision entry. It is staged while its old values are absent and applied while they are present. -/
inductive Revision
  | cell (index : Nat) (new : Cell) (old : Option Cell)
  | partner (index : Nat) (plan : PlanId) (adjustment : Int) (old : Option (PlanId × Int))
  deriving DecidableEq, Repr

/-- R15: the previous epoch and the previous zone class, held together while the cut pass runs. -/
structure Previous where
  epoch : BitVec 16
  zoneClass : ZoneClass
  deriving DecidableEq, Repr

/-- The Tariff Unit's state (R1, R10, R13, R14, R15). -/
structure Tariff where
  partners : Table Partner
  codes : List Nat
  cells : Table Cell
  revisions : List Revision
  epoch : BitVec 16
  previous : Option Previous
  planUse : Vector Nat 32
  deriving DecidableEq, Repr

/-! ### Subscriber contexts (SBT, with CRU's credit records) -/

/-- R22: a present context's state. -/
inductive Presence | attached | dormant
  deriving DecidableEq, Repr

/-- R84: the credit state. -/
inductive CreditState | unfunded | funded | exhausted
  deriving DecidableEq, Repr

/-- R85: an outstanding ask. -/
structure Ask where
  number : Nat
  deadline : Nat
  deriving DecidableEq, Repr

/-- R22, Table 2-1: a subscriber context with its folio and credit record. -/
structure Context where
  identity : Nat
  partner : Nat
  presence : Presence
  pinned : Bool
  attachTime : Nat
  dormancy : Option Nat
  sessions : List Nat
  folio : Nat
  sub : Subtotals
  granted : Nat
  consumed : Nat
  credit : CreditState
  ask : Option Ask
  lastAsk : Nat
  denied : Bool
  lapsed : Nat
  ref : BitVec 32
  deriving DecidableEq, Repr

/-- The Subscriber Table's state (R19, R25). -/
structure Subscribers where
  contexts : Table Context
  pinned : Nat
  gate : Gate
  deriving DecidableEq, Repr

/-! ### Sessions (SST) -/

/-- R43: a session's service state. -/
inductive Service | active | blocked
  deriving DecidableEq, Repr

/-- R41, R44: a session's binding. -/
inductive Binding
  | bound (link : LinkId)
  | moving (source : Source) (dest : LinkId) (batch : Nat)
  | stranded
  deriving DecidableEq, Repr

/-- R41, Table 3-1: an open session's record. -/
structure Session where
  subscriber : Nat
  cls : TrafficClass
  service : Service
  binding : Binding
  epoch : BitVec 16
  residue : Nat
  carry : Nat
  blocks : Nat
  charge : Nat
  opened : Nat
  lastUsage : Nat
  ref : BitVec 32
  clamped : Nat
  uncertain : Nat
  deriving DecidableEq, Repr

/-- The Session Table's state (R40). A record is free when the table does not list its handle. -/
structure Sessions where
  records : Table Session
  stranded : Nat
  deriving DecidableEq, Repr

/-! ### Backhaul links (LKT) -/

/-- R104: a link's state. -/
inductive LinkState | offline | down | up | degraded | suspect
  deriving DecidableEq, Repr

/-- R103, Table 6-1: a link record. Bit z of the mask permits zone z. -/
structure Link where
  kind : LinkKind
  state : LinkState
  mask : BitVec 32
  priority : Nat
  capacity : Nat
  surcharge : Nat
  quality : Nat
  degrade : Nat
  recover : Nat
  hold : Nat
  streak : Nat
  bound : Nat
  emergency : Nat
  reserved : Nat
  accumulator : Nat
  discrepancy : Nat
  limit : Nat
  deriving DecidableEq, Repr

/-! ### Link migration (MGE) -/

/-- R122: the cause of an order. -/
inductive OrderCause | router | degraded | failed | zone | rescue
  deriving DecidableEq, Repr

/-- R122: a migration order. Its state is its place: the head is RUNNING, every other order QUEUED. -/
structure Order where
  source : Source
  dest : Dest
  scope : Scope
  cause : OrderCause
  excluded : List LinkId
  batches : Nat
  moved : Nat
  deriving DecidableEq, Repr

/-- R130: the in-flight batch. -/
structure Batch where
  number : Nat
  source : Source
  dest : LinkId
  sessions : List Nat
  sent : Nat
  deadline : Nat
  deriving DecidableEq, Repr

/-- The Migration Engine's state (R122, R130). -/
structure Migration where
  queue : List Order
  batch : Option Batch
  counter : Nat
  deriving DecidableEq, Repr

/-! ### Zones, tracking and silence (ZNT) -/

/-- R144, Table 8-1: a zone record. -/
structure Zone where
  defined : Bool
  cls : ZoneClass
  level : ServiceLevel
  window : Nat
  deriving DecidableEq, Repr

/-- R146: the tracking state. -/
inductive Tracking | unplaced | placed | stale
  deriving DecidableEq, Repr

/-- R147: the candidate zone. -/
structure Candidate where
  zone : ZoneId
  count : Nat
  since : Nat
  deriving DecidableEq, Repr

/-- R156: the causes of a ZONE_CHANGED notice. -/
inductive ZoneCause | confirmed | stale | placedAgain | window
  deriving DecidableEq, Repr

/-- R156: what a ZONE_CHANGED notice carried that no other record keeps for READ_ZONE to return: its cause and
the epoch after its event (log entry 32). -/
structure ZoneReport where
  cause : ZoneCause
  epoch : BitVec 16
  deriving DecidableEq, Repr

/-- The Zone Tracker's state (R144, R146, R157): the zone table, the tracking record, the SILENCE line's
level and RADIO's flag; what the last ZONE_CHANGED notice reported (`report`, R156), none before the first;
and what a cut pass leaves the tracker to do when it ends: the release of a deferral (`releaseDue`, R151)
and a staleness expiry that fell while the pass ran (`expiryHeld`, R152). -/
structure ZoneTracker where
  zones : Vector Zone 32
  tracking : Tracking
  effective : Option ZoneId
  since : Nat
  candidate : Option Candidate
  lastFix : Option Nat
  deferred : Bool
  line : Bool
  flag : Bool
  report : Option ZoneReport
  releaseDue : Bool
  expiryHeld : Bool
  deriving DecidableEq, Repr

/-! ### Time base, subscriber pass and general settings (TBP) -/

/-- Table 9-2: the general settings. The pass period setting is the pending period (R166). -/
structure Settings where
  passPeriod : Nat
  askTimeout : Nat
  dormancy : Nat
  idle : Nat
  staleExponent : Nat
  confirmCount : Nat
  confirmHold : Nat
  fallback : Option ZoneId
  batchTimeout : Nat
  reconcileFloor : Nat
  reconcileTolerance : Nat
  etherType : BitVec 16
  deriving DecidableEq, Repr

/-- The Time Base's state (R164, R166, R170). `passPos` is the next handle the pass visits, and 4,072 once
the pass has visited its last handle; `passElapsed` is the time the pass has run, by which its instants are
measured. -/
structure TimeBase where
  clock : Nat
  passPos : Nat
  passStart : Nat
  passElapsed : Nat
  passPeriod : Nat
  settings : Settings
  deriving DecidableEq, Repr

/-! ### The request port (RQP) -/

/-- R179: the record of a client in use. -/
structure Client where
  role : Role
  address : Option Mac
  deriving DecidableEq, Repr

/-- R183: the last reset kind. -/
inductive ResetKind | powerOn | service
  deriving DecidableEq, Repr

/-- Table 10-2: the result codes. -/
inductive Result
  | ok | okClamped | already | notClient | notPermitted | unknownKind | badLength | badValue | unknownHandle
  | tableFull | bucketFull | unknownPartner | partnerSuspended | partnerBarred | exposureLimit | gateHeld
  | serviceForbidden | noTariff | unfunded | sessionLimit | noLink | linkLatched | busy | late | deferred
  | silent | pinned | sessionsOpen | pinLimit | inUse
  deriving DecidableEq, Repr

/-- R186: one field of a body, with its width. -/
inductive Field
  | u8 (n : Nat) | u16 (n : Nat) | u32 (n : Nat) | u64 (n : Nat) | mac (a : Mac)
  deriving DecidableEq, Repr

/-- R176, R177: a response or a copy of a notice in the transmit order. The station address is its source. -/
structure OutFrame where
  dst : Mac
  etherType : BitVec 16
  client : Nat
  kind : BitVec 16
  tag : BitVec 32
  result : Result
  seconds : Nat
  body : List Field
  deriving DecidableEq, Repr

/-- The Request Port's state (R173, R178, R179, R183). `wire` holds the bytes of the frame that FRAME_TRANSMIT
last put on the line; `inReset` says that nRESET is asserted. -/
structure Port where
  clients : Table Client
  inputQueue : List Frame
  transmit : List OutFrame
  wire : Option (List Byte)
  lastReset : ResetKind
  station : Mac
  inReset : Bool
  deriving DecidableEq, Repr

/-! ### Notices -/

/-- The reasons for a close (Section 3.5). -/
inductive CloseReason | radio | detach | idle | released | silence
  deriving DecidableEq, Repr

/-- R110: the causes of a LINK_STATE notice. -/
inductive LinkCause | admin | report | reconcile
  deriving DecidableEq, Repr

/-- R134: the causes of a BATCH_ABANDONED notice. -/
inductive AbandonCause | timeout | destinationLost | emptied | silence
  deriving DecidableEq, Repr

/-- R138: the outcomes of an order. -/
inductive OrderOutcome | done | resolved | stranded | aborted | discarded
  deriving DecidableEq, Repr

/-- Table 10-3: the notices, with the fields their owning rules name. -/
inductive Notice
  /-- R93. -/
  | blocked (handle : Nat) (ref : BitVec 32) (granted consumed : Nat) (sessions : List Nat)
  /-- R91. -/
  | unblocked (handle : Nat) (ref : BitVec 32) (granted consumed : Nat) (sessions : List Nat)
  /-- R57. -/
  | sessionClosed (session subscriber : Nat) (cls : TrafficClass) (reason : CloseReason) (charge blocks : Nat)
      (ref : BitVec 32)
  /-- R57. -/
  | stranded (session subscriber : Nat) (cls : TrafficClass) (former : Option LinkId) (ref : BitVec 32)
  /-- R156. -/
  | zoneChanged (cause : ZoneCause) (zone : Option ZoneId) (cls : ZoneClass) (level : ServiceLevel)
      (window since deadline : Nat) (tracking : Tracking) (epoch : BitVec 16)
  /-- R8. -/
  | partnerStatus (code : Nat) (status : PartnerStatus) (deadline : Option Nat)
  /-- R160: an entry notice carries the contexts made DORMANT and the sessions closed. -/
  | silence (silent line flag : Bool) (time : Nat) (entry : Option (Nat × Nat))
  /-- R130. -/
  | moveBatch (number : Nat) (source : Source) (dest : LinkId) (sessions : List Nat)
  /-- R134. -/
  | batchAbandoned (number : Nat) (source : Source) (dest : LinkId) (cause : AbandonCause) (returned : Nat)
  /-- R138. -/
  | orderEnded (source : Source) (dest : Dest) (scope : Scope) (cause : OrderCause) (outcome : OrderOutcome)
      (batches moved stranded : Nat)
  /-- R110. -/
  | linkState (link : LinkId) (kind : LinkKind) (before after : LinkState) (cause : LinkCause)
      (quality bound emergency discrepancy : Nat)
  /-- R85. -/
  | creditAsk (handle identity code ask amount deadline : Nat)
  /-- R94. -/
  | askCancel (handle identity ask : Nat)
  /-- R94. -/
  | creditReturn (handle identity code amount : Nat)
  deriving DecidableEq, Repr

/-! ### The state -/

/-- The state of the part. `cutPos` is the cut pass (R79): `none` when it is not running, else the next session
handle it visits. `raised` is the model's own: the notices raised so far in the event being taken, which join
the transmit order when it ends, so that it is empty between events. `pending` is the queue of commands
waiting, first in first out. -/
structure State where
  port : Port
  tariff : Tariff
  subs : Subscribers
  sess : Sessions
  cutPos : Option Nat
  links : Vector Link 8
  mig : Migration
  zone : ZoneTracker
  time : TimeBase
  raised : List Notice
  pending : List Instr
  deriving DecidableEq, Repr

/-- Why a command stops with a fault. It has no constructor: the manual names no event that stops the part,
and no command of this model faults (safe: a fault claimed nowhere). -/
inductive Fault
  deriving DecidableEq, Repr

/-- Why a command is refused. -/
inductive Refusal
  /-- Raised by `exec` for a command that has no meaning yet; no command of this model is left so. Safe. -/
  | notModelled (mnemonic : String)
  deriving DecidableEq, Repr

/-- What a command answers. -/
abbrev Outcome := Host.Outcome State Fault Refusal

/-! ### Power-on values -/

/-- No money in any zone class. -/
def Subtotals.zero : Subtotals := ⟨0, 0, 0, 0⟩

/-- Table 6-1: a link at power-on. -/
def Link.powerOn : Link :=
  { kind := .harbourFixed, state := .offline, mask := 0, priority := 0, capacity := 0, surcharge := 0, quality := 0,
    degrade := 30, recover := 50, hold := 2, streak := 0, bound := 0, emergency := 0, reserved := 0,
    accumulator := 0, discrepancy := 0, limit := 3 }

/-- Table 8-1: a zone at power-on. -/
def Zone.powerOn : Zone := { defined := false, cls := .port, level := .full, window := 0 }

/-- Table 9-2: the default settings. -/
def Settings.defaults : Settings :=
  { passPeriod := 2, askTimeout := 20, dormancy := 1800, idle := 600, staleExponent := 6, confirmCount := 3,
    confirmHold := 30, fallback := none, batchTimeout := 2000, reconcileFloor := 4096, reconcileTolerance := 5,
    etherType := 0x88B6 }

/-- R18: the Tariff Unit at power-on. -/
def Tariff.powerOn : Tariff :=
  { partners := [], codes := [], cells := [], revisions := [], epoch := 0, previous := none,
    planUse := Vector.replicate 32 0 }

/-- R163: the Zone Tracker at power-on, with the SILENCE line sampled at this level. -/
def ZoneTracker.powerOn (line : Bool) : ZoneTracker :=
  { zones := Vector.replicate 32 Zone.powerOn, tracking := .unplaced, effective := none, since := 0,
    candidate := none, lastFix := none, deferred := false, line := line, flag := false, report := none,
    releaseDue := false, expiryHeld := false }

/-- R172: the Time Base at power-on. -/
def TimeBase.powerOn : TimeBase :=
  { clock := 0, passPos := 0, passStart := 0, passElapsed := 0, passPeriod := 2, settings := Settings.defaults }

/-- R173, R179, R183: the Request Port at power-on; the station address was written at manufacture. -/
def Port.powerOn (station : Mac) : Port :=
  { clients := [(0, ⟨.purser, none⟩)], inputQueue := [], transmit := [], wire := none, lastReset := .powerOn,
    station := station, inReset := false }

/-- R183: every block at its power-on values, for a station address, a sampled SILENCE line and the commands
that wait. -/
def State.powerOn (station : Mac) (line : Bool) (pending : List Instr) : State :=
  { port := Port.powerOn station, tariff := Tariff.powerOn, subs := ⟨[], 0, .opened⟩, sess := ⟨[], 0⟩, cutPos := none,
    links := Vector.replicate 8 Link.powerOn, mig := ⟨[], none, 0⟩, zone := ZoneTracker.powerOn line,
    time := TimeBase.powerOn, raised := [], pending := pending }

/-- The machine right after reset: power-on with the SILENCE line not asserted (its input has an internal
pull-down, Table 10-4) and no command waiting. The manual gives no station address; the model's is 0 (log
entry 5). -/
def State.reset : State := State.powerOn 0 false []

end Sys2Proof.Machine
end

