-- ==== Sys2Proof/Machine/Table.lean ====
section
/-! DEFINITION. Operations on a sparse table, which keep its one canonical form: record numbers strictly rising. -/

namespace Sys2Proof.Machine

variable {α : Type}

/-- The record at a number. -/
def Table.get (t : Table α) (k : Nat) : Option α :=
  match t with
  | [] => none
  | (j, a) :: rest => if j = k then some a else Table.get rest k

/-- Whether a number is listed. -/
def Table.has (t : Table α) (k : Nat) : Bool := (Table.get t k).isSome

/-- Write the record at a number, at its place in the order. -/
def Table.set (t : Table α) (k : Nat) (a : α) : Table α :=
  match t with
  | [] => [(k, a)]
  | (j, b) :: rest =>
    if k < j then (k, a) :: (j, b) :: rest else if k = j then (k, a) :: rest else (j, b) :: Table.set rest k a

/-- Take the record at a number out. -/
def Table.erase (t : Table α) (k : Nat) : Table α := t.filter fun p => p.1 != k

/-- The record numbers, in order. -/
def Table.keys (t : Table α) : List Nat := t.map Prod.fst

/-- The canonical form: record numbers strictly rising, each above a bound that is given when there is one. -/
def Table.risingFrom (bound : Option Nat) (t : Table α) : Bool :=
  match t with
  | [] => true
  | (j, _) :: rest => bound.all (· < j) && Table.risingFrom (some j) rest

/-- The canonical form of a table. -/
def Table.wf (t : Table α) : Bool := Table.risingFrom none t

/-- The lowest number at or above `from_` and below `from_ + fuel` that the table does not list. -/
def Table.firstFree (t : Table α) (from_ fuel : Nat) : Option Nat :=
  match fuel with
  | 0 => none
  | n + 1 => if Table.has t from_ then Table.firstFree t (from_ + 1) n else some from_

/-- Insert a number into a rising list at its place; a number already there is not repeated. -/
def insertRising (k : Nat) : List Nat → List Nat
  | [] => [k]
  | j :: rest => if k < j then k :: j :: rest else if k = j then j :: rest else j :: insertRising k rest

end Sys2Proof.Machine
end

