-- ==== Sys2Proof/Machine/Wire.lean ====
section
/-! DEFINITION. What the part writes on the wire: the encodings of R186 for the values of responses and notices,
the bodies of the notices, the frame check sequence and the bytes of a frame sent (R173, R185). -/

namespace Sys2Proof.Machine

/-! ### Enumerated values: the position in the list that the owning rule gives (R186) -/

/-- R22: ATTACHED, DORMANT. -/
def Presence.code : Presence → Nat
  | .attached => 0
  | .dormant => 1

/-- R84: UNFUNDED, FUNDED, EXHAUSTED. -/
def CreditState.code : CreditState → Nat
  | .unfunded => 0
  | .funded => 1
  | .exhausted => 2

/-- R43: ACTIVE, BLOCKED. -/
def Service.code : Service → Nat
  | .active => 0
  | .blocked => 1

/-- R103: OFFLINE, DOWN, UP, DEGRADED, SUSPECT. -/
def LinkState.code : LinkState → Nat
  | .offline => 0
  | .down => 1
  | .up => 2
  | .degraded => 3
  | .suspect => 4

/-- R122: ROUTER, DEGRADED, FAILED, ZONE, RESCUE. -/
def OrderCause.code : OrderCause → Nat
  | .router => 0
  | .degraded => 1
  | .failed => 2
  | .zone => 3
  | .rescue => 4

/-- R138: DONE, RESOLVED, STRANDED, ABORTED, DISCARDED. -/
def OrderOutcome.code : OrderOutcome → Nat
  | .done => 0
  | .resolved => 1
  | .stranded => 2
  | .aborted => 3
  | .discarded => 4

/-- R134: TIMEOUT, DESTINATION_LOST, EMPTIED, SILENCE. -/
def AbandonCause.code : AbandonCause → Nat
  | .timeout => 0
  | .destinationLost => 1
  | .emptied => 2
  | .silence => 3

/-- R110: ADMIN, REPORT, RECONCILE. -/
def LinkCause.code : LinkCause → Nat
  | .admin => 0
  | .report => 1
  | .reconcile => 2

/-- R156: CONFIRMED, STALE, PLACED_AGAIN, WINDOW. -/
def ZoneCause.code : ZoneCause → Nat
  | .confirmed => 0
  | .stale => 1
  | .placedAgain => 2
  | .window => 3

/-- R146: UNPLACED, PLACED, STALE. -/
def Tracking.code : Tracking → Nat
  | .unplaced => 0
  | .placed => 1
  | .stale => 2

/-- Section 3.5: RADIO, DETACH, IDLE, RELEASED, SILENCE (log entry 9). -/
def CloseReason.code : CloseReason → Nat
  | .radio => 0
  | .detach => 1
  | .idle => 2
  | .released => 3
  | .silence => 4

/-- R183: POWER_ON, SERVICE. -/
def ResetKind.code : ResetKind → Nat
  | .powerOn => 0
  | .service => 1

/-- Table 10-2: the number of a result code. -/
def Result.code : Result → Nat
  | .ok => 0
  | .okClamped => 1
  | .already => 2
  | .notClient => 3
  | .notPermitted => 4
  | .unknownKind => 5
  | .badLength => 6
  | .badValue => 7
  | .unknownHandle => 8
  | .tableFull => 9
  | .bucketFull => 10
  | .unknownPartner => 11
  | .partnerSuspended => 12
  | .partnerBarred => 13
  | .exposureLimit => 14
  | .gateHeld => 15
  | .serviceForbidden => 16
  | .noTariff => 17
  | .unfunded => 18
  | .sessionLimit => 19
  | .noLink => 20
  | .linkLatched => 21
  | .busy => 22
  | .late => 23
  | .deferred => 24
  | .silent => 25
  | .pinned => 26
  | .sessionsOpen => 27
  | .pinLimit => 28
  | .inUse => 29

/-! ### Fields -/

/-- The bytes of one field, most significant first. -/
def Field.bytes : Field → List Byte
  | .u8 n => beBytes 1 n
  | .u16 n => beBytes 2 n
  | .u32 n => beBytes 4 n
  | .u64 n => beBytes 8 n
  | .mac a => beBytes 6 a.toNat

/-- A flag, option or presence byte. -/
def fFlag (b : Bool) : Field := .u8 (flagByte b)

/-- An optional 64-bit field: its presence byte, then its value or 0. -/
def fOpt64 (o : Option Nat) : List Field := [fFlag o.isSome, .u64 (o.getD 0)]

/-- A zone, or none as 255. -/
def fZone (z : Option ZoneId) : Field := .u8 ((z.map Fin.val).getD 255)

/-- A link, or none as 255. -/
def fLink (l : Option LinkId) : Field := .u8 ((l.map Fin.val).getD 255)

/-- An adjustment, signed 16-bit. -/
def fAdjustment (i : Int) : Field := .u16 (unsigned16 i)

/-- The four zone-class amounts, in class order. -/
def fSub (b : Subtotals) : List Field := [.u64 b.port, .u64 b.coastal, .u64 b.openSea, .u64 b.restricted]

/-! ### Notices -/

/-- Table 11-2: the kind number of a notice. -/
def Notice.code : Notice → BitVec 16
  | .blocked .. => 0x4001
  | .unblocked .. => 0x4002
  | .sessionClosed .. => 0x4003
  | .stranded .. => 0x4004
  | .zoneChanged .. => 0x4005
  | .partnerStatus .. => 0x4006
  | .silence .. => 0x4007
  | .moveBatch .. => 0x4008
  | .batchAbandoned .. => 0x4009
  | .orderEnded .. => 0x400A
  | .linkState .. => 0x400B
  | .creditAsk .. => 0x400C
  | .askCancel .. => 0x400D
  | .creditReturn .. => 0x400E

/-- Table 10-3: the roles a notice is addressed to. -/
def Notice.roles : Notice → List Role
  | .blocked .. => [.radio]
  | .unblocked .. => [.radio]
  | .sessionClosed .. => [.radio]
  | .stranded .. => [.radio]
  | .zoneChanged .. => [.radio, .router, .purser]
  | .partnerStatus .. => [.radio]
  | .silence .. => [.radio]
  | .moveBatch .. => [.router]
  | .batchAbandoned .. => [.router]
  | .orderEnded .. => [.router, .purser]
  | .linkState .. => [.router, .purser]
  | .creditAsk .. => [.gateway]
  | .askCancel .. => [.gateway]
  | .creditReturn .. => [.gateway]

/-- R178: a notice addressed to GATEWAY joins after the response of the request that raised it. -/
def Notice.toGateway (n : Notice) : Bool := n.roles.contains .gateway

/-- The fields of a notice, in the order its owning rule names them. A SILENCE notice of a leaving ends after the device
time: the two counts that only an entry carries (R160) have no bytes there (log entry 35). -/
def Notice.body : Notice → List Field
  | .blocked h r g u ss => [.u16 h, .u32 r.toNat, .u64 g, .u64 u] ++ ss.map .u16
  | .unblocked h r g u ss => [.u16 h, .u32 r.toNat, .u64 g, .u64 u] ++ ss.map .u16
  | .sessionClosed n h c reason k b r =>
      [.u16 n, .u16 h, .u8 c.code, .u8 reason.code, .u64 k, .u32 b, .u32 r.toNat]
  | .stranded n h c l r => [.u16 n, .u16 h, .u8 c.code, fLink l, .u32 r.toNat]
  | .zoneChanged cause z c l w since d t e =>
      [.u8 cause.code, fZone z, .u8 c.code, .u8 l.code, .u16 w, .u64 since, .u64 d, .u8 t.code, .u16 e.toNat]
  | .partnerStatus c st d => [.u32 c, .u8 st.code] ++ fOpt64 d
  | .silence st l f t entry =>
      [fFlag st, fFlag l, fFlag f, .u64 t] ++ (match entry with | none => [] | some (c, n) => [.u16 c, .u16 n])
  | .moveBatch n src d ss => [.u16 n, .u8 src.code, .u8 d.val, .u8 ss.length, .u8 0] ++ ss.map .u16
  | .batchAbandoned n src d c k => [.u16 n, .u8 src.code, .u8 d.val, .u8 c.code, .u8 k]
  | .orderEnded src d sc c o b m k =>
      [.u8 src.code, .u8 d.code, .u8 sc.code, .u8 c.code, .u8 o.code, .u16 b, .u16 m, .u16 k]
  | .linkState l k b a c q n e d =>
      [.u8 l.val, .u8 k.code, .u8 b.code, .u8 a.code, .u8 c.code, .u8 q, .u16 n, .u16 e, .u8 d]
  | .creditAsk h i c a m d => [.u16 h, .u64 i, .u32 c, .u8 a, .u64 m, .u64 d]
  | .askCancel h i a => [.u16 h, .u64 i, .u8 a]
  | .creditReturn h i c m => [.u16 h, .u64 i, .u32 c, .u64 m]

/-! ### The frame check sequence (R173) -/

/-- One bit of the Ethernet check sequence, least significant bit first; 0xEDB88320 is the generator polynomial
0x04C11DB7 read in that order. -/
def fcsBit (c : Nat) : Nat := if c % 2 = 1 then (c >>> 1) ^^^ 0xEDB88320 else c >>> 1

/-- One byte of the check sequence. -/
def fcsByte (c : Nat) (b : Byte) : Nat :=
  fcsBit (fcsBit (fcsBit (fcsBit (fcsBit (fcsBit (fcsBit (fcsBit (c ^^^ b.toNat))))))))

/-- The Ethernet frame check sequence of a list of bytes (log entry 6). -/
def fcsOf (bs : List Byte) : BitVec 32 := BitVec.ofNat 32 ((bs.foldl fcsByte 0xFFFFFFFF) ^^^ 0xFFFFFFFF)

/-- R173: what the check sequence of a frame covers: the addresses, the EtherType and the payload. -/
def coveredBytes (dst src : Mac) (etherType : BitVec 16) (payload : List Byte) : List Byte :=
  beBytes 6 dst.toNat ++ beBytes 6 src.toNat ++ beBytes 2 etherType.toNat ++ payload

/-- R173: whether a frame's check sequence is good. -/
def frameGood (f : Frame) : Bool := fcsOf (coveredBytes f.dst f.src f.etherType f.payload) == f.fcs

/-! ### Frames sent -/

/-- The body bytes of a frame sent. -/
def OutFrame.bodyBytes (f : OutFrame) : List Byte := f.body.flatMap Field.bytes

/-- R185, Table 11-1: the payload of a frame sent: version 1, the header, the body, and bytes of 0 up to 46. -/
def OutFrame.payload (f : OutFrame) : List Byte :=
  let bare := writeFields headerLayout
      [1, f.client, f.kind.toNat, f.tag.toNat, f.bodyBytes.length, f.result.code, f.seconds] ++ f.bodyBytes
  bare ++ List.replicate (46 - bare.length) 0

/-- R173: the bytes a frame puts on the line: addresses, EtherType, payload and check sequence, whose least
significant byte goes first (log entry 6). -/
def OutFrame.lineBytes (station : Mac) (f : OutFrame) : List Byte :=
  let covered := coveredBytes f.dst station f.etherType f.payload
  covered ++ (beBytes 4 (fcsOf covered).toNat).reverse

end Sys2Proof.Machine
end

