-- ==== Sys2Proof/Machine/Ops.lean ====
section
/-! DEFINITION. The named operations every command is written with: reading and writing one record of a table,
the device clock and deadlines (R164), raising a notice, and the ways an event's frames join the transmit order
(R176, R177, R178). -/

namespace Sys2Proof.Machine

/-! ### Ceilings -/

/-- R22: the largest folio, grant and session charge. -/
def moneyMax : Nat := 999999999999

/-- R95: the largest closed total. -/
def closedMax : Nat := 9223372036854775807

/-- R164: the largest count of the device clock. -/
def clockMax : Nat := 1099511627775

/-- R19: the number of subscriber slots. -/
def slotCount : Nat := 4072

/-- R40: the number of session records. -/
def sessionCount : Nat := 8192

/-- R20: identities lie below this. -/
def identityEnd : Nat := 10 ^ 15

/-- An increase that stops at a largest value. -/
def saturate (most v : Nat) : Nat := min v most

/-! ### Records -/

/-- The context at a subscriber handle; `none` for an absent slot. -/
def State.ctx (s : State) (h : Nat) : Option Context := Table.get s.subs.contexts h

/-- Write the context at a handle. -/
def State.setCtx (s : State) (h : Nat) (c : Context) : State :=
  { s with subs := { s.subs with contexts := Table.set s.subs.contexts h c } }

/-- Change the context at a handle, when there is one. -/
def State.modCtx (s : State) (h : Nat) (f : Context → Context) : State :=
  match s.ctx h with
  | none => s
  | some c => s.setCtx h (f c)

/-- The session open at a handle; `none` for a free record. -/
def State.ses (s : State) (n : Nat) : Option Session := Table.get s.sess.records n

/-- Write the session at a handle. -/
def State.setSes (s : State) (n : Nat) (x : Session) : State :=
  { s with sess := { s.sess with records := Table.set s.sess.records n x } }

/-- Change the session at a handle, when it is open. -/
def State.modSes (s : State) (n : Nat) (f : Session → Session) : State :=
  match s.ses n with
  | none => s
  | some x => s.setSes n (f x)

/-- The partner at an index. -/
def State.par (s : State) (p : Nat) : Option Partner := Table.get s.tariff.partners p

/-- Write the partner at an index. -/
def State.setPar (s : State) (p : Nat) (r : Partner) : State :=
  { s with tariff := { s.tariff with partners := Table.set s.tariff.partners p r } }

/-- Change the partner at an index, when there is one. -/
def State.modPar (s : State) (p : Nat) (f : Partner → Partner) : State :=
  match s.par p with
  | none => s
  | some r => s.setPar p (f r)

/-- The link record of a number. -/
def State.link (s : State) (l : LinkId) : Link := s.links[l]

/-- Change a link record. -/
def State.modLink (s : State) (l : LinkId) (f : Link → Link) : State :=
  { s with links := s.links.set l (f s.links[l]) }

/-- The zone record of a number. -/
def State.zoneAt (s : State) (z : ZoneId) : Zone := s.zone.zones[z]

/-- Write a zone record. -/
def State.setZone (s : State) (z : ZoneId) (r : Zone) : State :=
  { s with zone := { s.zone with zones := s.zone.zones.set z r } }

/-- Change the use count of a plan (R13). -/
def State.modPlanUse (s : State) (p : PlanId) (f : Nat → Nat) : State :=
  { s with tariff := { s.tariff with planUse := s.tariff.planUse.set p (f s.tariff.planUse[p]) } }

/-! ### Zone-class amounts -/

/-- The amount of one zone class. -/
def Subtotals.at (b : Subtotals) : ZoneClass → Nat
  | .port => b.port
  | .coastal => b.coastal
  | .openSea => b.openSea
  | .restricted => b.restricted

/-- Add to the amount of one zone class. -/
def Subtotals.add (b : Subtotals) (z : ZoneClass) (k : Nat) : Subtotals :=
  match z with
  | .port => { b with port := b.port + k }
  | .coastal => { b with coastal := b.coastal + k }
  | .openSea => { b with openSea := b.openSea + k }
  | .restricted => { b with restricted := b.restricted + k }

/-- The sum of the four amounts. -/
def Subtotals.sum (b : Subtotals) : Nat := b.port + b.coastal + b.openSea + b.restricted

/-! ### The clock -/

/-- The device time at which the event is taken. -/
def State.now (s : State) : Nat := s.time.clock

/-- The general settings in force. -/
def State.settings (s : State) : Settings := s.time.settings

/-- R164: the deadline that lies a period in ms after a time; beyond the largest count it is the largest count. -/
def deadlineAfter (t period : Nat) : Nat := min (t + period) clockMax

/-- R164: a deadline has passed when the clock is at or after it. -/
def State.passed (s : State) (deadline : Nat) : Bool := deadline ≤ s.time.clock

/-- R164: the device seconds. -/
def State.seconds (s : State) : Nat := s.time.clock / 1000

/-! ### Notices and the transmit order -/

/-- Raise a notice within the event being taken. -/
def State.raise (s : State) (n : Notice) : State := { s with raised := s.raised ++ [n] }

/-- R177: the copies of a notice: one to each in-use client that holds an addressed role and has a bound address,
in ascending client number. -/
def State.copies (s : State) (n : Notice) : List OutFrame :=
  s.port.clients.filterMap fun (k, c) =>
    if n.roles.contains c.role then
      c.address.map fun a =>
        { dst := a, etherType := s.settings.etherType, client := k, kind := n.code, tag := 0, result := .ok,
          seconds := s.seconds, body := n.body }
    else none

/-- Frames join the transmit order; while nRESET is asserted the part sends none (R183). -/
def State.join (s : State) (fs : List OutFrame) : State :=
  if s.port.inReset then s else { s with port := { s.port with transmit := s.port.transmit ++ fs } }

/-- R178, first case: at the end of an event that is no request, the notices it raised join in the order raised. -/
def State.flush (s : State) : State :=
  { s.join (s.raised.flatMap s.copies) with raised := [] }

/-- R178, second case: at the end of a request, the notices it raised join, then its response, then the notices
addressed to GATEWAY. -/
def State.flushWith (s : State) (response : OutFrame) : State :=
  { s.join ((s.raised.filter (! ·.toGateway)).flatMap s.copies ++ [response]
      ++ (s.raised.filter (·.toGateway)).flatMap s.copies) with raised := [] }

/-- An event that is no request: its effect, then its notices join the transmit order. -/
def event (effect : State → State) (s : State) : Outcome := .next (effect s).flush

end Sys2Proof.Machine
end

