-- ==== Sys2Proof/Machine/Flags.lean ====
section
/-! DEFINITION. The derived conditions: values the manual computes whenever they are read and stores nowhere
(silence, the effective class and level, permits and free capacity, releasing, the profile latch, the stale
instant, what an order covers). -/

namespace Sys2Proof.Machine

/-! ### Silence and the effective zone -/

/-- R157: the part is silent while the SILENCE line is asserted or RADIO's flag is set. -/
def State.silent (s : State) : Bool := s.zone.line || s.zone.flag

/-- R146: the effective zone class, RESTRICTED while the effective zone is none. -/
def State.effectiveClass (s : State) : ZoneClass :=
  match s.zone.effective with
  | none => .restricted
  | some z => (s.zoneAt z).cls

/-- R146, R42: the effective service level, EMERGENCY_ONLY while the effective zone is none. -/
def State.effectiveLevel (s : State) : ServiceLevel :=
  match s.zone.effective with
  | none => .emergencyOnly
  | some z => (s.zoneAt z).level

/-- R146, R54: the wind-down window of the effective zone in seconds, 0 while it is none. -/
def State.effectiveWindow (s : State) : Nat :=
  match s.zone.effective with
  | none => 0
  | some z => (s.zoneAt z).window

/-- R146: the wind-down deadline. -/
def State.windDown (s : State) : Nat :=
  match s.zone.effective with
  | none => s.zone.since
  | some z => deadlineAfter s.zone.since ((s.zoneAt z).window * 1000)

/-- R146: whether a link's mask permits a zone; none permits no link. -/
def Link.permits (l : Link) : Option ZoneId → Bool
  | none => false
  | some z => l.mask.getLsbD z.val

/-- R146: whether a link is permitted in the effective zone. -/
def State.permitted (s : State) (l : LinkId) : Bool := (s.link l).permits s.zone.effective

/-- R42: whether a service level allows a traffic class. -/
def levelAllows : ServiceLevel → TrafficClass → Bool
  | .full, _ => true
  | .limited, .data => false
  | .limited, _ => true
  | .emergencyOnly, c => c == .emergency

/-! ### Partners and sessions -/

/-- R19, R22: the partner of the subscriber of a session. -/
def State.partnerOf (s : State) (x : Session) : Option Partner :=
  (s.ctx x.subscriber).bind fun c => s.par c.partner

/-- R7: the partner-condition deadline, present while the partner is BARRED. -/
def Partner.barDeadline (p : Partner) : Option Nat :=
  match p.status with
  | .barred => p.barTime.map fun t => deadlineAfter t (p.barWindow * 1000)
  | _ => none

/-- R53: the zone condition of a session. -/
def State.zoneCondition (s : State) (x : Session) : Bool := !levelAllows s.effectiveLevel x.cls

/-- R53: the partner condition of a session. -/
def State.partnerCondition (s : State) (x : Session) : Bool := (s.partnerOf x).any fun p => p.status == .barred

/-- R53: whether a session is releasing; an EMERGENCY session never is. -/
def State.releasing (s : State) (x : Session) : Bool :=
  x.cls != .emergency && (s.zoneCondition x || s.partnerCondition x)

/-- The earlier of two optional deadlines. -/
def earlier : Option Nat → Option Nat → Option Nat
  | some a, some b => some (min a b)
  | some a, none => some a
  | none, b => b

/-- R54: the release deadline of a releasing session: the earlier of those of the conditions that hold. -/
def State.releaseDeadline (s : State) (x : Session) : Option Nat :=
  if s.releasing x then
    earlier (if s.zoneCondition x then some s.windDown else none) ((s.partnerOf x).bind Partner.barDeadline)
  else none

/-- R78, R71: whether a session is still in the previous epoch. -/
def State.inPrevious (s : State) (x : Session) : Bool := s.tariff.previous.any fun p => x.epoch == p.epoch

/-! ### Links -/

/-- R113: the free capacity of a link. -/
def Link.free (l : Link) : Nat := l.capacity - l.bound - l.reserved

/-- The link of highest priority among those a test admits, the lowest number among equals (R113, R114, R128). -/
def State.bestLink (s : State) (p : LinkId → Bool) : Option LinkId :=
  allLinks.foldl (fun best l =>
    if p l then
      match best with
      | none => some l
      | some b => if (s.link b).priority < (s.link l).priority then some l else some b
    else best) none

/-- R113: a link that may take a new non-emergency session, or be a full candidate of a batch (R128). -/
def State.takes (s : State) (l : LinkId) : Bool :=
  (s.link l).state == .up && s.permitted l && decide (1 ≤ (s.link l).free)

/-- R113: the binding choice for a non-emergency session. -/
def State.bindingChoice (s : State) : Option LinkId := s.bestLink s.takes

/-- R114: the emergency choice. -/
def State.emergencyChoice (s : State) : Option LinkId :=
  match s.bestLink fun l => (s.link l).state == .up with
  | some l => some l
  | none => s.bestLink fun l => (s.link l).state == .degraded

/-! ### Orders and the batch -/

/-- R122: the RUNNING order is the head of the queue. -/
def State.running (s : State) : Option Order := s.mig.queue.head?

/-- R106: whether a link is the source of the running order, or its fixed destination, or the destination of the
in-flight batch. -/
def State.heldByMigration (s : State) (l : LinkId) : Bool :=
  s.running.any (fun o => o.source == .link l || o.dest == .fixed l) || s.mig.batch.any (fun b => b.dest == l)

/-- R106: whether the profile latch holds a link. -/
def State.latched (s : State) (l : LinkId) : Bool :=
  decide (0 < (s.link l).bound + (s.link l).emergency) || decide (0 < (s.link l).reserved) || s.heldByMigration l

/-- R122: whether a scope admits a traffic class. -/
def scopeAdmits : Scope → TrafficClass → Bool
  | .all, _ => true
  | .nonEmergency, c => c != .emergency

/-- R122: whether a session is counted on an order's source: BOUND to the link, or STRANDED for RESCUE. -/
def onSource (src : Source) (b : Binding) : Bool :=
  match src, b with
  | .link l, .bound m => l == m
  | .rescue, .stranded => true
  | _, _ => false

/-- R122: the sessions in scope of an order, in ascending handle order. -/
def State.inScope (s : State) (o : Order) : List (Nat × Session) :=
  s.sess.records.filter fun (_, x) => onSource o.source x.binding && scopeAdmits o.scope x.cls

/-! ### The cut pass and staleness -/

/-- R79: whether the cut pass is running. -/
def State.cutRunning (s : State) : Bool := s.cutPos.isSome

/-- R152: the stale instant, held while PLACED. -/
def State.staleInstant (s : State) : Option Nat :=
  match s.zone.tracking with
  | .placed => s.zone.lastFix.map fun t => deadlineAfter t (2 ^ s.settings.staleExponent * 1000)
  | _ => none

/-- R152: whether the stale instant has passed. -/
def State.staleDue (s : State) : Bool := s.staleInstant.any s.passed

end Sys2Proof.Machine
end

