-- ==== Sys2Proof/Machine/Operands.lean ====
section
/-! DEFINITION. Operand forms: how a request names a context, a session, a partner, a link or a zone (R2, R19,
R21, R97), and the range checks of the requests that carry many values (R4, R11, R105). -/

namespace Sys2Proof.Machine

/-! ### Contexts -/

/-- R20: the bucket of an identity. -/
def bucketOf (identity : Nat) : Nat := identity % 509

/-- R19: the handles of a bucket's eight ways, way 0 first. -/
def waysOf (bucket : Nat) : List Nat :=
  [bucket * 8, bucket * 8 + 1, bucket * 8 + 2, bucket * 8 + 3, bucket * 8 + 4, bucket * 8 + 5, bucket * 8 + 6,
    bucket * 8 + 7]

/-- R21: lookup by identity: the first way of its bucket that is present and holds it. -/
def State.findIdentity (s : State) (identity : Nat) : Option Nat :=
  (waysOf (bucketOf identity)).find? fun h => (s.ctx h).any fun c => c.identity == identity

/-- R21: the lowest absent way of an identity's bucket. -/
def State.absentWay (s : State) (identity : Nat) : Option Nat :=
  (waysOf (bucketOf identity)).find? fun h => (s.ctx h).isNone

/-- R19: the context at a handle that a request names; a handle above 4,071 names none. -/
def State.slot (s : State) (handle : Nat) : Option Context := if handle < slotCount then s.ctx handle else none

/-- R19: the context at a handle, when it holds the identity carried. -/
def State.slotOf (s : State) (handle identity : Nat) : Option Context :=
  (s.slot handle).filter fun c => c.identity == identity

/-- What a context reference names: BAD_VALUE, no context, or a handle with its context. -/
inductive Named
  | bad
  | absent
  | found (handle : Nat) (c : Context)
  deriving DecidableEq, Repr

/-- R31, R97: the context a selector names. -/
def State.named (s : State) : Option ContextRef → Named
  | none => .bad
  | some (.byHandle h) => match s.slot h with
    | none => .absent
    | some c => .found h c
  | some (.byIdentity i) =>
    if identityEnd ≤ i then .bad
    else match s.findIdentity i with
      | none => .absent
      | some h => match s.ctx h with
        | none => .absent
        | some c => .found h c

/-! ### Sessions -/

/-- R51, R58, R61: the session open at a handle a request names; a handle above 8,191 names none. -/
def State.openAt (s : State) (n : Nat) : Option Session := if n < sessionCount then s.ses n else none

/-! ### Partners -/

/-- R2: the partner code of an identity: its first five digits. -/
def codeOf (identity : Nat) : Nat := identity / 10000000000

/-- R2: the largest partner code. -/
def codeMax : Nat := 99999

/-- R2: the partner that holds a code, with its index. -/
def State.partnerByCode (s : State) (code : Nat) : Option (Nat × Partner) :=
  s.tariff.partners.find? fun p => p.2.code == code

/-- R3, R4: every field of a PARTNER_SET but its code and kind within Table 1-1. -/
def partnerRangesOk (d : PartnerDef) : Bool :=
  decide (d.barWindow ≤ 600) && decide (d.plan < 32) && decide (-500 ≤ d.adjustment) && decide (d.adjustment ≤ 1000)
    && decide (d.exposure ≤ 9999999999999999) && decide (d.initialStep ≤ moneyMax) && decide (d.topUpStep ≤ moneyMax)
    && decide (d.lowWater ≤ moneyMax)

/-! ### Rate cells -/

/-- R10: the column of a charged class; EMERGENCY has none. -/
def classColumn : TrafficClass → Option Nat
  | .voice => some 0
  | .data => some 1
  | .message => some 2
  | .emergency => none

/-- R10: the index of a cell. -/
def cellIndex (plan : PlanId) (z : ZoneClass) (column : Nat) : Nat := plan.val * 12 + z.code * 3 + column

/-- R10: the values an unset cell holds, by class: block size 1,024 for DATA, else 1; the rest free of charge. -/
def unsetCell (c : TrafficClass) : Cell :=
  { blockSize := if c = .data then 1024 else 1, price := 0, rounding := .whole, minimum := 0 }

/-- R11: the block size is in its class's range. -/
def blockSizeOk (c : TrafficClass) (b : Nat) : Bool :=
  match c with
  | .voice => decide (1 ≤ b) && decide (b ≤ 3600)
  | .data => decide (1024 ≤ b) && decide (b ≤ 1048576) && b % 1024 == 0
  | .message => b == 1
  | .emergency => false

/-- R11: what a valid RATE_SET names: its plan, its cell and the cell's values; `none` is BAD_VALUE. -/
def rateTarget (r : RateDef) : Option (PlanId × Nat × Cell) :=
  match r.zoneClass, r.cls, r.rounding with
  | some z, some c, some rd =>
    match classColumn c with
    | none => none
    | some col =>
      if h : r.plan < 32 then
        if blockSizeOk c r.blockSize && decide (r.price ≤ 10000000) && decide (r.minimum ≤ 15)
            && (c != .message || (rd == .whole && r.minimum == 0)) then
          some (⟨r.plan, h⟩, cellIndex ⟨r.plan, h⟩ z col, ⟨r.blockSize, r.price, rd, r.minimum⟩)
        else none
      else none
  | _, _, _ => none

/-! ### Links and zones -/

/-- A link number a request carries; above 7 it names none. -/
def linkOf (n : Nat) : Option LinkId := if h : n < 8 then some ⟨n, h⟩ else none

/-- A zone number a request carries; above 31 it names none. -/
def zoneOf (n : Nat) : Option ZoneId := if h : n < 32 then some ⟨n, h⟩ else none

/-- R105: the values of a link profile within their ranges. -/
def profileOk (p : ProfileDef) : Bool :=
  decide (p.priority ≤ 7) && decide (p.capacity ≤ 8192) && decide (p.surcharge ≤ 2000) && decide (p.degrade ≤ 99)
    && decide (p.recover ≤ 100) && decide (p.degrade < p.recover)
    && (p.hold == 1 || p.hold == 2 || p.hold == 4 || p.hold == 8) && decide (1 ≤ p.limit) && decide (p.limit ≤ 7)

end Sys2Proof.Machine
end

