-- ==== Sys2Proof/Machine/Credit.lean ====
section
/-! DEFINITION. Credit (CRU, Chapter 5): issuing an ask, the ask condition, exhaustion and blocking, the evaluation
after a charge, grants, and the fold, cancellation and return of a retirement. -/

namespace Sys2Proof.Machine

/-- R84: remaining credit. -/
def Context.remaining (c : Context) : Nat := c.granted - c.consumed

/-- R85: the number after a context's last ask number; 1 follows 255, and 0 is never used. -/
def nextAsk (last : Nat) : Nat := if 255 ≤ last then 1 else last + 1

/-- R85: issue an ask for an amount. -/
def issueAsk (h amount : Nat) (s : State) : State :=
  match s.ctx h with
  | none => s
  | some c =>
    let n := nextAsk c.lastAsk
    let d := deadlineAfter s.now (s.settings.askTimeout * 1000)
    let code := ((s.par c.partner).map Partner.code).getD 0
    (s.setCtx h { c with ask := some ⟨n, d⟩, lastAsk := n }).raise (.creditAsk h c.identity code n amount d)

/-- R86: the ask condition of a context under its partner. -/
def askCondition (c : Context) (p : Partner) : Bool :=
  c.presence == .attached && p.kind == .homeRoaming && decide (c.remaining < p.lowWater) && c.ask.isNone && !c.denied
    && decide (0 < p.topUpStep)

/-- R86: judge the ask condition of a context and, when it holds, issue the top-up ask. -/
def judgeAsk (h : Nat) (s : State) : State :=
  match s.ctx h with
  | none => s
  | some c => match s.par c.partner with
    | none => s
    | some p => if askCondition c p then issueAsk h p.topUpStep s else s

/-- R93: the sessions of a context that exhaustion blocks, in list order. -/
def State.toBlock (s : State) (c : Context) : List Nat :=
  c.sessions.filter fun n => (s.ses n).any fun x => x.cls != .emergency && x.service == .active

/-- Give the listed sessions a service state. -/
def setService (v : Service) (ns : List Nat) (s : State) : State :=
  ns.foldl (fun s n => s.modSes n fun x => { x with service := v }) s

/-- R93: judge exhaustion of a context, and block its sessions when it holds. -/
def judgeExhaustion (h : Nat) (s : State) : State :=
  match s.ctx h with
  | none => s
  | some c =>
    if c.granted ≤ c.consumed ∧ c.credit = .funded then
      let ns := s.toBlock c
      (setService .blocked ns (s.setCtx h { c with credit := .exhausted })).raise
        (.blocked h c.ref c.granted c.consumed ns)
    else s

/-- R76: the evaluation of a context's credit record after a charge: exhaustion, then the ask condition. -/
def evaluateCredit (h : Nat) (s : State) : State := judgeAsk h (judgeExhaustion h s)

/-! ### Grants -/

/-- R91: the sessions a grant unblocks, in list order. -/
def State.toUnblock (s : State) (c : Context) : List Nat :=
  c.sessions.filter fun n => (s.ses n).any fun x => x.service == .blocked

/-- R91: add an amount to a context's granted credit: clamp, state, unblock. -/
def addGrant (h amount : Nat) (s : State) : State :=
  match s.ctx h with
  | none => s
  | some c =>
    let g := min (c.granted + amount) moneyMax
    if c.consumed < g then
      let s1 := s.setCtx h { c with granted := g, credit := .funded }
      if c.credit = .exhausted then
        let ns := s.toUnblock c
        (setService .active ns s1).raise (.unblocked h c.ref g c.consumed ns)
      else s1
    else s.setCtx h { c with granted := g }

/-! ### Retirement -/

/-- R95: what a fold adds to each closed subtotal: the amounts in class order, each as far as the headroom still
left allows. -/
def foldAmounts (room : Nat) (b : Subtotals) : Subtotals :=
  let p := min b.port room
  let c := min b.coastal (room - p)
  let o := min b.openSea (room - p - c)
  let r := min b.restricted (room - p - c - o)
  ⟨p, c, o, r⟩

/-- R36 step 1, R95: fold a context's folio into its partner's closed account. -/
def Partner.fold (p : Partner) (c : Context) : Partner :=
  let a := foldAmounts (closedMax - p.closedTotal) c.sub
  { p with
    openTotal := p.openTotal - c.folio
    closedTotal := p.closedTotal + a.sum
    closedSub := ⟨p.closedSub.port + a.port, p.closedSub.coastal + a.coastal, p.closedSub.openSea + a.openSea,
      p.closedSub.restricted + a.restricted⟩ }

/-- R36 step 3, R94: the credit a retirement returns. -/
def creditReturned (c : Context) (p : Partner) : Nat := if p.kind = .homeRoaming then c.granted - c.consumed else 0

/-- R36 step 5: the slot becomes absent. -/
def State.freeSlot (s : State) (h : Nat) : State :=
  { s with subs := { s.subs with contexts := Table.erase s.subs.contexts h } }

/-- R36 steps 1, 4 and 5: fold, count and free. -/
def foldAndFree (h : Nat) (s : State) : State :=
  match s.ctx h with
  | none => s
  | some c =>
    (s.modPar c.partner fun p => { p.fold c with present := p.present - 1 }).freeSlot h

/-- R36 steps 2 and 3, R94: the notices of a retirement, ASK_CANCEL before CREDIT_RETURN. -/
def raiseRetirement (h : Nat) (c : Context) (p : Partner) (s : State) : State :=
  let s1 := match c.ask with
    | none => s
    | some a => s.raise (.askCancel h c.identity a.number)
  if 0 < creditReturned c p then s1.raise (.creditReturn h c.identity p.code (creditReturned c p)) else s1

/-- R36: retire a context. -/
def retireContext (h : Nat) (s : State) : State :=
  match s.ctx h with
  | none => s
  | some c => match s.par c.partner with
    | none => s.freeSlot h
    | some p => foldAndFree h (raiseRetirement h c p s)

end Sys2Proof.Machine
end

