-- ==== Sys2Proof/Machine/Rating.lean ====
section
/-! DEFINITION. Rating (RTE, Chapter 4): the values in force, the charging arithmetic, the application of a charge,
cuts, the resolution of a usage entry and the final rating of a close. -/

namespace Sys2Proof.Machine

/-! ### Values in force (R66, R67, R16) -/

/-- What a charging occasion reads (Table 4-1): the cell, the factor in per-mille and the folio's zone class. -/
structure Price where
  cell : Cell
  factor : Nat
  zoneClass : ZoneClass
  deriving DecidableEq, Repr

/-- R44: the link on which a session is counted; none when it is STRANDED or MOVING from RESCUE. -/
def Binding.countedOn : Binding → Option LinkId
  | .bound l => some l
  | .moving (.link l) _ _ => some l
  | .moving .rescue _ _ => none
  | .stranded => none

/-- R44, R67: the surcharge a session's binding uses. -/
def State.surchargeOf (s : State) (b : Binding) : Nat :=
  match b.countedOn with
  | none => 0
  | some l => (s.link l).surcharge

/-- R67: the factor of a class from a surcharge and an adjustment; MESSAGE takes no surcharge. -/
def factorOf (c : TrafficClass) (surcharge : Nat) (adjustment : Int) : Nat :=
  match c with
  | .message => (1000 + adjustment).toNat
  | _ => (1000 + (surcharge : Int) + adjustment).toNat

/-- R10: the live values of a cell; an unset cell has the values of its class. -/
def State.liveCell (s : State) (c : TrafficClass) (index : Nat) : Cell :=
  (Table.get s.tariff.cells index).getD (unsetCell c)

/-- R10: the live cell of a plan, zone class and traffic class. -/
def State.cellFor (s : State) (plan : PlanId) (z : ZoneClass) (c : TrafficClass) : Cell :=
  match classColumn c with
  | none => unsetCell c
  | some col => s.liveCell c (cellIndex plan z col)

/-- R16: the old values of the applied entry for a cell. -/
def oldCell (rs : List Revision) (index : Nat) : Option Cell :=
  rs.findSome? fun r => match r with
    | .cell i _ old => if i = index then old else none
    | .partner .. => none

/-- R16: the old plan and adjustment of the applied entry for a partner. -/
def oldTerms (rs : List Revision) (index : Nat) : Option (PlanId × Int) :=
  rs.findSome? fun r => match r with
    | .cell .. => none
    | .partner i _ _ old => if i = index then old else none

/-- R66, R67: the values that price a session now. -/
def State.currentPrice (s : State) (x : Session) (p : Partner) : Price :=
  { cell := s.cellFor p.plan s.effectiveClass x.cls
    factor := factorOf x.cls (s.surchargeOf x.binding) p.adjustment
    zoneClass := s.effectiveClass }

/-- R16, R71: the values that price a session of the previous epoch, whose partner stands at an index. -/
def State.previousPrice (s : State) (x : Session) (index : Nat) (p : Partner) (prev : Previous) : Price :=
  let terms := (oldTerms s.tariff.revisions index).getD (p.plan, p.adjustment)
  let cell := match classColumn x.cls with
    | none => unsetCell x.cls
    | some col =>
      let i := cellIndex terms.1 prev.zoneClass col
      (oldCell s.tariff.revisions i).getD (s.liveCell x.cls i)
  { cell := cell, factor := factorOf x.cls (s.surchargeOf x.binding) terms.2, zoneClass := prev.zoneClass }

/-! ### The arithmetic (R68 to R70, R73) -/

/-- R68, R69, R73: the thousandths of `n` blocks with a carry. -/
def blockThousandths (n price factor carry : Nat) : Nat := n * price * factor + carry

/-- R70: the thousandths of a residue's share of one block with a carry. -/
def shareThousandths (r size price factor carry : Nat) : Nat := r * price * factor / size + carry

/-- R41: the largest number of blocks charged that a session counts. -/
def blocksMax : Nat := 4294967295

/-- R41: the largest clamped-entry and uncertain-entry count. -/
def entriesMax : Nat := 255

/-- R64: the largest reconciliation accumulator. -/
def accumulatorMax : Nat := 2 ^ 64 - 1

/-! ### Applying a charge -/

/-- R75: the part of a charge the folio takes. -/
def headroomOf (c : Context) (k : Nat) : Nat := min k (moneyMax - c.folio)

/-- R75: a context with an applied amount. -/
def Context.apply (c : Context) (z : ZoneClass) (h : Nat) : Context :=
  { c with folio := c.folio + h, sub := c.sub.add z h, consumed := c.consumed + h }

/-- R75: apply a charge to a session, its context and its partner, without the evaluation. -/
def applyAmount (n : Nat) (z : ZoneClass) (k : Nat) (s : State) : State :=
  match s.ses n with
  | none => s
  | some x => match s.ctx x.subscriber with
    | none => s
    | some c =>
      let h := headroomOf c k
      ((s.setSes n { x with charge := x.charge + h }).setCtx x.subscriber (c.apply z h)).modPar c.partner
        fun p => { p with openTotal := p.openTotal + h }

/-- R75, R76: apply a charge above 0 and evaluate the context's credit. A charge of 0 applies nothing. -/
def charge (n : Nat) (z : ZoneClass) (k : Nat) (s : State) : State :=
  if k = 0 then s
  else match s.ses n with
    | none => s
    | some x => evaluateCredit x.subscriber (applyAmount n z k s)

/-- Charge an amount given in thousandths: whole micro-units are charged, the remainder becomes the carry. -/
def chargeThousandths (n : Nat) (z : ZoneClass) (t : Nat) (s : State) : State :=
  charge n z (t / 1000) (s.modSes n fun x => { x with carry := t % 1000 })

/-! ### Cuts -/

/-- R70: whether a cut charges a session. -/
def Session.hasResidue (x : Session) : Bool := (x.cls == .voice || x.cls == .data) && decide (0 < x.residue)

/-- R70: cut a session at the values of an occasion; every cut makes the session's epoch current. -/
def cutAt (n : Nat) (p : Price) (s : State) : State :=
  match s.ses n with
  | none => s
  | some x =>
    if x.hasResidue then
      chargeThousandths n p.zoneClass (shareThousandths x.residue p.cell.blockSize p.cell.price p.factor x.carry)
        (s.setSes n { x with residue := 0, epoch := s.tariff.epoch })
    else s.setSes n { x with epoch := s.tariff.epoch }

/-- The partner of a session's subscriber, with its index. -/
def State.partnerEntry (s : State) (x : Session) : Option (Nat × Partner) :=
  (s.ctx x.subscriber).bind fun c => (s.par c.partner).map fun p => (c.partner, p)

/-- R71: give a session its epoch cut, when its epoch is the previous epoch. -/
def epochCutOf (n : Nat) (s : State) : State :=
  match s.ses n, s.tariff.previous with
  | some x, some prev =>
    if x.epoch = prev.epoch then
      match s.partnerEntry x with
      | none => s.setSes n { x with residue := 0, epoch := s.tariff.epoch }
      | some (i, p) => cutAt n (s.previousPrice x i p prev) s
    else s
  | _, _ => s

/-- R72: give a session its epoch cut when it needs one, and then its binding cut at the surcharge of the binding
it still has. -/
def bindingCutOf (n : Nat) (s : State) : State :=
  let s1 := epochCutOf n s
  match s1.ses n with
  | none => s1
  | some x => match s1.partnerOf x with
    | none => s1
    | some p => cutAt n (s1.currentPrice x p) s1

/-! ### Usage entries (R61) -/

/-- R62: the units an entry forms, before the clamp. -/
def rawUnits (c : TrafficClass) (e : UsageEntry) : Nat :=
  match c with
  | .data => e.a + e.b
  | .emergency => e.a + e.b
  | .voice => e.a
  | .message => e.a

/-- R62: the clamp of a class. -/
def unitClamp : TrafficClass → Nat
  | .data => 1073741824
  | .emergency => 1073741824
  | .voice => 86400
  | .message => 65535

/-- R62: whether an entry is clamped. -/
def isClamped (c : TrafficClass) (e : UsageEntry) : Bool := decide (unitClamp c < rawUnits c e)

/-- R62: the units that every later step uses. -/
def unitsOf (c : TrafficClass) (e : UsageEntry) : Nat := min (rawUnits c e) (unitClamp c)

/-- R63: the outcome of an entry, numbered in this order (Section 11.3). -/
inductive UsageOutcome | rated | ratedClamped | ratedBlocked | free | noSession
  deriving DecidableEq, Repr

/-- Section 11.3: the outcome byte. -/
def UsageOutcome.code : UsageOutcome → Nat
  | .rated => 0
  | .ratedClamped => 1
  | .ratedBlocked => 2
  | .free => 3
  | .noSession => 4

/-- R63: the outcome of an entry that finds an open session, judged as step 6 of R61 begins. -/
def outcomeOf (x : Session) (e : UsageEntry) : UsageOutcome :=
  if x.cls = .emergency then .free
  else if x.service = .blocked then .ratedBlocked
  else if isClamped x.cls e then .ratedClamped
  else .rated

/-- R62, R61 step 5: the counts an entry keeps and the last usage time. -/
def Session.stamp (x : Session) (e : UsageEntry) (now : Nat) : Session :=
  { x with
    clamped := if isClamped x.cls e then saturate entriesMax (x.clamped + 1) else x.clamped
    uncertain := if e.uncertain then saturate entriesMax (x.uncertain + 1) else x.uncertain
    lastUsage := now }

/-- R64: add an entry's bytes to the accumulator of the link the session is counted on. -/
def countBytes (x : Session) (u : Nat) (s : State) : State :=
  if x.cls = .data ∨ x.cls = .emergency then
    match x.binding.countedOn with
    | none => s
    | some l => s.modLink l fun k => { k with accumulator := saturate accumulatorMax (k.accumulator + u) }
  else s

/-- R68, R69: rate an entry's units against the values in force. -/
def rateUnits (n u : Nat) (p : Price) (s : State) : State :=
  match s.ses n with
  | none => s
  | some x =>
    match x.cls with
    | .emergency => s
    | .message =>
      chargeThousandths n p.zoneClass (blockThousandths u p.cell.price p.factor x.carry)
        (s.setSes n { x with blocks := saturate blocksMax (x.blocks + u) })
    | _ =>
      let t := x.residue + u
      let k := t / p.cell.blockSize
      chargeThousandths n p.zoneClass (blockThousandths k p.cell.price p.factor x.carry)
        (s.setSes n { x with residue := t - k * p.cell.blockSize, blocks := saturate blocksMax (x.blocks + k) })

/-- R61: resolve an entry's handle to its session after the epoch cut of step 2. -/
def entrySession (e : UsageEntry) (s : State) : Option (State × Session) :=
  match s.openAt e.session with
  | none => none
  | some _ =>
    let s1 := epochCutOf e.session s
    (s1.ses e.session).map fun x => (s1, x)

/-- R61 steps 3 to 6 for a session. -/
def rateEntry (e : UsageEntry) (x : Session) (s : State) : State :=
  let u := unitsOf x.cls e
  let s1 := (countBytes x u s).setSes e.session (x.stamp e s.now)
  match s1.partnerOf x with
  | none => s1
  | some p => rateUnits e.session u (s1.currentPrice x p) s1

/-- The folio total of a session's subscriber. -/
def State.folioOf (s : State) (h : Nat) : Nat := ((s.ctx h).map Context.folio).getD 0

/-- R61, R63, R60: resolve one entry: the state after it, its outcome and the amount charged for it. -/
def resolveEntry (e : UsageEntry) (s : State) : State × UsageOutcome × Nat :=
  match entrySession e s with
  | none => (s, .noSession, 0)
  | some (s1, x) =>
    let s2 := rateEntry e x s1
    (s2, outcomeOf x e, s2.folioOf x.subscriber - s.folioOf x.subscriber)

/-- R60: resolve the entries of a request, first to last. -/
def resolveEntries : List UsageEntry → State → State × List (UsageOutcome × Nat)
  | [], s => (s, [])
  | e :: es, s =>
    let (s1, o, k) := resolveEntry e s
    let (s2, rs) := resolveEntries es s1
    (s2, (o, k) :: rs)

/-! ### Final rating (R73) -/

/-- R73 step 2: round the residue by the current cell's rounding. -/
def closeResidue (n : Nat) (p : Price) (s : State) : State :=
  match s.ses n with
  | none => s
  | some x =>
    if x.hasResidue then
      match p.cell.rounding with
      | .whole =>
        chargeThousandths n p.zoneClass (blockThousandths 1 p.cell.price p.factor x.carry)
          (s.setSes n { x with residue := 0, blocks := saturate blocksMax (x.blocks + 1) })
      | .prorata => cutAt n p s
    else s

/-- R73 step 3: make up the minimum blocks. -/
def closeMinimum (n : Nat) (p : Price) (s : State) : State :=
  match s.ses n with
  | none => s
  | some x =>
    if x.blocks < p.cell.minimum then
      chargeThousandths n p.zoneClass
        (blockThousandths (p.cell.minimum - x.blocks) p.cell.price p.factor x.carry)
        (s.setSes n { x with blocks := p.cell.minimum })
    else s

/-- R73 step 4: round the carry. -/
def closeCarry (n : Nat) (z : ZoneClass) (s : State) : State :=
  match s.ses n with
  | none => s
  | some x => charge n z (if 500 ≤ x.carry then 1 else 0) (s.setSes n { x with carry := 0 })

/-- R73, R74: the final rating of a session; an EMERGENCY session is charged by no step. -/
def finalRating (n : Nat) (s : State) : State :=
  let s1 := epochCutOf n s
  match s1.ses n with
  | none => s1
  | some x =>
    if x.cls = .emergency then s1
    else match s1.partnerOf x with
      | none => s1
      | some p =>
        let price := s1.currentPrice x p
        closeCarry n price.zoneClass (closeMinimum n price (closeResidue n price s1))

end Sys2Proof.Machine
end

