-- ==== Sys2Proof/Machine/Migration.lean ====
section
/-! DEFINITION. Link migration (MGE, Chapter 7): raising an order, withdrawing a session from the batch, ending a
batch, stranding, ending an order, the batch step and the acceptance of a batch. -/

namespace Sys2Proof.Machine

/-! ### The queue -/

/-- Replace the migration queue. -/
def State.setQueue (s : State) (q : List Order) : State := { s with mig := { s.mig with queue := q } }

/-- Replace the in-flight batch. -/
def State.setBatch (s : State) (b : Option Batch) : State := { s with mig := { s.mig with batch := b } }

/-- R122: the scope, cause and places of a new order. -/
def newOrder (src : Source) (dest : Dest) (scope : Scope) (cause : OrderCause) : Order :=
  { source := src, dest := dest, scope := scope, cause := cause, excluded := [], batches := 0, moved := 0 }

/-- R123: hand an internal order to the queue: append it, widen the order its source has, or drop it. While the
part is silent no internal order is raised. -/
def raiseOrder (src : Source) (scope : Scope) (cause : OrderCause) (s : State) : State :=
  if s.silent then s
  else if s.mig.queue.any fun o => o.source == src then
    if cause = .failed then
      s.setQueue (s.mig.queue.map fun o => if o.source = src then { o with scope := .all } else o)
    else s
  else s.setQueue (s.mig.queue ++ [newOrder src .auto scope cause])

/-! ### Bindings and counts -/

/-- R44, R133: the binding a session of a batch returns to. -/
def homeBinding : Source → Binding
  | .link l => .bound l
  | .rescue => .stranded

/-- Whether a session holds a slot of a link's capacity. -/
def Session.nonEmergency (x : Session) : Bool := x.cls != .emergency

/-- R115: a link's bound counts with one more session of a class. -/
def Link.gain (l : Link) (x : Session) : Link :=
  if x.nonEmergency then { l with bound := l.bound + 1 } else { l with emergency := l.emergency + 1 }

/-- R115: a link's bound counts with one session of a class fewer. -/
def Link.lose (l : Link) (x : Session) : Link :=
  if x.nonEmergency then { l with bound := l.bound - 1 } else { l with emergency := l.emergency - 1 }

/-- R40: change the stranded count. -/
def State.modStranded (s : State) (f : Nat → Nat) : State :=
  { s with sess := { s.sess with stranded := f s.sess.stranded } }

/-- R115, R40: a session leaves the count of a source: a link's bound count, or the stranded count. -/
def loseFrom (src : Source) (x : Session) (s : State) : State :=
  match src with
  | .link l => s.modLink l fun k => k.lose x
  | .rescue => s.modStranded (· - 1)

/-- R115: release a reserved slot at a destination for a non-emergency session. -/
def releaseSlot (d : LinkId) (x : Session) (s : State) : State :=
  if x.nonEmergency then s.modLink d fun k => { k with reserved := k.reserved - 1 } else s

/-! ### Ends of a batch -/

/-- R133: return one session of a batch to the binding it had, and release its reserved slot. -/
def returnOne (b : Batch) (n : Nat) (s : State) : State :=
  match s.ses n with
  | none => s
  | some x => releaseSlot b.dest x (s.setSes n { x with binding := homeBinding b.source })

/-- R133: return every session still in a batch; the batch is no longer in flight. -/
def returnBatch (b : Batch) (s : State) : State :=
  (b.sessions.foldl (fun s n => returnOne b n s) s).setBatch none

/-- R134: the notice of an abandoned batch. -/
def abandonNotice (b : Batch) (cause : AbandonCause) (returned : Nat) : Notice :=
  .batchAbandoned b.number b.source b.dest cause returned

/-! ### Stranding and the end of an order -/

/-- R139: strand one session of a source link. -/
def strandOne (l : LinkId) (n : Nat) (s : State) : State :=
  let s1 := bindingCutOf n s
  match s1.ses n with
  | none => s1
  | some x =>
    (((s1.modLink l fun k => k.lose x).setSes n { x with binding := .stranded }).modStranded (· + 1)).raise
      (.stranded n x.subscriber x.cls (some l) x.ref)

/-- R138 step 1: the sessions an order's end strands. -/
def strandedBy (o : Order) (outcome : OrderOutcome) (s : State) : List Nat :=
  match o.source with
  | .rescue => []
  | .link l =>
    if (outcome = .stranded ∨ outcome = .aborted) ∧ ((s.link l).state = .down ∨ (s.link l).state = .suspect) then
      (s.inScope o).map Prod.fst
    else []

/-- R138: the stranding of the sessions an order's end strands. -/
def strandAll (o : Order) (ns : List Nat) (s : State) : State :=
  match o.source with
  | .rescue => s
  | .link l => ns.foldl (fun s n => strandOne l n s) s

/-- R138: the notice of an order's end. -/
def endNotice (o : Order) (outcome : OrderOutcome) (k : Nat) : Notice :=
  .orderEnded o.source o.dest o.scope o.cause outcome o.batches o.moved k

/-- R138: end the head order: strand, notify, remove. -/
def endOrder (outcome : OrderOutcome) (s : State) : State :=
  match s.mig.queue with
  | [] => s
  | o :: _ =>
    let ns := strandedBy o outcome s
    let s1 := (strandAll o ns s).raise (endNotice o outcome ns.length)
    s1.setQueue s1.mig.queue.tail

/-- R122, R133: the excluded set with one more link, in ascending order. -/
def exclude (d : LinkId) (ls : List LinkId) : List LinkId := allLinks.filter fun l => l == d || ls.contains l

/-- R133: after a batch has failed, its order ends ABORTED when its destination is fixed, and otherwise excludes
the link that failed. -/
def batchFailed (d : LinkId) (s : State) : State :=
  match s.mig.queue with
  | [] => s
  | o :: rest => match o.dest with
    | .fixed _ => endOrder .aborted s
    | .auto => s.setQueue ({ o with excluded := exclude d o.excluded } :: rest)

/-- R133: a refusal of the in-flight batch. -/
def refuseBatch (b : Batch) (s : State) : State := batchFailed b.dest (returnBatch b s)

/-- R134, R135: the in-flight batch is abandoned and its order goes on as after a refusal. -/
def abandonBatch (b : Batch) (cause : AbandonCause) (s : State) : State :=
  batchFailed b.dest ((returnBatch b s).raise (abandonNotice b cause b.sessions.length))

/-- R136, R50 step 1: withdraw a closing session from the in-flight batch. -/
def withdraw (n : Nat) (s : State) : State :=
  match s.ses n with
  | none => s
  | some x => match x.binding with
    | .moving src d _ =>
      let s1 := releaseSlot d x (s.setSes n { x with binding := homeBinding src })
      match s1.mig.batch with
      | none => s1
      | some b =>
        let rest := b.sessions.filter fun m => m != n
        if rest.isEmpty then (s1.setBatch none).raise (abandonNotice b .emptied 0)
        else s1.setBatch (some { b with sessions := rest })
    | _ => s

/-! ### The batch step (R125 to R130) -/

/-- R126 step 2: whether an order is resolved. -/
def State.resolved (s : State) (o : Order) : Bool :=
  (o.cause == .degraded || o.cause == .failed || o.cause == .zone) &&
    match o.source with
    | .rescue => false
    | .link l => (s.link l).state == .up && s.permitted l

/-- R128: a candidate link of an order. -/
def State.candidate (s : State) (o : Order) (l : LinkId) : Bool :=
  (s.link l).state == .up && o.source != .link l && !o.excluded.contains l

/-- What a batch step decides: the order ends, or a batch goes to a destination, with non-emergency sessions
or as an emergency-only batch. -/
inductive StepChoice
  | ends (outcome : OrderOutcome)
  | batch (dest : LinkId) (withNonEmergency : Bool)
  deriving DecidableEq, Repr

/-- R127, R128: the destination of a batch for sessions in scope. -/
def State.destination (s : State) (o : Order) (scope : List (Nat × Session)) : StepChoice :=
  let allEmergency := scope.all fun p => !p.2.nonEmergency
  let someEmergency := scope.any fun p => !p.2.nonEmergency
  match o.dest with
  | .fixed d =>
    if (s.link d).state ≠ .up then .ends .aborted
    else if !someEmergency && !s.takes d then .ends .aborted
    else .batch d (s.takes d)
  | .auto =>
    if allEmergency then
      match s.bestLink (s.candidate o) with
      | none => .ends .stranded
      | some d => .batch d false
    else match s.bestLink fun l => s.candidate o l && s.takes l with
      | some d => .batch d true
      | none =>
        if someEmergency then
          match s.bestLink (s.candidate o) with
          | none => .ends .stranded
          | some d => .batch d false
        else .ends .stranded

/-- R126 to R128: what the batch step of an order decides. -/
def State.stepChoice (s : State) (o : Order) : StepChoice :=
  let scope := s.inScope o
  if scope.isEmpty then .ends .done
  else if s.resolved o then .ends .resolved
  else s.destination o scope

/-- R129: the walk that takes sessions into a batch: every EMERGENCY session, and non-emergency sessions while
`room` lasts, until `slots` sessions have been taken. -/
def takeSessions : List (Nat × Session) → Nat → Nat → List (Nat × Session)
  | [], _, _ => []
  | _ :: _, _, 0 => []
  | p :: rest, room, slots + 1 =>
    if !p.2.nonEmergency then p :: takeSessions rest room slots
    else match room with
      | 0 => takeSessions rest 0 (slots + 1)
      | r + 1 => p :: takeSessions rest r slots

/-- R129: the most sessions a batch takes. -/
def batchMax : Nat := 32

/-- R129: the sessions a batch to a destination takes. -/
def State.batchSessions (s : State) (o : Order) (d : LinkId) (withNonEmergency : Bool) : List (Nat × Session) :=
  takeSessions (s.inScope o) (if withNonEmergency then (s.link d).free else 0) batchMax

/-- R130: the number after the batch counter; 1 follows 65,535. -/
def nextBatch (counter : Nat) : Nat := if 65535 ≤ counter then 1 else counter + 1

/-- R122: the largest value of an order's counts. -/
def countMax : Nat := 65535

/-- R129, R130: form a batch of the given sessions for the head order and send it. -/
def formBatch (o : Order) (rest : List Order) (d : LinkId) (taken : List (Nat × Session)) (s : State) : State :=
  let number := nextBatch s.mig.counter
  let handles := taken.map Prod.fst
  let s1 := taken.foldl (fun s p => s.setSes p.1 { p.2 with binding := .moving o.source d number }) s
  let s2 := s1.modLink d fun k => { k with reserved := k.reserved + (taken.filter fun p => p.2.nonEmergency).length }
  let b : Batch :=
    { number := number, source := o.source, dest := d, sessions := handles, sent := s.now,
      deadline := deadlineAfter s.now s.settings.batchTimeout }
  ({ s2 with mig := { queue := { o with batches := saturate countMax (o.batches + 1) } :: rest, batch := some b,
                      counter := number } }).raise (.moveBatch number o.source d handles)

/-- R125: the batch step of the head order. It is taken only while the head order has no batch in flight. -/
def batchStepEffect (s : State) : State :=
  match s.mig.queue, s.mig.batch with
  | o :: rest, none =>
    match s.stepChoice o with
    | .ends outcome => endOrder outcome s
    | .batch d ne => formBatch o rest d (s.batchSessions o d ne) s
  | _, _ => s

/-! ### Acceptance (R132) -/

/-- R132: rebind one session of an accepted batch. -/
def acceptOne (b : Batch) (n : Nat) (s : State) : State :=
  let s1 := bindingCutOf n s
  match s1.ses n with
  | none => s1
  | some x =>
    let s2 := loseFrom b.source x (s1.setSes n { x with binding := .bound b.dest })
    (releaseSlot b.dest x s2).modLink b.dest fun k => k.gain x

/-- R132: add to the sessions moved of the head order. -/
def addMoved (k : Nat) (s : State) : State :=
  match s.mig.queue with
  | [] => s
  | o :: rest => s.setQueue ({ o with moved := saturate countMax (o.moved + k) } :: rest)

/-- R132: an acceptance of the in-flight batch. -/
def acceptBatch (b : Batch) (s : State) : State :=
  (addMoved b.sessions.length (b.sessions.foldl (fun s n => acceptOne b n s) s)).setBatch none

/-! ### Entry into silence and the own timer -/

/-- R141: abandon the in-flight batch and discard every order, head first. -/
def silenceMigration (s : State) : State :=
  let s1 := match s.mig.batch with
    | none => s
    | some b => (returnBatch b s).raise (abandonNotice b .silence b.sessions.length)
  let s2 := s1.mig.queue.foldl (fun s o => s.raise (endNotice o .discarded 0)) s1
  s2.setQueue []

/-- R134: the deadline of the in-flight batch passes. -/
def batchTimeoutEffect (s : State) : State :=
  match s.mig.batch with
  | none => s
  | some b => if s.passed b.deadline then abandonBatch b .timeout s else s

end Sys2Proof.Machine
end

