-- ==== Sys2Proof/Machine/Answer.lean ====
section
/-! DEFINITION. What a request's owning block is given and what it gives back (R176): the sender of the request,
and a result, the fields of the response body and the state after the request. -/

namespace Sys2Proof.Machine

/-- R174: the client a request comes from. -/
structure Sender where
  num : Nat
  role : Role
  deriving DecidableEq, Repr

/-- R176: what the owner of a request gives. -/
structure Answer where
  result : Result
  body : List Field
  state : State
  deriving DecidableEq, Repr

/-- R176: a refusal whose owning rule names no response fields: an empty body and nothing changed. -/
def refuse (r : Result) (s : State) : Answer := ⟨r, [], s⟩

/-- What the Request Port calls to have a request handled. -/
abbrev Handler := Sender → State → Answer

/-- R5, R12, R124: a two-valued disposition, the second value standing for what waits or is new. -/
def fSecond (b : Bool) : Field := .u8 (if b then 1 else 0)

end Sys2Proof.Machine
end

