-- ==== Sys2Proof/Machine/Session.lean ====
section
/-! DEFINITION. Sessions (SST, Chapter 3): opening, the close of R50, the checks of a pass visit, and the answers to
SESSION_OPEN, SESSION_CLOSE and READ_SESSION. -/

namespace Sys2Proof.Machine

/-! ### Closing (R50) -/

/-- R50 step 2: the handle leaves its context's session list. -/
def unlist (n : Nat) (s : State) : State :=
  match s.ses n with
  | none => s
  | some x => s.modCtx x.subscriber fun c => { c with sessions := c.sessions.filter fun m => m != n }

/-- R13: one session fewer of a subscriber's partner, in its session count and its live plan's use count. -/
def loseUse (x : Session) (s : State) : State :=
  match s.partnerEntry x with
  | none => s
  | some (i, p) => (s.setPar i { p with sessions := p.sessions - 1 }).modPlanUse p.plan (· - 1)

/-- R13: one session more of a subscriber's partner. -/
def gainUse (x : Session) (s : State) : State :=
  match s.partnerEntry x with
  | none => s
  | some (i, p) => (s.setPar i { p with sessions := p.sessions + 1 }).modPlanUse p.plan (· + 1)

/-- R44: a session leaves the count that holds it. -/
def loseCount (x : Session) (s : State) : State :=
  match x.binding.countedOn with
  | some l => s.modLink l fun k => k.lose x
  | none => s.modStranded (· - 1)

/-- R50 step 4: uncount a session. -/
def uncount (n : Nat) (s : State) : State :=
  match s.ses n with
  | none => s
  | some x => if x.nonEmergency then loseUse x (loseCount x s) else loseCount x s

/-- Section 3.5: the reasons for which a close sends a SESSION_CLOSED notice. -/
def CloseReason.notifies : CloseReason → Bool
  | .radio => false
  | .detach => false
  | .idle => true
  | .released => true
  | .silence => true

/-- R50 step 5, R57: notify a close. -/
def notifyClose (n : Nat) (reason : CloseReason) (s : State) : State :=
  match s.ses n with
  | none => s
  | some x =>
    if reason.notifies then s.raise (.sessionClosed n x.subscriber x.cls reason x.charge x.blocks x.ref) else s

/-- R50 step 6: the record becomes free. -/
def State.freeSession (s : State) (n : Nat) : State :=
  { s with sess := { s.sess with records := Table.erase s.sess.records n } }

/-- R50 steps 1 to 3: withdraw, unlist and rate a session. -/
def closeRated (n : Nat) (s : State) : State := finalRating n (unlist n (withdraw n s))

/-- R50: close a session. -/
def closeSession (n : Nat) (reason : CloseReason) (s : State) : State :=
  (notifyClose n reason (uncount n (closeRated n s))).freeSession n

/-- Close sessions one at a time, in the order given. -/
def closeList (ns : List Nat) (reason : CloseReason) (s : State) : State :=
  ns.foldl (fun s n => closeSession n reason s) s

/-! ### The session checks of a pass visit (R52, R54) -/

/-- R52: whether the idle period of a session has run. -/
def State.idleDue (s : State) (x : Session) : Bool :=
  s.settings.idle != 0 && decide (s.settings.idle * 1000 ≤ s.now - x.lastUsage)

/-- R54: whether the release deadline of a releasing session has passed. -/
def State.releaseCloseDue (s : State) (x : Session) : Bool := (s.releaseDeadline x).any s.passed

/-- R52, R54: the idle check of a session, and the release check of one that survived it. -/
def visitSession (n : Nat) (s : State) : State :=
  match s.ses n with
  | none => s
  | some x =>
    if s.idleDue x then closeSession n .idle s
    else if s.releaseCloseDue x then closeSession n .released s
    else s

/-! ### SESSION_OPEN (R45 to R48) -/

/-- Table 3-1: the record of a session at SESSION_OPEN. -/
def newSession (handle : Nat) (cls : TrafficClass) (b : Binding) (ref : BitVec 32) (s : State) : Session :=
  { subscriber := handle, cls := cls, service := .active, binding := b, epoch := s.tariff.epoch, residue := 0,
    carry := 0, blocks := 0, charge := 0, opened := s.now, lastUsage := s.now, ref := ref, clamped := 0,
    uncertain := 0 }

/-- R47 step 5, R48 step 4: the handle joins the end of the context's session list. -/
def State.enlist (s : State) (handle n : Nat) : State :=
  s.modCtx handle fun c => { c with sessions := c.sessions ++ [n] }

/-- R48 step 3, R47 steps 2 and 3: write the record and count the session. -/
def openRecord (n : Nat) (x : Session) (s : State) : State :=
  let s1 := s.setSes n x
  match x.binding.countedOn with
  | some l => s1.modLink l fun k => k.gain x
  | none => (s1.modStranded (· + 1)).raise (.stranded n x.subscriber x.cls none x.ref)

/-- R48: open an EMERGENCY session. The indication STRANDED is 255 in the byte of the link (log entry 30). The RADIO
reference follows the fields of R48 (R41, log entry 10). -/
def openEmergency (n handle : Nat) (ref : BitVec 32) (s : State) : Answer :=
  let choice := s.emergencyChoice
  let b := match choice with
    | some l => Binding.bound l
    | none => Binding.stranded
  let x := newSession handle .emergency b ref s
  ⟨.ok, [.u16 n, .u8 TrafficClass.emergency.code, fLink choice, .u32 ref.toNat], (openRecord n x s).enlist handle n⟩

/-- R46: the check that refuses a VOICE, DATA or MESSAGE session of a context under its partner, if any. -/
def chargedRefusal (c : Context) (p : Partner) (cls : TrafficClass) (col : Nat) (s : State) : Option Result :=
  if p.status = .suspended then some .partnerSuspended
  else if p.status = .barred then some .partnerBarred
  else if !levelAllows s.effectiveLevel cls then some .serviceForbidden
  else if !Table.has s.tariff.cells (cellIndex p.plan s.effectiveClass col) then some .noTariff
  else if c.credit ≠ .funded then some .unfunded
  else if s.bindingChoice.isNone then some .noLink
  else none

/-- R47: open a VOICE, DATA or MESSAGE session that R46 admits, on its link. The RADIO reference follows the
fields of R47 (R41, log entry 10). -/
def openCharged (n handle : Nat) (p : Partner) (cls : TrafficClass) (col : Nat) (l : LinkId) (ref : BitVec 32)
    (s : State) : Answer :=
  let x := newSession handle cls (.bound l) ref s
  ⟨.ok, [.u16 n, .u8 cls.code, .u8 l.val, .u16 s.tariff.epoch.toNat, .u16 (cellIndex p.plan s.effectiveClass col),
      .u32 ref.toNat],
    (gainUse x (openRecord n x s)).enlist handle n⟩

/-- R46, R47: a VOICE, DATA or MESSAGE session that passed R45. -/
def openNonEmergency (n handle : Nat) (c : Context) (cls : TrafficClass) (col : Nat) (ref : BitVec 32) (s : State) :
    Answer :=
  match s.par c.partner with
  | none => refuse .unknownPartner s
  | some p => match chargedRefusal c p cls col s with
    | some r => refuse r s
    | none => match s.bindingChoice with
      | none => refuse .noLink s
      | some l => openCharged n handle p cls col l ref s

/-- R40: the handle a new session takes. -/
def State.freeSessionHandle (s : State) : Option Nat := Table.firstFree s.sess.records 0 sessionCount

/-- R23: the most sessions a context lists. -/
def sessionsMax : Nat := 8

/-- R45 to R48: SESSION_OPEN. -/
def sessionOpenAnswer (handle : Nat) (cls : Option TrafficClass) (ref : BitVec 32) : Handler := fun _ s =>
  if s.silent then refuse .silent s
  else match cls with
    | none => refuse .badValue s
    | some k => match s.slot handle with
      | none => refuse .unknownHandle s
      | some c =>
        if c.presence = .dormant then refuse .unknownHandle s
        else if sessionsMax ≤ c.sessions.length then refuse .sessionLimit s
        else match s.freeSessionHandle with
          | none => refuse .tableFull s
          | some n => match classColumn k with
            | none => openEmergency n handle ref s
            | some col => openNonEmergency n handle c k col ref s

/-! ### SESSION_CLOSE (R51) and READ_SESSION (R58) -/

/-- R51: SESSION_CLOSE. -/
def sessionCloseAnswer (n subscriber : Nat) : Handler := fun _ s =>
  match (s.openAt n).filter fun x => x.subscriber == subscriber with
  | none => refuse .unknownHandle s
  | some x =>
    let rated := (((closeRated n s).ses n).getD x)
    let s1 := closeSession n .radio s
    ⟨.ok, [.u16 n, .u8 x.cls.code, .u64 rated.charge, .u32 rated.blocks, .u64 (s1.folioOf subscriber)], s1⟩

/-- Table 3-1: a binding, its kind first (log entry 11). -/
def fBinding : Binding → List Field
  | .bound l => [.u8 0, .u8 l.val]
  | .moving src d b => [.u8 1, .u8 src.code, .u8 d.val, .u16 b]
  | .stranded => [.u8 2]

/-- Table 3-1: every field of a session record. -/
def fSession (x : Session) : List Field :=
  [.u16 x.subscriber, .u8 x.cls.code, .u8 x.service.code] ++ fBinding x.binding
    ++ [.u16 x.epoch.toNat, .u32 x.residue, .u16 x.carry, .u32 x.blocks, .u64 x.charge, .u64 x.opened,
      .u64 x.lastUsage, .u32 x.ref.toNat, .u8 x.clamped, .u8 x.uncertain]

/-- R58: READ_SESSION. -/
def readSessionAnswer (n : Nat) : Handler := fun _ s =>
  match s.openAt n with
  | none => refuse .unknownHandle s
  | some x =>
    let charged := x.nonEmergency
    ⟨.ok, fSession x
      ++ [.u8 (((s.ctx x.subscriber).map Context.partner).getD 0), fFlag (s.releasing x),
        fFlag (charged && s.zoneCondition x), fFlag (charged && s.partnerCondition x)]
      ++ fOpt64 (s.releaseDeadline x) ++ [fFlag (s.inPrevious x)], s⟩

end Sys2Proof.Machine
end

