-- ==== Sys2Proof/Machine/Tariff.lean ====
section
/-! DEFINITION. Partners and rate plans (TFU, Chapter 1) and the reads and settlement of a partner (CRU, Chapter 5):
the revision list, the opening of an epoch, and the answers of PARTNER_SET, PARTNER_STATUS, PARTNER_REMOVE,
RATE_SET, EPOCH_CUT, READ_PARTNER and SETTLEMENT. -/

namespace Sys2Proof.Machine

/-! ### The revision list (R14) -/

/-- R14: the most entries the revision list holds. -/
def revisionsMax : Nat := 16

/-- Whether an entry is the partner entry of an index. -/
def Revision.isPartner (i : Nat) : Revision → Bool
  | .partner j _ _ _ => i == j
  | .cell .. => false

/-- Whether an entry is the cell entry of an index. -/
def Revision.isCell (i : Nat) : Revision → Bool
  | .cell j _ _ => i == j
  | .partner .. => false

/-- Whether the revision list holds an entry for a partner. -/
def State.hasPartnerEntry (s : State) (i : Nat) : Bool := s.tariff.revisions.any (Revision.isPartner i)

/-- Whether the revision list holds an entry for a cell. -/
def State.hasCellEntry (s : State) (i : Nat) : Bool := s.tariff.revisions.any (Revision.isCell i)

/-- Replace the revision list. -/
def State.setRevisions (s : State) (rs : List Revision) : State :=
  { s with tariff := { s.tariff with revisions := rs } }

/-- R6 case 1: a partner entry's new values are replaced in place. -/
def Revision.replacePartner (i : Nat) (plan : PlanId) (adjustment : Int) (r : Revision) : Revision :=
  match r with
  | .partner j q a old => if i = j then .partner j plan adjustment old else .partner j q a old
  | .cell .. => r

/-- R12 case 2: a cell entry's new values are replaced in place. -/
def Revision.replaceCell (i : Nat) (new : Cell) (r : Revision) : Revision :=
  match r with
  | .cell j v old => if i = j then .cell j new old else .cell j v old
  | .partner .. => r

/-- The number of entries in the revision list, as responses carry it. -/
def fRevisionCount (s : State) : Field := .u8 s.tariff.revisions.length

/-! ### PARTNER_SET (R4 to R6) -/

/-- A plan number a request carries; above 31 it names none. -/
def planOf (n : Nat) : Option PlanId := if h : n < 32 then some ⟨n, h⟩ else none

/-- R1: the number of partner slots. -/
def partnerSlots : Nat := 256

/-- Table 1-1: a partner at creation. -/
def newPartner (d : PartnerDef) (kind : PartnerKind) (plan : PlanId) : Partner :=
  { code := d.code, kind := kind, status := .active, barTime := none, barWindow := d.barWindow, plan := plan,
    adjustment := d.adjustment, exposure := d.exposure, initialStep := d.initialStep, topUpStep := d.topUpStep,
    lowWater := d.lowWater, openTotal := 0, closedTotal := 0, closedSub := Subtotals.zero, present := 0, sessions := 0,
    settleNumber := 0, settled := none }

/-- R4, R1: create a partner in the lowest free slot. -/
def createPartner (d : PartnerDef) (kind : PartnerKind) (plan : PlanId) (s : State) : Answer :=
  match Table.firstFree s.tariff.partners 0 partnerSlots with
  | none => refuse .tableFull s
  | some i =>
    let s1 := s.setPar i (newPartner d kind plan)
    let s2 := { s1 with tariff := { s1.tariff with codes := insertRising d.code s1.tariff.codes } }
    ⟨.ok, [.u8 i, fSecond false, fRevisionCount s2], s2⟩

/-- R6: how the tariff fields of a redefinition are disposed of. -/
inductive TariffMove | same | written | replaced | appended | busy
  deriving DecidableEq, Repr

/-- R6: the disposition of a plan and adjustment for an existing partner. -/
def tariffMove (i : Nat) (p : Partner) (plan : PlanId) (adjustment : Int) (s : State) : TariffMove :=
  if s.hasPartnerEntry i then (if s.cutRunning then .busy else .replaced)
  else if plan = p.plan ∧ adjustment = p.adjustment then .same
  else if p.sessions = 0 then .written
  else if s.cutRunning || decide (revisionsMax ≤ s.tariff.revisions.length) then .busy
  else .appended

/-- R6: whether a disposition is STAGED. -/
def TariffMove.staged : TariffMove → Bool
  | .replaced => true
  | .appended => true
  | _ => false

/-- R5: the immediate fields. -/
def Partner.setImmediate (p : Partner) (d : PartnerDef) (kind : PartnerKind) : Partner :=
  { p with kind := kind, barWindow := d.barWindow, exposure := d.exposure, initialStep := d.initialStep,
           topUpStep := d.topUpStep, lowWater := d.lowWater }

/-- R6: write or stage the tariff fields. -/
def applyMove (i : Nat) (plan : PlanId) (adjustment : Int) (m : TariffMove) (s : State) : State :=
  match m with
  | .same => s
  | .busy => s
  | .written => s.modPar i fun p => { p with plan := plan, adjustment := adjustment }
  | .replaced => s.setRevisions (s.tariff.revisions.map (Revision.replacePartner i plan adjustment))
  | .appended => s.setRevisions (s.tariff.revisions ++ [.partner i plan adjustment none])

/-- R8: the PARTNER_STATUS notice of a partner. -/
def Partner.statusNotice (p : Partner) : Notice := .partnerStatus p.code p.status p.barDeadline

/-- R5, R8: the notice of a bar window changed while BARRED. -/
def raiseWindow (before after : Partner) (s : State) : State :=
  if before.status = .barred ∧ before.barWindow ≠ after.barWindow then s.raise after.statusNotice else s

/-- R5, R6: redefine a partner. -/
def redefinePartner (i : Nat) (p : Partner) (d : PartnerDef) (kind : PartnerKind) (plan : PlanId) (s : State) : Answer :=
  if kind ≠ p.kind ∧ 0 < p.present then refuse .inUse s
  else
    let m := tariffMove i p plan d.adjustment s
    if m = .busy then refuse .busy s
    else
      let after := p.setImmediate d kind
      let s1 := raiseWindow p after (applyMove i plan d.adjustment m (s.setPar i after))
      ⟨.ok, [.u8 i, fSecond m.staged, fRevisionCount s1], s1⟩

/-- R4 to R6: PARTNER_SET. -/
def partnerSetAnswer (d : PartnerDef) : Handler := fun _ s =>
  match d.kind, planOf d.plan with
  | some kind, some plan =>
    if codeMax < d.code || !partnerRangesOk d then refuse .badValue s
    else match s.partnerByCode d.code with
      | none => createPartner d kind plan s
      | some (i, p) => redefinePartner i p d kind plan s
  | _, _ => refuse .badValue s

/-! ### PARTNER_STATUS (R7, R8) and PARTNER_REMOVE (R9) -/

/-- R7: the response fields of a PARTNER_STATUS: the bar time is present when the status is BARRED. -/
def fStatus (i : Nat) (p : Partner) : List Field := [.u8 i, .u8 p.status.code] ++ fOpt64 p.barTime

/-- R7: PARTNER_STATUS. -/
def partnerStatusAnswer (code : Nat) (status : Option PartnerStatus) : Handler := fun _ s =>
  match status with
  | none => refuse .badValue s
  | some st =>
    if codeMax < code then refuse .badValue s
    else match s.partnerByCode code with
      | none => refuse .unknownPartner s
      | some (i, p) =>
        if st = p.status then ⟨.already, fStatus i p, s⟩
        else
          let p1 := { p with status := st, barTime := if st = .barred then some s.now else none }
          ⟨.ok, fStatus i p1, (s.setPar i p1).raise p1.statusNotice⟩

/-- R9: a partner leaves the table, the ordered list and the revision list. -/
def removePartner (i : Nat) (code : Nat) (s : State) : State :=
  { s with tariff := { s.tariff with
      partners := Table.erase s.tariff.partners i
      codes := s.tariff.codes.filter fun c => c != code
      revisions := s.tariff.revisions.filter fun r => !r.isPartner i } }

/-- R9: PARTNER_REMOVE. -/
def partnerRemoveAnswer (code : Nat) : Handler := fun _ s =>
  if codeMax < code then refuse .badValue s
  else match s.partnerByCode code with
    | none => refuse .unknownPartner s
    | some (i, p) =>
      if 0 < p.present ∨ p.closedTotal ≠ 0 then refuse .inUse s
      else ⟨.ok, [.u8 i], removePartner i code s⟩

/-! ### RATE_SET (R11, R12) -/

/-- Write a live cell, which becomes set (R10). -/
def State.setCell (s : State) (i : Nat) (c : Cell) : State :=
  { s with tariff := { s.tariff with cells := Table.set s.tariff.cells i c } }

/-- R11, R12: RATE_SET. -/
def rateSetAnswer (r : RateDef) : Handler := fun _ s =>
  match rateTarget r with
  | none => refuse .badValue s
  | some (plan, i, c) =>
    if s.cutRunning then refuse .busy s
    else if s.hasCellEntry i then
      let s1 := s.setRevisions (s.tariff.revisions.map (Revision.replaceCell i c))
      ⟨.ok, [.u16 i, fSecond true, fRevisionCount s1], s1⟩
    else if s.tariff.planUse[plan] = 0 then
      ⟨.ok, [.u16 i, fSecond false, fRevisionCount s], s.setCell i c⟩
    else if revisionsMax ≤ s.tariff.revisions.length then refuse .busy s
    else
      let s1 := s.setRevisions (s.tariff.revisions ++ [.cell i c none])
      ⟨.ok, [.u16 i, fSecond true, fRevisionCount s1], s1⟩

/-! ### Epochs (R15) -/

/-- R10: the traffic class of a cell's column. -/
def cellClass (index : Nat) : TrafficClass :=
  match index % 3 with
  | 0 => .voice
  | 1 => .data
  | _ => .message

/-- R13: a partner's whole session count moves between the use counts of two plans. -/
def movePlanUse (p q : PlanId) (k : Nat) (s : State) : State :=
  if p = q then s else (s.modPlanUse p (· - k)).modPlanUse q (· + k)

/-- R15 step 3: apply one entry: its old values are the live ones, and the live record takes its new ones. -/
def applyRevision (r : Revision) (s : State) : State × Revision :=
  match r with
  | .cell i new _ => (s.setCell i new, .cell i new (some (s.liveCell (cellClass i) i)))
  | .partner i plan adjustment _ =>
    match s.par i with
    | none => (s, r)
    | some p =>
      (movePlanUse p.plan plan p.sessions (s.setPar i { p with plan := plan, adjustment := adjustment }),
        .partner i plan adjustment (some (p.plan, p.adjustment)))

/-- R15 step 3: apply every entry, in list order. -/
def applyRevisions : List Revision → State → State × List Revision
  | [], s => (s, [])
  | r :: rs, s =>
    let (s1, r1) := applyRevision r s
    let (s2, rs1) := applyRevisions rs s1
    (s2, r1 :: rs1)

/-- R15 steps 1 and 2: the previous epoch and zone class are recorded and the current epoch advances, wrapping. -/
def advanceEpoch (prevClass : ZoneClass) (s : State) : State :=
  { s with tariff := { s.tariff with previous := some ⟨s.tariff.epoch, prevClass⟩, epoch := s.tariff.epoch + 1 } }

/-- R15: open an epoch: advance it, apply the staged revisions and start the cut pass. -/
def openEpoch (prevClass : ZoneClass) (s : State) : State :=
  let s1 := advanceEpoch prevClass s
  let (s2, rs) := applyRevisions s1.tariff.revisions s1
  { s2.setRevisions rs with cutPos := some 0 }

/-- R15: EPOCH_CUT. -/
def epochCutAnswer : Handler := fun _ s =>
  if s.cutRunning then refuse .busy s
  else
    let s1 := openEpoch s.effectiveClass s
    ⟨.ok, [.u16 s1.tariff.epoch.toNat, .u8 s.tariff.revisions.length], s1⟩

/-! ### READ_PARTNER (R98, R99) and settlement (R100, R101) -/

/-- R101: a settlement record: its number, then the settle time and the amounts settled once there are any. -/
def fSettlement (p : Partner) : List Field :=
  let z := p.settled.getD ⟨0, 0, Subtotals.zero⟩
  [.u16 p.settleNumber, fFlag p.settled.isSome, .u64 z.time, .u64 z.total] ++ fSub z.sub

/-- R96: whether the open total stands at or above an exposure limit that is not 0. -/
def Partner.atLimit (p : Partner) : Bool := p.exposure != 0 && decide (p.exposure ≤ p.openTotal)

/-- R98: the fields of a READ_PARTNER of the SINGLE form. -/
def fPartner (i : Nat) (p : Partner) (s : State) : List Field :=
  [.u32 p.code, .u8 i, .u8 p.kind.code, .u8 p.status.code] ++ fOpt64 p.barTime ++ fOpt64 p.barDeadline
    ++ [.u16 p.barWindow, .u8 p.plan.val, fAdjustment p.adjustment, fFlag (s.hasPartnerEntry i), .u64 p.exposure,
      fFlag p.atLimit, .u64 p.initialStep, .u64 p.topUpStep, .u64 p.lowWater, .u64 p.openTotal, .u64 p.closedTotal]
    ++ fSub p.closedSub ++ [.u16 p.present] ++ fSettlement p

/-- R98: READ_PARTNER, the SINGLE form without settling; a form that is neither SINGLE nor LIST is BAD_VALUE. -/
def readPartnerAnswer (code : Option Nat) : Handler := fun _ s =>
  match code with
  | none => refuse .badValue s
  | some k =>
    if codeMax < k then refuse .badValue s
    else match s.partnerByCode k with
      | none => refuse .unknownPartner s
      | some (i, p) => ⟨.ok, fPartner i p s, s⟩

/-- R99: the most partners a LIST response carries. -/
def listMax : Nat := 16

/-- R99: the fields of one partner of a LIST response. -/
def fListed (s : State) (code : Nat) : List Field :=
  match s.partnerByCode code with
  | none => []
  | some (i, p) => [.u32 p.code, .u8 i, .u8 p.kind.code, .u8 p.status.code, .u16 p.present, .u64 p.openTotal,
      .u64 p.closedTotal]

/-- R99: READ_PARTNER, the LIST form: the partners, their number in the table, and the next code or none. -/
def readPartnerListAnswer (start : Nat) (settle : Bool) : Handler := fun _ s =>
  if codeMax < start || settle then refuse .badValue s
  else
    let codes := s.tariff.codes.filter fun c => start ≤ c
    let next := (codes.drop listMax).head?
    ⟨.ok, (codes.take listMax).flatMap (fListed s)
      ++ [.u16 s.tariff.partners.length, fFlag next.isSome, .u32 (next.getD 0)], s⟩

/-- R100 step 2: the settlement number after a settlement; 1 follows 65,535. -/
def nextSettle (n : Nat) : Nat := if 65535 ≤ n then 1 else n + 1

/-- R100 steps 2 and 3: a partner with the settlement recorded. -/
def Partner.recordSettlement (p : Partner) (now : Nat) : Partner :=
  { p with settleNumber := nextSettle p.settleNumber, settled := some ⟨now, p.closedTotal, p.closedSub⟩ }

/-- R100 step 4: the closed account returns to 0. -/
def Partner.zeroClosed (p : Partner) : Partner := { p with closedTotal := 0, closedSub := Subtotals.zero }

/-- R100: READ_PARTNER with the settle option. -/
def settlementAnswer (code : Nat) : Handler := fun sender s =>
  if sender.role ≠ .purser then refuse .notPermitted s
  else if codeMax < code then refuse .badValue s
  else match s.partnerByCode code with
    | none => refuse .unknownPartner s
    | some (i, p) =>
      let recorded := p.recordSettlement s.now
      ⟨.ok, fPartner i recorded s, s.setPar i recorded.zeroClosed⟩

end Sys2Proof.Machine
end

