-- ==== Sys2Proof/Machine/Subscriber.lean ====
section
/-! DEFINITION. Subscriber contexts (SBT, Chapter 2) and grants (CRU, Chapter 5): attachment, detachment, retirement,
pinning, the gate, and the answers of ATTACH, DETACH, LOOKUP, READ_CONTEXT, READ_FOLIO, GATE_SET, PIN, UNPIN,
RETIRE and GRANT. -/

namespace Sys2Proof.Machine

/-! ### ATTACH (R26 to R29) and LOOKUP (R30) -/

/-- R26, R30: the fields of an ATTACH or LOOKUP response for a present context. -/
def fAttached (h : Nat) (c : Context) : List Field :=
  [.u16 h, .u8 c.presence.code, fFlag c.pinned, .u8 c.partner, .u8 c.credit.code, .u32 c.ref.toNat]

/-- R26: the body of an ATTACH response: its fields whenever the identity is present. -/
def attachBody (identity : Nat) (s : State) : List Field :=
  match s.findIdentity identity with
  | none => []
  | some h => match s.ctx h with
    | none => []
    | some c => fAttached h c

/-- R26: an ATTACH answered with a result, in a state. -/
def attachGive (identity : Nat) (r : Result) (s : State) : Answer := ⟨r, attachBody identity s, s⟩

/-- Table 2-1: a context at creation. -/
def newContext (identity partner : Nat) (ref : BitVec 32) (now : Nat) : Context :=
  { identity := identity, partner := partner, presence := .attached, pinned := false, attachTime := now,
    dormancy := none, sessions := [], folio := 0, sub := Subtotals.zero, granted := 0, consumed := 0,
    credit := .unfunded, ask := none, lastAsk := 0, denied := false, lapsed := 0, ref := ref }

/-- R29: create a context, with the ask for the initial step of a HOME_ROAMING partner. -/
def createContext (h identity i : Nat) (p : Partner) (ref : BitVec 32) (s : State) : State :=
  let s1 := (s.setCtx h (newContext identity i ref s.now)).setPar i { p with present := p.present + 1 }
  if p.kind = .homeRoaming ∧ 0 < p.initialStep then issueAsk h p.initialStep s1 else s1

/-- R28, R29: ATTACH of an identity that is not present. -/
def attachNew (identity : Nat) (ref : BitVec 32) (s : State) : Answer :=
  if s.subs.gate = .held then attachGive identity .gateHeld s
  else match s.partnerByCode (codeOf identity) with
    | none => attachGive identity .unknownPartner s
    | some (i, p) =>
      if p.status = .suspended then attachGive identity .partnerSuspended s
      else if p.status = .barred then attachGive identity .partnerBarred s
      else if p.atLimit then attachGive identity .exposureLimit s
      else match s.absentWay identity with
        | none => attachGive identity .bucketFull s
        | some h => attachGive identity .ok (createContext h identity i p ref s)

/-- R27: a context re-attached. -/
def Context.reattach (c : Context) (ref : BitVec 32) (now : Nat) : Context :=
  { c with presence := .attached, dormancy := none, attachTime := now, ref := ref }

/-- R27: ATTACH of a DORMANT context. -/
def attachAgain (identity h : Nat) (c : Context) (ref : BitVec 32) (s : State) : Answer :=
  if (s.par c.partner).any fun p => p.status == .barred then attachGive identity .partnerBarred s
  else attachGive identity .already (s.setCtx h (c.reattach ref s.now))

/-- R26 to R29: ATTACH. -/
def attachAnswer (identity : Nat) (ref : BitVec 32) : Handler := fun _ s =>
  if s.silent then attachGive identity .silent s
  else if identityEnd ≤ identity then refuse .badValue s
  else match s.findIdentity identity with
    | none => attachNew identity ref s
    | some h => match s.ctx h with
      | none => attachNew identity ref s
      | some c => match c.presence with
        | .attached => attachGive identity .already s
        | .dormant => attachAgain identity h c ref s

/-- R30: LOOKUP. -/
def lookupAnswer (identity : Nat) : Handler := fun _ s =>
  match s.named (some (.byIdentity identity)) with
  | .bad => refuse .badValue s
  | .absent => refuse .unknownHandle s
  | .found h c => ⟨.ok, fAttached h c, s⟩

/-! ### Dormancy and DETACH (R32, R33) -/

/-- R32: a context made DORMANT, with its deadline. -/
def Context.goDormant (c : Context) (deadline : Nat) : Context :=
  { c with presence := .dormant, dormancy := some deadline }

/-- R32: the dormancy deadline of an event taken now. -/
def State.dormancyDeadline (s : State) : Nat := deadlineAfter s.now (s.settings.dormancy * 1000)

/-- R32, R33, R159: an ATTACHED context becomes DORMANT, and its sessions are then closed oldest first. -/
def dropContext (h : Nat) (c : Context) (reason : CloseReason) (s : State) : State :=
  closeList c.sessions reason (s.setCtx h (c.goDormant s.dormancyDeadline))

/-- R33: the fields of a DETACH response. -/
def fDetached (h closed : Nat) (s : State) : List Field :=
  [.u16 h, .u8 closed, .u64 (s.folioOf h), .u64 (((s.ctx h).bind Context.dormancy).getD 0)]

/-- R33: DETACH. -/
def detachAnswer (h : Nat) : Handler := fun _ s =>
  match s.slot h with
  | none => refuse .unknownHandle s
  | some c => match c.presence with
    | .dormant => ⟨.already, fDetached h 0 s, s⟩
    | .attached =>
      let s1 := dropContext h c .detach s
      ⟨.ok, fDetached h c.sessions.length s1, s1⟩

/-! ### Reads (R31, R97) -/

/-- The partner code of a context. -/
def State.codeOfContext (s : State) (c : Context) : Nat := ((s.par c.partner).map Partner.code).getD 0

/-- R31: an outstanding ask, or the indication that none is outstanding. -/
def fAsk (a : Option Ask) : List Field :=
  [fFlag a.isSome, .u8 ((a.map Ask.number).getD 0), .u64 ((a.map Ask.deadline).getD 0)]

/-- R31: READ_CONTEXT. -/
def readContextAnswer (ref : Option ContextRef) : Handler := fun _ s =>
  match s.named ref with
  | .bad => refuse .badValue s
  | .absent => refuse .unknownHandle s
  | .found h c =>
    ⟨.ok, [.u16 h, .u64 c.identity, .u8 c.partner, .u32 (s.codeOfContext c), .u8 c.presence.code, fFlag c.pinned,
        .u64 c.attachTime] ++ fOpt64 c.dormancy ++ [.u8 c.sessions.length] ++ c.sessions.map .u16
      ++ [.u64 c.granted, .u64 c.consumed, .u64 c.remaining, .u8 c.credit.code, fFlag c.denied, .u8 c.lapsed]
      ++ fAsk c.ask ++ [.u32 c.ref.toNat], s⟩

/-- R97: the fields of one listed session. -/
def fFolioSession (s : State) (n : Nat) : List Field :=
  match s.ses n with
  | none => []
  | some x => [.u16 n, .u8 x.cls.code, .u8 x.service.code, .u64 x.charge, .u32 x.residue, .u16 x.carry]

/-- R97: READ_FOLIO. -/
def readFolioAnswer (ref : Option ContextRef) : Handler := fun _ s =>
  match s.named ref with
  | .bad => refuse .badValue s
  | .absent => refuse .unknownHandle s
  | .found h c =>
    ⟨.ok, [.u16 h, .u64 c.identity, .u8 c.partner, .u32 (s.codeOfContext c), .u64 c.folio] ++ fSub c.sub
      ++ [.u64 c.granted, .u64 c.consumed, .u64 c.remaining, .u8 c.credit.code, .u8 c.sessions.length]
      ++ c.sessions.flatMap (fFolioSession s), s⟩

/-! ### The gate, pins and RETIRE (R25, R35, R37, R38) -/

/-- R25: GATE_SET. -/
def gateSetAnswer (position : Option Gate) : Handler := fun _ s =>
  match position with
  | none => refuse .badValue s
  | some g =>
    if g = s.subs.gate then ⟨.already, [.u8 g.code], s⟩
    else ⟨.ok, [.u8 g.code], { s with subs := { s.subs with gate := g } }⟩

/-- R37: the most contexts pinned. -/
def pinMax : Nat := 64

/-- Replace the pinned count. -/
def State.setPinned (s : State) (k : Nat) : State := { s with subs := { s.subs with pinned := k } }

/-- R37: PIN. -/
def pinAnswer (h identity : Nat) : Handler := fun _ s =>
  if identityEnd ≤ identity then refuse .badValue s
  else match s.slotOf h identity with
    | none => refuse .unknownHandle s
    | some c =>
      if c.pinned then ⟨.already, [.u8 s.subs.pinned], s⟩
      else if pinMax ≤ s.subs.pinned then refuse .pinLimit s
      else ⟨.ok, [.u8 (s.subs.pinned + 1)], (s.setCtx h { c with pinned := true }).setPinned (s.subs.pinned + 1)⟩

/-- R38: UNPIN. -/
def unpinAnswer (h identity : Nat) : Handler := fun _ s =>
  if identityEnd ≤ identity then refuse .badValue s
  else match s.slotOf h identity with
    | none => refuse .unknownHandle s
    | some c =>
      if !c.pinned then ⟨.already, [.u8 s.subs.pinned], s⟩
      else ⟨.ok, [.u8 (s.subs.pinned - 1)], (s.setCtx h { c with pinned := false }).setPinned (s.subs.pinned - 1)⟩

/-- R35: RETIRE. -/
def retireAnswer (h identity : Nat) : Handler := fun _ s =>
  if identityEnd ≤ identity then refuse .badValue s
  else match s.slotOf h identity with
    | none => refuse .unknownHandle s
    | some c =>
      if c.pinned then refuse .pinned s
      else if !c.sessions.isEmpty then refuse .sessionsOpen s
      else ⟨.ok, [.u64 c.folio, .u64 (((s.par c.partner).map (creditReturned c)).getD 0)], retireContext h s⟩

/-! ### GRANT (R88 to R91) -/

/-- R89, R90: a context with its ask answered, and the denied flag as the grant leaves it. -/
def Context.answerAsk (c : Context) (denied : Bool) : Context := { c with ask := none, denied := denied }

/-- R88: whether a grant of an amount is clamped by R91. -/
def Context.clampsGrant (c : Context) (amount : Nat) : Bool := decide (moneyMax < c.granted + amount)

/-- R89: a matched grant, or a denial when its amount is 0. -/
def matchedGrant (h : Nat) (c : Context) (amount : Nat) (s : State) : State :=
  if amount = 0 then s.setCtx h (c.answerAsk true) else addGrant h amount (s.setCtx h (c.answerAsk false))

/-- R90: an unsolicited grant. -/
def unsolicitedGrant (h : Nat) (c : Context) (amount : Nat) (s : State) : State :=
  let s1 := s.setCtx h { c with denied := false }
  if amount = 0 then s1 else addGrant h amount s1

/-- R88: the fields of a GRANT response. -/
def fGranted (h identity ask : Nat) (c : Context) (s : State) : List Field :=
  match s.ctx h with
  | none => []
  | some a => [.u16 h, .u64 identity, .u8 ask, .u64 (a.granted - c.granted), .u64 a.granted, .u64 a.consumed,
      .u64 a.remaining, .u8 a.credit.code, fFlag a.denied]

/-- R88: the answer of a GRANT that was taken. -/
def grantGive (h identity ask amount : Nat) (c : Context) (s : State) : Answer :=
  ⟨if c.clampsGrant amount then .okClamped else .ok, fGranted h identity ask c s, s⟩

/-- R88 step 6: whether an ask number answers the outstanding ask of a context. -/
def Context.asks (c : Context) (number : Nat) : Bool := c.ask.any fun a => a.number == number

/-- R88: GRANT. -/
def grantAnswer (h identity ask amount : Nat) : Handler := fun sender s =>
  if slotCount ≤ h then refuse .unknownHandle s
  else if identityEnd ≤ identity || moneyMax < amount then refuse .badValue s
  else if sender.role == .purser && ask != 0 then refuse .badValue s
  else match s.slotOf h identity with
    | none => refuse .late s
    | some c =>
      if sender.role == .gateway && (s.par c.partner).any (fun p => p.kind == .shipPlan) then refuse .notPermitted s
      else if ask = 0 then grantGive h identity ask amount c (unsolicitedGrant h c amount s)
      else if !c.asks ask then refuse .late s
      else grantGive h identity ask amount c (matchedGrant h c amount s)

end Sys2Proof.Machine
end

