-- ==== Sys2Proof/Machine/LinkTable.lean ====
section
/-! DEFINITION. Backhaul links (LKT, Chapter 6): a change of link state, and the answers of LINK_SET, LINK_REPORT,
RECONCILE and READ_LINK; and the migration requests of Chapter 7: MOVE_ORDER, BATCH_ANSWER and READ_ORDERS. -/

namespace Sys2Proof.Machine

/-! ### A change of state (R110, R111) -/

/-- R110 step 2: the LINK_STATE notice of a link that left a state. -/
def linkNotice (l : LinkId) (before : LinkState) (cause : LinkCause) (s : State) : Notice :=
  let k := s.link l
  .linkState l k.kind before k.state cause k.quality k.bound k.emergency k.discrepancy

/-- R110 step 3, R135: a link that leaves UP loses the in-flight batch of which it is the destination. -/
def loseDestination (l : LinkId) (before after : LinkState) (s : State) : State :=
  match s.mig.batch with
  | none => s
  | some b =>
    if before = .up ∧ after ≠ .up ∧ b.dest = l then abandonBatch b .destinationLost s else s

/-- R111: the order a change of state raises. -/
def raiseForState (l : LinkId) (before after : LinkState) (s : State) : State :=
  match after, before with
  | .degraded, .up => raiseOrder (.link l) .all .degraded s
  | .degraded, .down => raiseOrder (.link l) .all .degraded s
  | .down, .up => raiseOrder (.link l) .all .failed s
  | .down, .degraded => raiseOrder (.link l) .all .failed s
  | .suspect, .down => raiseOrder (.link l) .all .failed s
  | .suspect, .up => raiseOrder (.link l) .all .failed s
  | .suspect, .degraded => raiseOrder (.link l) .all .failed s
  | .up, .down => if 0 < s.sess.stranded then raiseOrder .rescue .all .rescue s else s
  | .up, .degraded => if 0 < s.sess.stranded then raiseOrder .rescue .all .rescue s else s
  | _, _ => s

/-- R110: a link changes state. -/
def changeState (l : LinkId) (after : LinkState) (cause : LinkCause) (s : State) : State :=
  let before := (s.link l).state
  let s1 := s.modLink l fun k => { k with state := after, streak := 0 }
  let s2 := s1.raise (linkNotice l before cause s1)
  raiseForState l before after (loseDestination l before after s2)

/-! ### LINK_SET (R105 to R107) -/

/-- R106: whether a LINK_SET changes what the profile latch guards. -/
def guardedChange (a : LinkAction) (kind : LinkKind) (p : ProfileDef) (k : Link) : Bool :=
  a == .adminOff || kind != k.kind || p.mask != k.mask || p.capacity != k.capacity || p.surcharge != k.surcharge

/-- R107: the state and streaks after an action; ADMIN_OFF and CLEAR_SUSPECT zero theirs before the notice. -/
def takeAction (l : LinkId) (a : LinkAction) (s : State) : State :=
  match a, (s.link l).state with
  | .adminOn, .offline => changeState l .down .admin s
  | .adminOff, .offline => s
  | .adminOff, _ =>
    changeState l .offline .admin (s.modLink l fun k => { k with quality := 0, discrepancy := 0 })
  | .clearSuspect, .suspect => changeState l .down .admin (s.modLink l fun k => { k with discrepancy := 0 })
  | _, _ => s

/-- R107: a link with the profile written. -/
def Link.setProfile (k : Link) (kind : LinkKind) (p : ProfileDef) : Link :=
  { k with kind := kind, mask := p.mask, priority := p.priority, capacity := p.capacity, surcharge := p.surcharge,
           degrade := p.degrade, recover := p.recover, hold := p.hold, limit := p.limit }

/-- R105: the profile of a link, as the response carries it. -/
def fProfile (k : Link) : List Field :=
  [.u8 k.kind.code, .u32 k.mask.toNat, .u8 k.priority, .u16 k.capacity, .u16 k.surcharge, .u8 k.degrade, .u8 k.recover,
    .u8 k.hold, .u8 k.limit]

/-- R105, R107: a LINK_SET that the latch admits. -/
def writeLink (l : LinkId) (a : LinkAction) (kind : LinkKind) (p : ProfileDef) (s : State) : Answer :=
  let k := s.link l
  let s1 := (takeAction l a s).modLink l fun k => k.setProfile kind p
  ⟨if (s1.link l).state ≠ k.state ∨ k.setProfile kind p ≠ k then .ok else .already,
    [.u8 l.val, .u8 k.state.code, .u8 (s1.link l).state.code] ++ fProfile (s1.link l), s1⟩

/-- R105 to R107: LINK_SET. -/
def linkSetAnswer (link : Nat) (action : Option LinkAction) (p : ProfileDef) : Handler := fun _ s =>
  match linkOf link, action, p.kind with
  | some l, some a, some kind =>
    if !profileOk p then refuse .badValue s
    else if guardedChange a kind p (s.link l) && s.latched l then refuse .linkLatched s
    else writeLink l a kind p s
  | _, _, _ => refuse .badValue s

/-! ### LINK_REPORT (R108, R109) -/

/-- R109: what a report does to a link. -/
inductive Judgement
  | enters (state : LinkState)
  | streak (n : Nat)
  deriving DecidableEq, Repr

/-- R109: a report that adds to the streak: the state changes when the streak reaches the hold count. -/
def Link.hasten (k : Link) (next : LinkState) : Judgement :=
  if k.hold ≤ k.streak + 1 then .enters next else .streak (k.streak + 1)

/-- R108, R109: the judgement of a report on a link, with its stored quality. -/
def Link.judge (k : Link) (i : Indication) : Judgement :=
  match k.state, i with
  | .down, .up => if k.recover ≤ k.quality then .enters .up else .enters .degraded
  | .up, .down => .enters .down
  | .up, .up =>
    if k.quality = 0 then .enters .down
    else if k.quality < k.degrade then k.hasten .degraded
    else .streak 0
  | .degraded, .down => .enters .down
  | .degraded, .up => if k.recover ≤ k.quality then k.hasten .up else .streak 0
  | _, _ => .streak k.streak

/-- R108, R109: take a report on a link. -/
def takeReport (l : LinkId) (i : Indication) (quality : Nat) (s : State) : State :=
  let s1 := s.modLink l fun k => { k with quality := quality }
  match (s1.link l).judge i with
  | .enters st => changeState l st .report s1
  | .streak n => s1.modLink l fun k => { k with streak := n }

/-- R108: the largest quality. -/
def qualityMax : Nat := 100

/-- R108: LINK_REPORT. -/
def linkReportAnswer (link : Nat) (indication : Option Indication) (quality : Nat) : Handler := fun _ s =>
  match linkOf link, indication with
  | some l, some i =>
    let s1 := takeReport l i (min quality qualityMax) s
    ⟨if qualityMax < quality then .okClamped else .ok,
      [.u8 l.val, .u8 (s.link l).state.code, .u8 (s1.link l).state.code, .u8 (s1.link l).quality,
        .u8 (s1.link l).streak], s1⟩
  | _, _ => refuse .badValue s

/-! ### RECONCILE (R117, R118) -/

/-- R118: the difference of the two byte counts. -/
def difference (a b : Nat) : Nat := (a - b) + (b - a)

/-- R118: the tolerance. -/
def State.tolerance (s : State) (a b : Nat) : Nat :=
  max s.settings.reconcileFloor (max a b * s.settings.reconcileTolerance / 1000)

/-- R117: whether a link is the source or the destination of the in-flight batch. -/
def State.inBatch (s : State) (l : LinkId) : Bool :=
  s.mig.batch.any fun b => b.source == .link l || b.dest == l

/-- R118: whether a link's state lets a discrepancy count against it. -/
def LinkState.reconciled : LinkState → Bool
  | .down => true
  | .up => true
  | .degraded => true
  | .offline => false
  | .suspect => false

/-- R118: a judged RECONCILE, whose accumulator becomes 0: WITHIN zeroes the streak, OUTSIDE adds to it and may make
the link SUSPECT, whose streak is then 0. -/
def reconcile (l : LinkId) (outside : Bool) (s : State) : State :=
  let k := s.link l
  let s1 := s.modLink l fun k => { k with accumulator := 0 }
  if !k.state.reconciled then s1
  else if !outside then s1.modLink l fun k => { k with discrepancy := 0 }
  else if k.limit ≤ k.discrepancy + 1 then
    changeState l .suspect .reconcile (s1.modLink l fun k => { k with discrepancy := 0 })
  else s1.modLink l fun k => { k with discrepancy := k.discrepancy + 1 }

/-- R117: the verdicts, WITHIN 0, OUTSIDE 1, DEFERRED 2 (log entry 12). -/
def verdictDeferred : Nat := 2

/-- R117, R118: RECONCILE. -/
def reconcileAnswer (link bytes : Nat) : Handler := fun _ s =>
  match linkOf link with
  | none => refuse .badValue s
  | some l =>
    let a := (s.link l).accumulator
    if s.inBatch l then ⟨.deferred, [.u64 a, .u64 bytes, .u8 verdictDeferred], s⟩
    else
      let t := s.tolerance a bytes
      let d := difference a bytes
      let outside := decide (t < d)
      let s1 := reconcile l outside s
      ⟨.ok, [.u8 l.val, .u64 a, .u64 bytes, .u64 t, .u64 d, fSecond outside, .u8 (s1.link l).discrepancy,
        .u8 (s1.link l).state.code], s1⟩

/-! ### READ_LINK (R120) -/

/-- R120: the fields of one link. Source and destination of the running order, and source and destination of the
in-flight batch, are four flag bytes in that order (log entry 31). -/
def fLinkRecord (s : State) (l : LinkId) : List Field :=
  let k := s.link l
  [.u8 k.kind.code, .u8 k.state.code, .u32 k.mask.toNat, .u8 k.priority, .u16 k.capacity, .u16 k.surcharge,
    .u8 k.quality, .u8 k.degrade, .u8 k.recover, .u8 k.hold, .u8 k.streak, .u16 k.bound, .u16 k.emergency,
    .u8 k.reserved, .u64 k.accumulator, .u8 k.discrepancy, .u8 k.limit, .u16 k.free, fFlag (s.permitted l),
    fFlag (s.latched l), fFlag (decide (0 < k.bound + k.emergency)), fFlag (decide (0 < k.reserved)),
    fFlag (s.heldByMigration l), fFlag (s.running.any fun o => o.source == .link l),
    fFlag (s.running.any fun o => o.dest == .fixed l), fFlag (s.mig.batch.any fun b => b.source == .link l),
    fFlag (s.mig.batch.any fun b => b.dest == l), fFlag (s.mig.queue.any fun o => o.source == .link l)]

/-- R120: READ_LINK. -/
def readLinkAnswer (link : NumberOrAll) : Handler := fun _ s =>
  match link with
  | .all => ⟨.ok, allLinks.flatMap (fLinkRecord s), s⟩
  | .one n => match linkOf n with
    | none => refuse .badValue s
    | some l => ⟨.ok, fLinkRecord s l, s⟩

/-! ### MOVE_ORDER (R124) -/

/-- R124 steps 3 and 4: whether a source, destination and scope go together. -/
def State.orderFits (s : State) (src : Source) (dest : Dest) (scope : Scope) : Bool :=
  match dest with
  | .auto => src != .rescue || scope == .all
  | .fixed d => src != .rescue && src != .link d && (s.link d).state != .offline

/-- R124 step 6: a QUEUED order replaced by a MOVE_ORDER. -/
def Order.replace (o : Order) (dest : Dest) (scope : Scope) : Order :=
  { o with dest := dest, scope := scope, cause := .router, excluded := [] }

/-- R122: the state of the order at a position of the queue, 0 for the head: RUNNING at the head, else QUEUED. -/
def orderState (position : Nat) : Nat := if position = 0 then 1 else 0

/-- R124: the fields of a MOVE_ORDER response: the position of the head is 1. -/
def fOrdered (src : Source) (new : Bool) (position : Nat) : List Field :=
  [.u8 src.code, fSecond new, .u8 (position + 1), .u8 (orderState position)]

/-- R124: the place of a source's order in the queue. -/
def State.orderPlace (s : State) (src : Source) : Option Nat := s.mig.queue.findIdx? fun o => o.source == src

/-- R124: MOVE_ORDER. -/
def moveOrderAnswer (source : Option Source) (dest : Option Dest) (scope : Option Scope) : Handler := fun _ s =>
  if s.silent then refuse .silent s
  else match source, dest, scope with
    | some src, some d, some sc =>
      if !s.orderFits src d sc then refuse .badValue s
      else match s.orderPlace src with
        | some 0 => refuse .busy s
        | some (i + 1) => ⟨.ok, fOrdered src false (i + 1), s.setQueue (s.mig.queue.modify (i + 1) fun o => o.replace d sc)⟩
        | none => ⟨.ok, fOrdered src true s.mig.queue.length, s.setQueue (s.mig.queue ++ [newOrder src d sc .router])⟩
    | _, _, _ => refuse .badValue s

/-! ### BATCH_ANSWER (R131) -/

/-- R131: the byte of the order's state after an answer to a batch: RUNNING while the order stays at the head; the
manual gives no state of an order that the answer ended (log entry 3). -/
def fAnsweredOrder (number : Nat) (refused : Bool) (before : Option Order) : Field :=
  match refused, before.map Order.dest with
  | true, some (.fixed _) => .u8 (Config.endedOrderState number).toNat
  | _, _ => .u8 (orderState 0)

/-- R131 to R133: an answer that matches the in-flight batch. -/
def answerBatch (b : Batch) (v : Verdict) (s : State) : Answer :=
  match v with
  | .accept =>
    ⟨.ok, [.u16 b.number, .u8 v.code, .u8 b.sessions.length, .u8 b.source.code, fAnsweredOrder b.number false s.running],
      acceptBatch b s⟩
  | .refuse =>
    ⟨.ok, [.u16 b.number, .u8 v.code, .u8 0, .u8 b.source.code, fAnsweredOrder b.number true s.running],
      refuseBatch b s⟩

/-- R131: BATCH_ANSWER. -/
def batchAnswerAnswer (number : Nat) (verdict : Option Verdict) : Handler := fun _ s =>
  match verdict with
  | none => refuse .badValue s
  | some v => match s.mig.batch.filter fun b => b.number == number with
    | none => refuse .late s
    | some b => answerBatch b v s

/-! ### READ_ORDERS (R142) -/

/-- R142: the fields of one order, at a position of the queue. -/
def fOrder (o : Order) (position : Nat) : List Field :=
  [.u8 o.source.code, .u8 o.dest.code, .u8 o.scope.code, .u8 o.cause.code, .u8 o.excluded.length]
    ++ o.excluded.map (fun l => .u8 l.val) ++ [.u16 o.batches, .u16 o.moved, .u8 (orderState position)]

/-- R142: the fields of the in-flight batch: whether there is one, and when one is, what it holds; where there is none
the presence byte of 0 stands alone (log entry 34). -/
def fBatch (s : State) : Option Batch → List Field
  | none => [fFlag false]
  | some b => [fFlag true, .u16 b.number, .u8 b.source.code, .u8 b.dest.val, .u64 b.sent, .u64 b.deadline,
      .u8 b.sessions.length] ++ b.sessions.map .u16
      ++ [.u8 (b.sessions.filter fun n => (s.ses n).any Session.nonEmergency).length]

/-- R142: READ_ORDERS. -/
def readOrdersAnswer : Handler := fun _ s =>
  ⟨.ok, [.u8 s.mig.queue.length] ++ (s.mig.queue.zipIdx.flatMap fun p => fOrder p.1 p.2) ++ fBatch s s.mig.batch
    ++ [.u16 s.mig.counter, .u16 s.sess.stranded], s⟩

end Sys2Proof.Machine
end

