-- ==== Sys2Proof/Machine/Zones.lean ====
section
/-! DEFINITION. Zones and coverage (ZNT, Chapter 8): the crossing, fixes, staleness, the release of a deferral, radio
silence, and the answers of ZONE_SET, FIX, SILENCE_SET and READ_ZONE. -/

namespace Sys2Proof.Machine

/-- Replace the zone tracker's record. -/
def State.modZone (s : State) (f : ZoneTracker → ZoneTracker) : State := { s with zone := f s.zone }

/-! ### The crossing (R154) -/

/-- R156: the ZONE_CHANGED notice of a cause. -/
def State.zoneNotice (s : State) (cause : ZoneCause) : Notice :=
  .zoneChanged cause s.zone.effective s.effectiveClass s.effectiveLevel s.effectiveWindow s.zone.since s.windDown
    s.zone.tracking s.tariff.epoch

/-- R156: send the ZONE_CHANGED notice of a cause, and keep what READ_ZONE returns of it. -/
def tellZone (cause : ZoneCause) (s : State) : State :=
  (s.modZone fun z => { z with report := some ⟨cause, s.tariff.epoch⟩ }).raise (s.zoneNotice cause)

/-- R147: clear the candidate, and the confirm-deferred flag with it. -/
def ZoneTracker.clearCandidate (z : ZoneTracker) : ZoneTracker := { z with candidate := none, deferred := false }

/-- R154 step 1: the zone, the effective-since time and the tracking state of a crossing. -/
def crossZone (target : Option ZoneId) (confirmed : Bool) (s : State) : State :=
  s.modZone fun z =>
    let z1 := { z with effective := target, since := s.now }
    if confirmed then { z1.clearCandidate with tracking := .placed } else { z1 with tracking := .stale }

/-- R154 step 3: the ZONE order of one link. -/
def zoneOrder (l : LinkId) (s : State) : State :=
  if !s.permitted l && decide (0 < (s.link l).bound) then raiseOrder (.link l) .nonEmergency .zone s else s

/-- R154 step 3: the ZONE orders, in ascending link number. -/
def zoneOrders (s : State) : State := allLinks.foldl (fun s l => zoneOrder l s) s

/-- R154: a crossing to a zone or to none: zone, epoch, orders, notice. -/
def crossing (target : Option ZoneId) (confirmed : Bool) (s : State) : State :=
  tellZone (if confirmed then .confirmed else .stale)
    (zoneOrders (openEpoch s.effectiveClass (crossZone target confirmed s)))

/-! ### Confirmation (R150, R151) -/

/-- R150: a re-placement. -/
def placeAgain (s : State) : State :=
  tellZone .placedAgain (s.modZone fun z => { z.clearCandidate with tracking := .placed })

/-- Table 8-3: the fix outcomes, numbered in this order (R186). -/
inductive FixOutcome | unknown | current | newCandidate | counted | crossed | placedAgain | deferred
  deriving DecidableEq, Repr

/-- R186: the number of a fix outcome. -/
def FixOutcome.code : FixOutcome → Nat
  | .unknown => 0
  | .current => 1
  | .newCandidate => 2
  | .counted => 3
  | .crossed => 4
  | .placedAgain => 5
  | .deferred => 6

/-- R150: whether a candidate is confirmed. -/
def State.confirms (s : State) (c : Candidate) : Bool :=
  decide (s.settings.confirmCount ≤ c.count) && decide (s.settings.confirmHold * 1000 ≤ s.now - c.since)

/-- R150: take the confirmation of a zone while no cut pass runs: a crossing, or a re-placement when the zone is
already effective. -/
def confirm (z : ZoneId) (s : State) : State :=
  if s.zone.effective = some z then placeAgain s else crossing (some z) true s

/-- R150, R151: judge confirmation of a candidate after the fix that made or counted it. While the confirm-deferred
flag is set each further fix for the candidate is DEFERRED (R151). -/
def judgeCandidate (c : Candidate) (unconfirmed : FixOutcome) (s : State) : FixOutcome × State :=
  if s.zone.deferred then (.deferred, s)
  else if !s.confirms c then (unconfirmed, s)
  else if s.zone.effective = some c.zone then (.placedAgain, placeAgain s)
  else if s.cutRunning then (.deferred, s.modZone fun z => { z with deferred := true })
  else (.crossed, crossing (some c.zone) true s)

/-! ### FIX (R148, R149) -/

/-- R147: the largest candidate count. -/
def candidateMax : Nat := 15

/-- R149 case 2: a candidate counted once more. -/
def Candidate.counted (c : Candidate) : Candidate := { c with count := min (c.count + 1) candidateMax }

/-- R149 cases 2 and 3: the candidate after a valid fix for a zone, and the outcome while it is unconfirmed. -/
def State.nextCandidate (s : State) (z : ZoneId) : Candidate × FixOutcome :=
  match s.zone.candidate with
  | some c => if c.zone = z then (c.counted, .counted) else (⟨z, 1, s.now⟩, .newCandidate)
  | none => (⟨z, 1, s.now⟩, .newCandidate)

/-- R149: the candidate of a valid fix is written; a zone that was not the candidate drops the confirm-deferred
flag. -/
def writeCandidate (c : Candidate) (o : FixOutcome) (s : State) : State :=
  s.modZone fun z => { z with candidate := some c, deferred := z.deferred && o == .counted }

/-- R149: a valid fix. -/
def validFix (z : ZoneId) (s : State) : FixOutcome × State :=
  let s1 := s.modZone fun t => { t with lastFix := some s.now }
  if s.zone.tracking = .placed ∧ s.zone.effective = some z then (.current, s1.modZone ZoneTracker.clearCandidate)
  else
    let (c, o) := s.nextCandidate z
    judgeCandidate c o (writeCandidate c o s1)

/-- R148: a FIX naming a zone number. -/
def takeFix (zone : Nat) (s : State) : FixOutcome × State :=
  match (zoneOf zone).filter fun z => (s.zoneAt z).defined with
  | none => (.unknown, s.modZone ZoneTracker.clearCandidate)
  | some z => validFix z s

/-- R148: a candidate as a FIX response carries it: whether there is one, its zone and its count. -/
def fCandidate (c : Option Candidate) : List Field :=
  [fFlag c.isSome, .u8 ((c.map fun c => c.zone.val).getD 0), .u8 ((c.map Candidate.count).getD 0)]

/-- R148: FIX. -/
def fixAnswer (zone : Nat) : Handler := fun _ s =>
  let (o, s1) := takeFix zone s
  ⟨.ok, [.u8 o.code, .u8 s1.zone.tracking.code, fZone s1.zone.effective] ++ fCandidate s1.zone.candidate
    ++ [fFlag s1.zone.deferred, .u16 s1.tariff.epoch.toNat], s1⟩

/-! ### Staleness and the release of a deferral (R151 to R153) -/

/-- R153: the zone a stale crossing makes effective. -/
def State.fallbackZone (s : State) : Option ZoneId :=
  s.settings.fallback.filter fun z => (s.zoneAt z).defined

/-- R151: whether a deferred confirmation is pending after a cut pass: its release is due and the flag is still
set. -/
def ZoneTracker.deferralPending (z : ZoneTracker) : Bool := z.releaseDue && z.deferred

/-- R152, R153: the staleness expiry, taken on its own or as one that a cut pass held. While a cut pass runs it is
held; a held expiry waits for the release of a deferred confirmation that is pending with it, and for no other. -/
def staleExpiryEffect (s : State) : State :=
  if s.cutRunning || (s.zone.expiryHeld && s.zone.deferralPending) then s
  else
    let s1 := s.modZone fun z => { z with expiryHeld := false }
    if s.staleDue then crossing s.fallbackZone false s1 else s1

/-- R151: the release of a deferral, due since a cut pass ended. -/
def releaseEffect (s : State) : State :=
  if !s.zone.releaseDue then s
  else
    let s1 := s.modZone fun z => { z with releaseDue := false }
    if !s.zone.deferred || s.cutRunning then s1
    else
      let s2 := s1.modZone fun z => { z with deferred := false }
      match s.zone.candidate with
      | none => s2
      | some c => confirm c.zone s2

/-- R151, R152: what the end of a cut pass leaves the Zone Tracker to do. -/
def ZoneTracker.passEnded (z : ZoneTracker) (due : Bool) : ZoneTracker :=
  { z with releaseDue := true, expiryHeld := due }

/-! ### ZONE_SET (R145) -/

/-- Table 8-1: the fields of a zone record. -/
def fZoneRecord (r : Zone) : List Field := [fFlag r.defined, .u8 r.cls.code, .u8 r.level.code, .u16 r.window]

/-- R145: the answer of a ZONE_SET that writes a record, or finds it as carried. -/
def zoneGive (z : ZoneId) (r : Result) (s : State) : Answer := ⟨r, [.u8 z.val] ++ fZoneRecord (s.zoneAt z), s⟩

/-- R145: the largest wind-down window. -/
def windowMax : Nat := 600

/-- R145: a ZONE_SET of the effective zone. -/
def setEffectiveZone (z : ZoneId) (r : Zone) (s : State) : Answer :=
  let old := s.zoneAt z
  if r.cls ≠ old.cls ∨ r.level ≠ old.level then refuse .inUse s
  else if r.window = old.window then zoneGive z .already s
  else zoneGive z .ok (tellZone .window (s.setZone z r))

/-- R145: ZONE_SET. -/
def zoneSetAnswer (zone : Nat) (cls : Option ZoneClass) (level : Option ServiceLevel) (window : Nat) : Handler :=
  fun _ s =>
  match zoneOf zone, cls, level with
  | some z, some c, some l =>
    if windowMax < window then refuse .badValue s
    else
      let r : Zone := { defined := true, cls := c, level := l, window := window }
      if !(s.zoneAt z).defined then zoneGive z .ok (s.setZone z r)
      else if s.zone.effective = some z then setEffectiveZone z r s
      else if r = s.zoneAt z then zoneGive z .already s
      else zoneGive z .ok (s.setZone z r)
  | _, _, _ => refuse .badValue s

/-! ### Silence (R157 to R161) -/

/-- R160: the SILENCE notice. -/
def State.silenceNotice (s : State) (entry : Option (Nat × Nat)) : Notice :=
  .silence s.silent s.zone.line s.zone.flag s.now entry

/-- R159 step 3: the handles of the ATTACHED contexts, ascending. -/
def State.attachedHandles (s : State) : List Nat :=
  (s.subs.contexts.filter fun p => p.2.presence == .attached).map Prod.fst

/-- R159 step 3: the number of sessions listed by the contexts at some handles. -/
def State.listedSessions (s : State) (hs : List Nat) : Nat :=
  (hs.map fun h => ((s.ctx h).map fun c => c.sessions.length).getD 0).sum

/-- R159 step 3: one context made DORMANT and its sessions closed with reason SILENCE. -/
def silenceContext (h : Nat) (s : State) : State :=
  match s.ctx h with
  | none => s
  | some c => dropContext h c .silence s

/-- R159: an entry into silence, after the silent state has become silent. -/
def enterSilence (s : State) : State :=
  let hs := s.attachedHandles
  let n := s.listedSessions hs
  let s1 := hs.foldl (fun s h => silenceContext h s) (silenceMigration s)
  s1.raise (s1.silenceNotice (some (hs.length, n)))

/-- R157: a change of the line or of the flag, with the entry into silence or the leaving of silence it makes. -/
def setSilence (line flag : Bool) (s : State) : State :=
  let s1 := s.modZone fun z => { z with line := line, flag := flag }
  if !s.silent && s1.silent then enterSilence s1
  else if s.silent && !s1.silent then s1.raise (s1.silenceNotice none)
  else s1

/-- R158: the fields of a SILENCE_SET response. -/
def fSilence (s : State) : List Field := [fFlag s.zone.flag, fFlag s.zone.line, fFlag s.silent]

/-- R158: SILENCE_SET. -/
def silenceSetAnswer (value : Option Bool) : Handler := fun _ s =>
  match value with
  | none => refuse .badValue s
  | some v =>
    if v = s.zone.flag then ⟨.already, fSilence s, s⟩
    else
      let s1 := setSilence s.zone.line v s
      ⟨.ok, fSilence s1, s1⟩

/-- R157, R184: the taken level of the SILENCE line changes. -/
def lineEffect (level : Bool) (s : State) : State :=
  if level = s.zone.line then s else setSilence level s.zone.flag s

/-! ### READ_ZONE (R162) -/

/-- Table 8-2: the fields of the tracking record. -/
def fTracking (z : ZoneTracker) : List Field :=
  [.u8 z.tracking.code, fZone z.effective, .u64 z.since] ++ fCandidate z.candidate
    ++ [.u64 ((z.candidate.map Candidate.since).getD 0)] ++ fOpt64 z.lastFix ++ [fFlag z.deferred]

/-- R156: the fields of the last ZONE_CHANGED notice that R162's list does not hold: its cause, the wind-down window of the
effective zone, and the epoch after its event. Cause and epoch are absent before the first notice (log entry 32). -/
def fReport (s : State) : List Field :=
  [fFlag s.zone.report.isSome, .u8 ((s.zone.report.map fun p => p.cause.code).getD 0), .u16 s.effectiveWindow,
    fFlag s.zone.report.isSome, .u16 ((s.zone.report.map fun p => p.epoch.toNat).getD 0)]

/-- R162: the fields that follow the zone records: those of R162's list, and behind them the fields that R156 has
READ_ZONE return besides (log entry 32). -/
def fZoneState (s : State) : List Field :=
  fTracking s.zone ++ [.u8 s.effectiveClass.code, .u8 s.effectiveLevel.code]
    ++ allLinks.map (fun l => fFlag (s.permitted l)) ++ [.u64 s.windDown, fZone s.settings.fallback,
      fFlag s.fallbackZone.isSome] ++ fOpt64 s.staleInstant ++ [fFlag s.silent, fFlag s.zone.line, fFlag s.zone.flag]
    ++ fReport s

/-- R162: READ_ZONE. -/
def readZoneAnswer (zone : NumberOrAll) : Handler := fun _ s =>
  match zone with
  | .all => ⟨.ok, s.zone.zones.toList.flatMap fZoneRecord ++ fZoneState s, s⟩
  | .one n => match zoneOf n with
    | none => refuse .badValue s
    | some z => ⟨.ok, fZoneRecord (s.zoneAt z) ++ fZoneState s, s⟩

end Sys2Proof.Machine
end

