-- ==== Sys2Proof/Machine/Port.lean ====
section
/-! DEFINITION. The request port (RQP, Chapter 10): admission of a frame, the checks of R174 and R175, the response,
and the answers of CLIENT_SET and STATUS; and the USAGE request (R60). -/

namespace Sys2Proof.Machine

/-! ### Checks of R174 and R175 -/

/-- R174: what the check of a taken frame decides: it is ignored, answered NOT_CLIENT, or the request of a client,
in the state after the binding of step 4. -/
inductive Admission
  | ignored
  | notClient
  | from_ (sender : Sender) (s : State)
  deriving DecidableEq, Repr

/-- Write the record of a client in use. -/
def State.setClient (s : State) (k : Nat) (c : Client) : State :=
  { s with port := { s.port with clients := Table.set s.port.clients k c } }

/-- R179: the largest client number. -/
def clientMax : Nat := 7

/-- R174: the check of a taken frame. -/
def State.admission (s : State) (h : Header) : Admission :=
  if h.etherType ≠ s.settings.etherType ∨ h.version ≠ 1 then .ignored
  else if clientMax < h.client then .notClient
  else match Table.get s.port.clients h.client with
    | none => .notClient
    | some c => match c.address with
      | none => .from_ ⟨h.client, c.role⟩ (s.setClient h.client { c with address := some h.src })
      | some a => if a = h.src then .from_ ⟨h.client, c.role⟩ s else .notClient

/-- Table 10-1: the one role that may send a kind; `none` for a kind that any role may send. GRANT is judged by
`permits`. -/
def onlyRole : Kind → Option Role
  | .clientSet | .generalSet | .partnerSet | .partnerStatus | .partnerRemove | .rateSet | .zoneSet | .linkSet
  | .gateSet | .pin | .unpin | .retire | .grant | .epochCut | .serviceReset => some .purser
  | .attach | .detach | .lookup | .sessionOpen | .sessionClose | .silenceSet => some .radio
  | .usage => some .meter
  | .linkReport | .moveOrder | .batchAnswer | .reconcile => some .router
  | .fix => some .nav
  | .status | .readContext | .readSession | .readFolio | .readPartner | .readLink | .readZone | .readOrders => none

/-- R175 step 2, Table 10-1: whether a role may send a kind. -/
def permits (k : Kind) (r : Role) : Bool := (onlyRole k).all (· == r) || (k == .grant && r == .gateway)

/-- R175 step 3: the largest body length. -/
def bodyMax : Nat := 1440

/-- R175 step 3: whether the body length field of a kind is refused. -/
def badLength (k : Kind) (h : Header) : Bool :=
  decide (bodyMax < h.length) || decide (h.carried < h.length) || k.bodyLength.any (· != h.length)

/-! ### Responses (R176) -/

/-- R176: the kind of the response to a kind number: plus 0x8000, where the sum fits (log entry 1). -/
def responseKind (code : Nat) : BitVec 16 :=
  if code < 0x8000 then BitVec.ofNat 16 (code + 0x8000) else Config.wrappedResponseKind code

/-- R176, R174: the response to a frame. It goes to the frame's source address, which is the client's bound address
wherever R174 found one, and carries the EtherType in force when the frame was taken (R171). -/
def responseTo (h : Header) (code : Nat) (r : Result) (body : List Field) (etherType : BitVec 16) (seconds : Nat) :
    OutFrame :=
  { dst := h.src, etherType := etherType, client := h.client, kind := responseKind code, tag := h.tag, result := r,
    seconds := seconds, body := body }

/-- R176, R178: a frame taken in state `taken` is answered: the notices of its handling and its response join the
transmit order. -/
def respond (h : Header) (code : Nat) (taken : State) (a : Answer) : State :=
  a.state.flushWith (responseTo h code a.result a.body taken.settings.etherType a.state.seconds)

/-- R174, R175, R176: a frame of a kind is taken for checking, and a request that passes is handed to its owner.
While nRESET is asserted the input queue is empty, so that no request is taken (R183, log entry 13). -/
def request (h : Header) (k : Kind) (handle : Handler) (s : State) : State :=
  if s.port.inReset then s
  else match s.admission h with
    | .ignored => s
    | .notClient => respond h k.code s (refuse .notClient s)
    | .from_ sender s1 =>
      if !permits k sender.role then respond h k.code s (refuse .notPermitted s1)
      else if badLength k h then respond h k.code s (refuse .badLength s1)
      else respond h k.code s (handle sender s1)

/-- R174, R175 step 1: a taken frame whose kind number is no request kind. -/
def unlisted (h : Header) (code : Nat) (s : State) : State :=
  if s.port.inReset then s
  else match s.admission h with
    | .ignored => s
    | .notClient => respond h code s (refuse .notClient s)
    | .from_ _ s1 => respond h code s (refuse .unknownKind s1)

/-! ### Frames in and out (R173, R178, R183) -/

/-- R173: the most frames the input queue holds. -/
def inputMax : Nat := 64

/-- R173: whether a frame with a good check sequence is admitted. -/
def State.admits (s : State) (f : Frame) : Bool :=
  (f.dst == s.port.station || f.dst == broadcast) && f.etherType == s.settings.etherType
    && decide (headerLength ≤ f.payload.length)

/-- R173: a frame reaches the MAC; while nRESET is asserted it is lost (R183). -/
def arrive (f : Frame) (s : State) : State :=
  if s.port.inReset || !frameGood f || !s.admits f || inputMax ≤ s.port.inputQueue.length then s
  else { s with port := { s.port with inputQueue := s.port.inputQueue ++ [f] } }

/-- R178: the next frame of the transmit order leaves the port. -/
def transmitNext (s : State) : State :=
  match s.port.transmit with
  | [] => s
  | f :: rest => { s with port := { s.port with transmit := rest, wire := some (f.lineBytes s.port.station) } }

/-! ### CLIENT_SET (R180) -/

/-- Take the record of a client out of use. -/
def State.freeClient (s : State) (k : Nat) : State :=
  { s with port := { s.port with clients := Table.erase s.port.clients k } }

/-- R179, R180: a client number and its record; a client not in use has no role (log entry 4). -/
def fClient (k : Nat) (s : State) : List Field :=
  match Table.get s.port.clients k with
  | none => [.u8 k, fFlag false, .u8 (Config.missingRole k).toNat, fFlag false, .mac 0]
  | some c => [.u8 k, fFlag true, .u8 c.role.code, fFlag c.address.isSome, .mac (c.address.getD 0)]

/-- R180: the answer of a CLIENT_SET that was taken. -/
def clientGive (k : Nat) (r : Result) (s : State) : Answer := ⟨r, fClient k s, s⟩

/-- R180: CLIENT_SET. A role outside the six answers BAD_VALUE to every action, also to REBIND and FREE, which read no
role (log entry 33). -/
def clientSetAnswer (k : Nat) (action : Option ClientAction) (role : Option Role) (address : Option Mac) : Handler :=
  fun _ s =>
  match action, role with
  | some a, some r =>
    if clientMax < k || (k == 0 && a != .rebind) then refuse .badValue s
    else match a, Table.get s.port.clients k with
      | .define, none => clientGive k .ok (s.setClient k ⟨r, address⟩)
      | .define, some _ => refuse .inUse s
      | .rebind, none => refuse .unknownHandle s
      | .rebind, some c => clientGive k .ok (s.setClient k { c with address := address })
      | .free, none => clientGive k .already s
      | .free, some _ => clientGive k .ok (s.freeClient k)
  | _, _ => refuse .badValue s

/-! ### STATUS (R181) -/

/-- R181: STATUS. -/
def statusAnswer : Handler := fun sender s =>
  ⟨.ok, [.u8 s.port.lastReset.code, .u32 s.seconds, .u8 sender.num, .u8 sender.role.code, fFlag s.silent,
    .u8 s.subs.gate.code, .u8 s.zone.tracking.code, fZone s.zone.effective, .u16 s.tariff.epoch.toNat,
    .u16 s.subs.contexts.length, .u8 s.subs.pinned, .u16 s.sess.records.length, .u16 s.sess.stranded,
    fFlag s.cutRunning, .u8 s.mig.queue.length, fFlag s.mig.batch.isSome, .u8 s.port.inputQueue.length], s⟩

/-! ### USAGE (R60) -/

/-- R60: the most entries of a USAGE request. -/
def usageMax : Nat := 32

/-- Section 11.3: the response fields of one entry: outcome, three pad bytes, amount charged. -/
def fOutcome (p : UsageOutcome × Nat) : List Field := [.u8 p.1.code, .u8 0, .u16 0, .u64 p.2]

/-- R60: USAGE. -/
def usageAnswer (h : Header) (count : Nat) (entries : List UsageEntry) : Handler := fun _ s =>
  if h.length < 2 then refuse .badLength s
  else if count = 0 ∨ usageMax < count then refuse .badValue s
  else if h.length ≠ 2 + 12 * count then refuse .badLength s
  else
    let (s1, outcomes) := resolveEntries entries s
    ⟨.ok, [.u16 count] ++ outcomes.flatMap fOutcome, s1⟩

end Sys2Proof.Machine
end

