-- ==== Sys2Proof/Machine/TimePass.lean ====
section
/-! DEFINITION. The time base and the passes (TBP, Chapter 9; the cut pass of Chapter 4): the tick of the clock, the
subscriber pass and its visits, the cut pass and its end, and GENERAL_SET. -/

namespace Sys2Proof.Machine

/-- Replace the time base's record. -/
def State.modTime (s : State) (f : TimeBase → TimeBase) : State := { s with time := f s.time }

/-! ### The clock (R164) -/

/-- R164, R166: one millisecond: the clock advances and holds at its largest count; the time the pass has run goes
on. -/
def TimeBase.tick (t : TimeBase) : TimeBase :=
  { t with clock := min (t.clock + 1) clockMax, passElapsed := t.passElapsed + 1 }

/-! ### The subscriber pass (R166, R167) -/

/-- R166: the length of the current pass in ms. -/
def TimeBase.passLength (t : TimeBase) : Nat := t.passPeriod * 1000

/-- R166: whether the next pass starts: the current one has visited its last handle and its length has run. -/
def TimeBase.startDue (t : TimeBase) : Bool := t.passPos == slotCount && decide (t.passLength ≤ t.passElapsed)

/-- R166: whether the instant of the next handle's visit has come. -/
def TimeBase.visitDue (t : TimeBase) : Bool :=
  decide (t.passPos < slotCount) && decide (t.passPos * t.passLength / slotCount ≤ t.passElapsed)

/-- R166: the next pass starts, at the instant the length of the last one gives, with the pending period. -/
def TimeBase.start (t : TimeBase) : TimeBase :=
  { t with passPos := 0, passStart := deadlineAfter t.passStart t.passLength, passElapsed := t.passElapsed - t.passLength,
           passPeriod := t.settings.passPeriod }

/-- R166: PASS_START at its instant. -/
def passStartEffect (s : State) : State := if s.time.startDue then s.modTime TimeBase.start else s

/-- R87 step 1: an outstanding ask whose deadline has passed lapses. -/
def lapseAsk (h : Nat) (s : State) : State :=
  match s.ctx h with
  | none => s
  | some c => match c.ask with
    | none => s
    | some a =>
      if s.passed a.deadline then s.setCtx h { c with ask := none, lapsed := saturate entriesMax (c.lapsed + 1) } else s

/-- R167 step 3: the idle and release checks of the listed sessions of an ATTACHED context. -/
def visitSessions (h : Nat) (s : State) : State :=
  match s.ctx h with
  | none => s
  | some c => match c.presence with
    | .dormant => s
    | .attached => c.sessions.foldl (fun s n => visitSession n s) s

/-- R34: whether a context is retired at its visit. -/
def State.retireDue (s : State) (c : Context) : Bool :=
  c.presence == .dormant && !c.pinned && c.dormancy.any s.passed

/-- R34, R167 step 4: the retirement of a DORMANT context whose deadline has passed. -/
def visitRetire (h : Nat) (s : State) : State :=
  match s.ctx h with
  | none => s
  | some c => if s.retireDue c then retireContext h s else s

/-- R167: a visit to one handle. -/
def visit (h : Nat) (s : State) : State := visitRetire h (visitSessions h (judgeAsk h (lapseAsk h s)))

/-- R166, R167: PASS_VISIT at its instant: the handle is visited and the position advances. -/
def passVisitEffect (s : State) : State :=
  if s.time.visitDue then (visit s.time.passPos s).modTime fun t => { t with passPos := t.passPos + 1 } else s

/-! ### The cut pass (R79, R81) -/

/-- R16, R81: the end of the cut pass: the revision list is emptied, the previous values are discarded and the Zone
Tracker is informed. -/
def endCutPass (s : State) : State :=
  { s with
    cutPos := none
    tariff := { s.tariff with revisions := [], previous := none }
    zone := s.zone.passEnded s.staleDue }

/-- R79, R81: the visit of the cut pass to its next handle; after handle 8,191 the pass ends. -/
def cutVisitEffect (s : State) : State :=
  match s.cutPos with
  | none => s
  | some n =>
    let s1 := epochCutOf n s
    if n + 1 < sessionCount then { s1 with cutPos := some (n + 1) } else endCutPass s1

/-! ### GENERAL_SET (R170) -/

/-- R170: a value brought into a range. -/
def clampTo (low high v : Nat) : Nat := max low (min v high)

/-- R170: a batch timeout brought into range and to a multiple of 100 ms. -/
def batchTimeoutOf (v : Nat) : Nat := clampTo 100 25500 v / 100 * 100

/-- R170: a setting after a GENERAL_SET: the value brought into range when its flag is set. -/
def choose {α : Type} (flags : BitVec 16) (i : Nat) (new old : α) : α := if flags.getLsbD i then new else old

/-- R170: the settings after a GENERAL_SET. The flag of the i-th setting of Table 9-2 is bit i (R186). -/
def Settings.update (g : Settings) (flags : BitVec 16) (v : GeneralValues) : Settings :=
  { passPeriod := choose flags 0 (clampTo 1 8 v.passPeriod) g.passPeriod
    askTimeout := choose flags 1 (clampTo 1 255 v.askTimeout) g.askTimeout
    dormancy := choose flags 2 (clampTo 60 86400 v.dormancy) g.dormancy
    idle := choose flags 3 (clampTo 0 86400 v.idle) g.idle
    staleExponent := choose flags 4 (clampTo 2 9 v.staleExponent) g.staleExponent
    confirmCount := choose flags 5 (clampTo 1 15 v.confirmCount) g.confirmCount
    confirmHold := choose flags 6 (clampTo 0 600 v.confirmHold) g.confirmHold
    fallback := choose flags 7 (zoneOf v.fallback) g.fallback
    batchTimeout := choose flags 8 (batchTimeoutOf v.batchTimeout) g.batchTimeout
    reconcileFloor := choose flags 9 (clampTo 0 1048576 v.reconcileFloor) g.reconcileFloor
    reconcileTolerance := choose flags 10 (clampTo 0 100 v.reconcileTolerance) g.reconcileTolerance
    etherType := choose flags 11 v.etherType g.etherType }

/-- R170: a selected value that its range alters. -/
def altered (flags : BitVec 16) (i brought carried : Nat) : Bool := flags.getLsbD i && brought != carried

/-- R170: whether some selected value was clamped. A fallback of 32 to 254 is altered to none. -/
def anyClamped (flags : BitVec 16) (v : GeneralValues) : Bool :=
  altered flags 0 (clampTo 1 8 v.passPeriod) v.passPeriod || altered flags 1 (clampTo 1 255 v.askTimeout) v.askTimeout
    || altered flags 2 (clampTo 60 86400 v.dormancy) v.dormancy || altered flags 3 (clampTo 0 86400 v.idle) v.idle
    || altered flags 4 (clampTo 2 9 v.staleExponent) v.staleExponent
    || altered flags 5 (clampTo 1 15 v.confirmCount) v.confirmCount
    || altered flags 6 (clampTo 0 600 v.confirmHold) v.confirmHold
    || (flags.getLsbD 7 && (zoneOf v.fallback).isNone && v.fallback != 255)
    || altered flags 8 (batchTimeoutOf v.batchTimeout) v.batchTimeout
    || altered flags 9 (clampTo 0 1048576 v.reconcileFloor) v.reconcileFloor
    || altered flags 10 (clampTo 0 100 v.reconcileTolerance) v.reconcileTolerance

/-- R170: whether some selection flag of Table 9-2 is set. -/
def anySelected (flags : BitVec 16) : Bool := (flags &&& 0x0FFF) != 0

/-- R170: the result of a GENERAL_SET. -/
def generalResult (flags : BitVec 16) (v : GeneralValues) (before after : Settings) : Result :=
  if anyClamped flags v then .okClamped
  else if before ≠ after then .ok
  else if anySelected flags then .already
  else .ok

/-- Table 9-2: the twelve settings, as the response carries them. -/
def fSettings (g : Settings) : List Field :=
  [.u8 g.passPeriod, .u8 g.askTimeout, .u32 g.dormancy, .u32 g.idle, .u8 g.staleExponent, .u8 g.confirmCount,
    .u16 g.confirmHold, fZone g.fallback, .u16 g.batchTimeout, .u32 g.reconcileFloor, .u8 g.reconcileTolerance,
    .u16 g.etherType.toNat]

/-- R170: GENERAL_SET. The response ends with the pending pass period and the period in force. -/
def generalSetAnswer (flags : BitVec 16) (v : GeneralValues) : Handler := fun _ s =>
  let g := s.settings.update flags v
  let s1 := s.modTime fun t => { t with settings := g }
  ⟨generalResult flags v s.settings g, fSettings g ++ [.u8 g.passPeriod, .u8 s1.time.passPeriod], s1⟩

end Sys2Proof.Machine
end

