-- ==== Sys2Proof/Machine/Reset.lean ====
section
/-! DEFINITION. Reset (RQP, R182, R183): the steps of SERVICE_RESET, power-on and nRESET. -/

namespace Sys2Proof.Machine

/-- R121, R182 step 3: a link after a service reset. -/
def Link.serviceReset (k : Link) : Link :=
  { k with bound := 0, emergency := 0, reserved := 0, accumulator := 0, discrepancy := 0 }

/-- R182 steps 1 to 3: migration dropped, the cut pass ended, every session freed, and the counts of links, partners
and plans zeroed. -/
def dropSessions (s : State) : State :=
  { s with
    mig := { s.mig with queue := [], batch := none }
    cutPos := none
    sess := ⟨[], 0⟩
    links := s.links.map Link.serviceReset
    tariff := { s.tariff with
      partners := s.tariff.partners.map fun p => (p.1, { p.2 with sessions := 0 })
      planUse := Vector.replicate 32 0 } }

/-- R182 step 4: the revision list is emptied and the previous values are discarded. -/
def dropRevisions (s : State) : State := { s with tariff := { s.tariff with revisions := [], previous := none } }

/-- R39: a pinned context after a service reset. -/
def Context.serviceReset (c : Context) (deadline : Nat) : Context := { c.goDormant deadline with sessions := [] }

/-- R39: an unpinned context is retired without notices; a pinned one is kept, DORMANT with a new deadline. -/
def resetContext (h : Nat) (s : State) : State :=
  match s.ctx h with
  | none => s
  | some c => if c.pinned then s.setCtx h (c.serviceReset s.dormancyDeadline) else foldAndFree h s

/-- R182 step 5: every context, in ascending handle order. -/
def resetContexts (s : State) : State := (Table.keys s.subs.contexts).foldl (fun s h => resetContext h s) s

/-- R182 step 6, R151, R152: the confirm-deferred flag is cleared, and an expiry held by the ended pass is left to be
taken afterwards; no release is due. -/
def resetZone (wasRunning : Bool) (s : State) : State :=
  s.modZone fun z =>
    { z with deferred := false, releaseDue := false, expiryHeld := if wasRunning then s.staleDue else z.expiryHeld }

/-- R182: the steps of a service reset. -/
def serviceReset (s : State) : State :=
  let s1 := resetZone s.cutRunning (resetContexts (dropRevisions (dropSessions s)))
  { s1 with port := { s1.port with lastReset := .service } }

/-- R182: SERVICE_RESET: sessions freed, contexts retired, pinned contexts kept, current epoch. -/
def serviceResetAnswer : Handler := fun _ s =>
  let s1 := serviceReset s
  ⟨.ok, [.u16 s.sess.records.length, .u16 (s.subs.contexts.filter fun p => !p.2.pinned).length,
    .u8 (s.subs.contexts.filter fun p => p.2.pinned).length, .u16 s1.tariff.epoch.toNat], s1⟩

/-- R183: nRESET is asserted: the input queue and the transmit order are emptied and a frame being sent is cut
short. -/
def assertReset (s : State) : State :=
  { s with port := { s.port with inReset := true, inputQueue := [], transmit := [], wire := none } }

/-- R183: power-on, with the SILENCE line sampled at a level; the commands that wait are the model's own. -/
def powerOnEffect (line : Bool) (s : State) : State := State.powerOn s.port.station line s.pending

end Sys2Proof.Machine
end

