-- ==== Sys2Proof/Machine/Requests.lean ====
section
/-! DEFINITION. The meaning of each request command: its frame, at the moment the Request Port takes it, goes
through the checks of R174 and R175 and is handed to the block that owns its kind. -/

namespace Sys2Proof.Machine

/-- CLIENT_SET (R180). -/
def execClientSet (h : Header) (client : Nat) (action : Option ClientAction) (role : Option Role) (address : Option Mac)
    (s : State) : Outcome :=
  .next (request h .clientSet (clientSetAnswer client action role address) s)

/-- GENERAL_SET (R170). -/
def execGeneralSet (h : Header) (flags : BitVec 16) (v : GeneralValues) (s : State) : Outcome :=
  .next (request h .generalSet (generalSetAnswer flags v) s)

/-- PARTNER_SET (R4). -/
def execPartnerSet (h : Header) (d : PartnerDef) (s : State) : Outcome :=
  .next (request h .partnerSet (partnerSetAnswer d) s)

/-- PARTNER_STATUS (R7). -/
def execPartnerStatus (h : Header) (code : Nat) (status : Option PartnerStatus) (s : State) : Outcome :=
  .next (request h .partnerStatus (partnerStatusAnswer code status) s)

/-- PARTNER_REMOVE (R9). -/
def execPartnerRemove (h : Header) (code : Nat) (s : State) : Outcome :=
  .next (request h .partnerRemove (partnerRemoveAnswer code) s)

/-- RATE_SET (R11). -/
def execRateSet (h : Header) (r : RateDef) (s : State) : Outcome :=
  .next (request h .rateSet (rateSetAnswer r) s)

/-- EPOCH_CUT (R15). -/
def execEpochCut (h : Header) (s : State) : Outcome :=
  .next (request h .epochCut epochCutAnswer s)

/-- ZONE_SET (R145). -/
def execZoneSet (h : Header) (zone : Nat) (cls : Option ZoneClass) (level : Option ServiceLevel) (window : Nat)
    (s : State) : Outcome :=
  .next (request h .zoneSet (zoneSetAnswer zone cls level window) s)

/-- LINK_SET (R105). -/
def execLinkSet (h : Header) (link : Nat) (action : Option LinkAction) (p : ProfileDef) (s : State) : Outcome :=
  .next (request h .linkSet (linkSetAnswer link action p) s)

/-- GATE_SET (R25). -/
def execGateSet (h : Header) (position : Option Gate) (s : State) : Outcome :=
  .next (request h .gateSet (gateSetAnswer position) s)

/-- PIN (R37). -/
def execPin (h : Header) (handle identity : Nat) (s : State) : Outcome :=
  .next (request h .pin (pinAnswer handle identity) s)

/-- UNPIN (R38). -/
def execUnpin (h : Header) (handle identity : Nat) (s : State) : Outcome :=
  .next (request h .unpin (unpinAnswer handle identity) s)

/-- RETIRE (R35). -/
def execRetire (h : Header) (handle identity : Nat) (s : State) : Outcome :=
  .next (request h .retire (retireAnswer handle identity) s)

/-- GRANT (R88). -/
def execGrant (h : Header) (handle identity ask amount : Nat) (s : State) : Outcome :=
  .next (request h .grant (grantAnswer handle identity ask amount) s)

/-- SERVICE_RESET (R182). -/
def execServiceReset (h : Header) (s : State) : Outcome :=
  .next (request h .serviceReset serviceResetAnswer s)

/-- ATTACH (R26). -/
def execAttach (h : Header) (identity : Nat) (ref : BitVec 32) (s : State) : Outcome :=
  .next (request h .attach (attachAnswer identity ref) s)

/-- DETACH (R33). -/
def execDetach (h : Header) (handle : Nat) (s : State) : Outcome :=
  .next (request h .detach (detachAnswer handle) s)

/-- LOOKUP (R30). -/
def execLookup (h : Header) (identity : Nat) (s : State) : Outcome :=
  .next (request h .lookup (lookupAnswer identity) s)

/-- SESSION_OPEN (R45). -/
def execSessionOpen (h : Header) (handle : Nat) (cls : Option TrafficClass) (ref : BitVec 32) (s : State) : Outcome :=
  .next (request h .sessionOpen (sessionOpenAnswer handle cls ref) s)

/-- SESSION_CLOSE (R51). -/
def execSessionClose (h : Header) (session subscriber : Nat) (s : State) : Outcome :=
  .next (request h .sessionClose (sessionCloseAnswer session subscriber) s)

/-- SILENCE_SET (R158). -/
def execSilenceSet (h : Header) (value : Option Bool) (s : State) : Outcome :=
  .next (request h .silenceSet (silenceSetAnswer value) s)

/-- USAGE (R60). -/
def execUsage (h : Header) (count : Nat) (entries : List UsageEntry) (s : State) : Outcome :=
  .next (request h .usage (usageAnswer h count entries) s)

/-- LINK_REPORT (R108). -/
def execLinkReport (h : Header) (link : Nat) (indication : Option Indication) (quality : Nat) (s : State) : Outcome :=
  .next (request h .linkReport (linkReportAnswer link indication quality) s)

/-- RECONCILE (R117). -/
def execReconcile (h : Header) (link bytes : Nat) (s : State) : Outcome :=
  .next (request h .reconcile (reconcileAnswer link bytes) s)

/-- MOVE_ORDER (R124). -/
def execMoveOrder (h : Header) (source : Option Source) (dest : Option Dest) (scope : Option Scope)
    (s : State) : Outcome :=
  .next (request h .moveOrder (moveOrderAnswer source dest scope) s)

/-- BATCH_ANSWER (R131). -/
def execBatchAnswer (h : Header) (number : Nat) (verdict : Option Verdict) (s : State) : Outcome :=
  .next (request h .batchAnswer (batchAnswerAnswer number verdict) s)

/-- FIX (R148). -/
def execFix (h : Header) (zone : Nat) (s : State) : Outcome :=
  .next (request h .fix (fixAnswer zone) s)

/-- STATUS (R181). -/
def execStatus (h : Header) (s : State) : Outcome :=
  .next (request h .status statusAnswer s)

/-- READ_CONTEXT (R31). -/
def execReadContext (h : Header) (ref : Option ContextRef) (s : State) : Outcome :=
  .next (request h .readContext (readContextAnswer ref) s)

/-- READ_SESSION (R58). -/
def execReadSession (h : Header) (session : Nat) (s : State) : Outcome :=
  .next (request h .readSession (readSessionAnswer session) s)

/-- READ_FOLIO (R97). -/
def execReadFolio (h : Header) (ref : Option ContextRef) (s : State) : Outcome :=
  .next (request h .readFolio (readFolioAnswer ref) s)

/-- READ_PARTNER, the SINGLE form without settling (R98). -/
def execReadPartner (h : Header) (code : Option Nat) (s : State) : Outcome :=
  .next (request h .readPartner (readPartnerAnswer code) s)

/-- READ_PARTNER, the LIST form (R99). -/
def execReadPartnerList (h : Header) (start : Nat) (settle : Bool) (s : State) : Outcome :=
  .next (request h .readPartner (readPartnerListAnswer start settle) s)

/-- READ_PARTNER with the settle option (R100). -/
def execSettlement (h : Header) (code : Nat) (s : State) : Outcome :=
  .next (request h .readPartner (settlementAnswer code) s)

/-- READ_LINK (R120). -/
def execReadLink (h : Header) (link : NumberOrAll) (s : State) : Outcome :=
  .next (request h .readLink (readLinkAnswer link) s)

/-- READ_ZONE (R162). -/
def execReadZone (h : Header) (zone : NumberOrAll) (s : State) : Outcome :=
  .next (request h .readZone (readZoneAnswer zone) s)

/-- READ_ORDERS (R142). -/
def execReadOrders (h : Header) (s : State) : Outcome :=
  .next (request h .readOrders readOrdersAnswer s)

/-- The handler of the owning block of a request command. -/
def handlerOf : Instr → Option Handler
  | .clientSet _ client action role address => some (clientSetAnswer client action role address)
  | .generalSet _ flags v => some (generalSetAnswer flags v)
  | .partnerSet _ d => some (partnerSetAnswer d)
  | .partnerStatus _ code status => some (partnerStatusAnswer code status)
  | .partnerRemove _ code => some (partnerRemoveAnswer code)
  | .rateSet _ r => some (rateSetAnswer r)
  | .epochCut _ => some epochCutAnswer
  | .zoneSet _ zone cls level window => some (zoneSetAnswer zone cls level window)
  | .linkSet _ link action p => some (linkSetAnswer link action p)
  | .gateSet _ position => some (gateSetAnswer position)
  | .pin _ handle identity => some (pinAnswer handle identity)
  | .unpin _ handle identity => some (unpinAnswer handle identity)
  | .retire _ handle identity => some (retireAnswer handle identity)
  | .grant _ handle identity ask amount => some (grantAnswer handle identity ask amount)
  | .serviceReset _ => some serviceResetAnswer
  | .attach _ identity ref => some (attachAnswer identity ref)
  | .detach _ handle => some (detachAnswer handle)
  | .lookup _ identity => some (lookupAnswer identity)
  | .sessionOpen _ handle cls ref => some (sessionOpenAnswer handle cls ref)
  | .sessionClose _ session subscriber => some (sessionCloseAnswer session subscriber)
  | .silenceSet _ value => some (silenceSetAnswer value)
  | .usage h count entries => some (usageAnswer h count entries)
  | .linkReport _ link indication quality => some (linkReportAnswer link indication quality)
  | .reconcile _ link bytes => some (reconcileAnswer link bytes)
  | .moveOrder _ source dest scope => some (moveOrderAnswer source dest scope)
  | .batchAnswer _ number verdict => some (batchAnswerAnswer number verdict)
  | .fix _ zone => some (fixAnswer zone)
  | .status _ => some statusAnswer
  | .readContext _ ref => some (readContextAnswer ref)
  | .readSession _ session => some (readSessionAnswer session)
  | .readFolio _ ref => some (readFolioAnswer ref)
  | .readPartner _ code => some (readPartnerAnswer code)
  | .readPartnerList _ start settle => some (readPartnerListAnswer start settle)
  | .settlement _ code => some (settlementAnswer code)
  | .readLink _ link => some (readLinkAnswer link)
  | .readZone _ zone => some (readZoneAnswer zone)
  | .readOrders _ => some readOrdersAnswer
  | .frameArrival _ | .notClient _ | .unknownKind _ | .frameTransmit | .powerOn _ | .silenceLineChange _
  | .passStart | .passVisit | .cutPassVisit | .batchStep | .batchTimeout | .staleExpiry | .deferralRelease
  | .nresetAsserted => none

/-- R174 to R176: a frame is taken whole for checking: it is ignored, answered NOT_CLIENT or UNKNOWN_KIND, or
handled as the request it spells. -/
def takeFrame (f : Frame) (s : State) : State :=
  match requestOf f with
  | none => unlisted (headerOf f).1 (headerOf f).2 s
  | some i => match i.header?, i.kind?, handlerOf i with
    | some h, some k, some handle => request h k handle s
    | _, _, _ => s

end Sys2Proof.Machine
end

