-- ==== Sys2Proof/Machine/Events.lean ====
section
/-! DEFINITION. The meaning of each command that is no request: frames that arrive, are taken or are sent, the events
on the pins, and the part's own timers and passes. An event whose condition does not hold when it is commanded has no
effect (log entry 14). -/

namespace Sys2Proof.Machine

/-- FRAME_ARRIVAL (R173): a frame reaches the MAC. -/
def execFrameArrival (f : Frame) (s : State) : Outcome := event (arrive f) s

/-- NOT_CLIENT (R174): a frame from the input queue is taken and checked against the client table. -/
def execNotClient (f : Frame) (s : State) : Outcome := .next (takeFrame f s)

/-- UNKNOWN_KIND (R175): a frame from the input queue is taken and its kind number is checked. -/
def execUnknownKind (f : Frame) (s : State) : Outcome := .next (takeFrame f s)

/-- FRAME_TRANSMIT (R178): the next frame of the transmit order leaves the port. -/
def execFrameTransmit (s : State) : Outcome := event transmitNext s

/-- POWER_ON (R183): power becomes stable, or nRESET is released. -/
def execPowerOn (line : Bool) (s : State) : Outcome := .next (powerOnEffect line s)

/-- SILENCE_LINE_CHANGE (R157, R184): the taken level of the SILENCE line changes. -/
def execSilenceLineChange (level : Bool) (s : State) : Outcome := event (lineEffect level) s

/-- PASS_START (R166): a new subscriber pass starts at its instant. -/
def execPassStart (s : State) : Outcome := event passStartEffect s

/-- PASS_VISIT (R167): the subscriber pass visits its next handle. -/
def execPassVisit (s : State) : Outcome := event passVisitEffect s

/-- CUT_PASS_VISIT (R79): the cut pass visits its next handle. -/
def execCutPassVisit (s : State) : Outcome := event cutVisitEffect s

/-- BATCH_STEP (R125): the Migration Engine takes a batch step for the head order. -/
def execBatchStep (s : State) : Outcome := event batchStepEffect s

/-- BATCH_TIMEOUT (R134): the deadline of the in-flight batch passes. -/
def execBatchTimeout (s : State) : Outcome := event batchTimeoutEffect s

/-- STALE_EXPIRY (R152, R153): the stale instant passes, or a held expiry is taken. -/
def execStaleExpiry (s : State) : Outcome := event staleExpiryEffect s

/-- DEFERRAL_RELEASE (R151): the Zone Tracker takes the release of a deferral. -/
def execDeferralRelease (s : State) : Outcome := event releaseEffect s

/-- NRESET_ASSERTED (R183): nRESET is asserted, or power is lost. -/
def execNresetAsserted (s : State) : Outcome := event assertReset s

/-! ### The part's own event when no command waits -/

/-- The command a frame taken from the input queue is: NOT_CLIENT where R174 finds no client, the request it spells,
or UNKNOWN_KIND. -/
def State.commandOf (s : State) (f : Frame) : Instr :=
  match s.admission (headerOf f).1, requestOf f with
  | .from_ _ _, some i => i
  | .from_ _ _, none => .unknownKind f
  | _, _ => .notClient f

/-- R134: whether the deadline of the in-flight batch has passed. -/
def State.batchDue (s : State) : Bool := s.mig.batch.any fun b => s.passed b.deadline

/-- R125: whether a batch step is due. -/
def State.stepDue (s : State) : Bool := !s.mig.queue.isEmpty && s.mig.batch.isNone

/-- The event the part takes next of its own accord, with the state it is taken in; `none` when nothing is due. The
manual fixes no order among events that are due together; the model takes them in this one (log entry 15). -/
def State.ownEvent (s : State) : Option (Instr × State) :=
  if s.port.inReset then none
  else if !s.port.transmit.isEmpty then some (.frameTransmit, s)
  else match s.port.inputQueue with
    | f :: rest => some (s.commandOf f, { s with port := { s.port with inputQueue := rest } })
    | [] =>
      if s.zone.releaseDue then some (.deferralRelease, s)
      else if s.staleDue && !s.cutRunning then some (.staleExpiry, s)
      else if s.batchDue then some (.batchTimeout, s)
      else if s.stepDue then some (.batchStep, s)
      else if s.cutRunning then some (.cutPassVisit, s)
      else if s.time.visitDue then some (.passVisit, s)
      else if s.time.startDue then some (.passStart, s)
      else none

/-- With no command waiting and nothing due, one millisecond passes (R164); while nRESET is asserted the part holds
still (log entry 15). -/
def State.idle (s : State) : State := if s.port.inReset then s else s.modTime TimeBase.tick

end Sys2Proof.Machine
end

