-- ==== Sys2Proof/Machine/Dispatch.lean ====
section
/-! DEFINITION. The dispatch of a command to its meaning. -/

namespace Sys2Proof.Machine

def exec (i : Instr) (s : State) : Host.Outcome State Fault Refusal :=
  match i with
  | .frameArrival f => Sys2Proof.Machine.execFrameArrival f s
  | .notClient f => Sys2Proof.Machine.execNotClient f s
  | .unknownKind f => Sys2Proof.Machine.execUnknownKind f s
  | .frameTransmit => Sys2Proof.Machine.execFrameTransmit s
  | .clientSet h client action role address => Sys2Proof.Machine.execClientSet h client action role address s
  | .generalSet h flags v => Sys2Proof.Machine.execGeneralSet h flags v s
  | .partnerSet h d => Sys2Proof.Machine.execPartnerSet h d s
  | .partnerStatus h code status => Sys2Proof.Machine.execPartnerStatus h code status s
  | .partnerRemove h code => Sys2Proof.Machine.execPartnerRemove h code s
  | .rateSet h r => Sys2Proof.Machine.execRateSet h r s
  | .epochCut h => Sys2Proof.Machine.execEpochCut h s
  | .zoneSet h zone cls level window => Sys2Proof.Machine.execZoneSet h zone cls level window s
  | .linkSet h link action p => Sys2Proof.Machine.execLinkSet h link action p s
  | .gateSet h position => Sys2Proof.Machine.execGateSet h position s
  | .pin h handle identity => Sys2Proof.Machine.execPin h handle identity s
  | .unpin h handle identity => Sys2Proof.Machine.execUnpin h handle identity s
  | .retire h handle identity => Sys2Proof.Machine.execRetire h handle identity s
  | .grant h handle identity ask amount => Sys2Proof.Machine.execGrant h handle identity ask amount s
  | .serviceReset h => Sys2Proof.Machine.execServiceReset h s
  | .attach h identity ref => Sys2Proof.Machine.execAttach h identity ref s
  | .detach h handle => Sys2Proof.Machine.execDetach h handle s
  | .lookup h identity => Sys2Proof.Machine.execLookup h identity s
  | .sessionOpen h handle cls ref => Sys2Proof.Machine.execSessionOpen h handle cls ref s
  | .sessionClose h session subscriber => Sys2Proof.Machine.execSessionClose h session subscriber s
  | .silenceSet h value => Sys2Proof.Machine.execSilenceSet h value s
  | .usage h count entries => Sys2Proof.Machine.execUsage h count entries s
  | .linkReport h link indication quality => Sys2Proof.Machine.execLinkReport h link indication quality s
  | .reconcile h link bytes => Sys2Proof.Machine.execReconcile h link bytes s
  | .moveOrder h source dest scope => Sys2Proof.Machine.execMoveOrder h source dest scope s
  | .batchAnswer h number verdict => Sys2Proof.Machine.execBatchAnswer h number verdict s
  | .fix h zone => Sys2Proof.Machine.execFix h zone s
  | .status h => Sys2Proof.Machine.execStatus h s
  | .readContext h ref => Sys2Proof.Machine.execReadContext h ref s
  | .readSession h session => Sys2Proof.Machine.execReadSession h session s
  | .readFolio h ref => Sys2Proof.Machine.execReadFolio h ref s
  | .readPartner h code => Sys2Proof.Machine.execReadPartner h code s
  | .readPartnerList h start settle => Sys2Proof.Machine.execReadPartnerList h start settle s
  | .settlement h code => Sys2Proof.Machine.execSettlement h code s
  | .readLink h link => Sys2Proof.Machine.execReadLink h link s
  | .readZone h zone => Sys2Proof.Machine.execReadZone h zone s
  | .readOrders h => Sys2Proof.Machine.execReadOrders h s
  | .powerOn line => Sys2Proof.Machine.execPowerOn line s
  | .silenceLineChange level => Sys2Proof.Machine.execSilenceLineChange level s
  | .passStart => Sys2Proof.Machine.execPassStart s
  | .passVisit => Sys2Proof.Machine.execPassVisit s
  | .cutPassVisit => Sys2Proof.Machine.execCutPassVisit s
  | .batchStep => Sys2Proof.Machine.execBatchStep s
  | .batchTimeout => Sys2Proof.Machine.execBatchTimeout s
  | .staleExpiry => Sys2Proof.Machine.execStaleExpiry s
  | .deferralRelease => Sys2Proof.Machine.execDeferralRelease s
  | .nresetAsserted => Sys2Proof.Machine.execNresetAsserted s

end Sys2Proof.Machine
end

