-- ==== Sys2Proof/Safety.lean ====
section
/-! DEFINITION. What holds of the part between events: the invariants the manual states, and the vocabulary the
statements share (a request that its sender may send, the response it gets). -/

namespace Sys2Proof.Machine

/-! ### Money (R24, R75, R84, R95) -/

/-- The folio totals of the contexts of a partner, by the partner's index. -/
def State.foliosOf (s : State) (i : Nat) : List Nat :=
  (s.subs.contexts.filter fun p => p.2.partner == i).map fun p => p.2.folio

/-- R24, R75, R84: the money of a context: the subtotals sum to the folio, U equals it, and neither it nor G passes
the ceiling. -/
def Context.balanced (c : Context) : Prop :=
  c.folio = c.sub.sum ∧ c.consumed = c.folio ∧ c.folio ≤ moneyMax ∧ c.granted ≤ moneyMax

/-- R75, R95, R3: the accounts of a partner against the contexts it has. -/
def State.accountsOf (s : State) (i : Nat) (p : Partner) : Prop :=
  p.openTotal = (s.foliosOf i).sum ∧ p.present = (s.foliosOf i).length ∧ p.closedTotal = p.closedSub.sum
    ∧ p.closedTotal ≤ closedMax

/-- The books of the part: every context is balanced and has its partner, and every partner's accounts agree with
its contexts. -/
def Books (s : State) : Prop :=
  Table.wf s.subs.contexts = true ∧ Table.wf s.tariff.partners = true
    ∧ (∀ p ∈ s.subs.contexts, p.2.balanced ∧ (s.par p.2.partner).isSome = true)
    ∧ ∀ p ∈ s.tariff.partners, s.accountsOf p.1 p.2

/-! ### Sessions, contexts and silence (R23, R122, R159) -/

/-- R23: the session list of the context at a handle. -/
def State.listOk (s : State) (h : Nat) (c : Context) : Prop :=
  c.sessions.Nodup ∧ c.sessions.length ≤ sessionsMax ∧ (c.presence = .dormant → c.sessions = [])
    ∧ ∀ n ∈ c.sessions, (s.ses n).any (fun x => x.subscriber == h) = true

/-- R23: every open session is listed by the context of its subscriber. -/
def State.isListed (s : State) (n : Nat) (x : Session) : Prop :=
  (s.ctx x.subscriber).any (fun c => c.sessions.contains n) = true

/-- R122, R159, R161: while the part is silent every context is DORMANT, no order waits and no batch is in flight. -/
def Quiet (s : State) : Prop :=
  s.silent = true →
    (∀ p ∈ s.subs.contexts, p.2.presence = .dormant) ∧ s.mig.queue = [] ∧ s.mig.batch = none

/-- R23: sessions and session lists agree; and the quiet of a silence. -/
def Listed (s : State) : Prop :=
  Table.wf s.subs.contexts = true ∧ Table.wf s.sess.records = true
    ∧ (∀ p ∈ s.subs.contexts, s.listOk p.1 p.2) ∧ (∀ p ∈ s.sess.records, s.isListed p.1 p.2) ∧ Quiet s

/-! ### Link counts (R44, R115, R116, R40) -/

/-- The open sessions that a test admits, counted. -/
def State.countSessions (s : State) (f : Session → Bool) : Nat := (s.sess.records.filter fun p => f p.2).length

/-- Whether a session is MOVING to a link. -/
def Binding.movingTo (l : LinkId) : Binding → Bool
  | .moving _ d _ => d == l
  | _ => false

/-- Whether a session is MOVING. -/
def Binding.isMoving : Binding → Bool
  | .moving .. => true
  | _ => false

/-- R44, R115: a link's counts are those of the sessions counted on it, and of the non-emergency sessions MOVING to
it. -/
def State.linkCounted (s : State) (l : LinkId) : Prop :=
  (s.link l).bound = s.countSessions (fun x => x.nonEmergency && x.binding.countedOn == some l)
    ∧ (s.link l).emergency = s.countSessions (fun x => !x.nonEmergency && x.binding.countedOn == some l)
    ∧ (s.link l).reserved = s.countSessions (fun x => x.nonEmergency && x.binding.movingTo l)

/-- R116: bound plus reserved within capacity, and nothing reserved while not UP. -/
def Link.withinCapacity (k : Link) : Prop :=
  k.bound + k.reserved ≤ k.capacity ∧ (k.state ≠ .up → k.reserved = 0)

/-- R129, R130, R135: the in-flight batch holds exactly the MOVING sessions, and its destination is UP. -/
def State.batchOk (s : State) : Prop :=
  match s.mig.batch with
  | none => ∀ p ∈ s.sess.records, p.2.binding.isMoving = false
  | some b =>
    b.sessions.Nodup ∧ (s.link b.dest).state = .up
      ∧ (∀ n ∈ b.sessions, (s.ses n).any (fun x => x.binding == .moving b.source b.dest b.number) = true)
      ∧ ∀ p ∈ s.sess.records, p.2.binding.isMoving = true → p.1 ∈ b.sessions

/-- R44, R115, R116, R40: every count of the links and the stranded count agree with the open sessions. -/
def Counts (s : State) : Prop :=
  Table.wf s.sess.records = true ∧ (∀ l : LinkId, s.linkCounted l) ∧ (∀ l : LinkId, (s.link l).withinCapacity)
    ∧ s.sess.stranded = s.countSessions (fun x => x.binding.countedOn.isNone) ∧ s.batchOk

/-! ### Plan use counts and the targets of revisions (R13, R14) -/

/-- R13: the use count of every plan is the sum of the session counts of the partners whose live plan it is. -/
def PlanUse (s : State) : Prop :=
  Table.wf s.tariff.partners = true ∧ ∀ q : PlanId,
    s.tariff.planUse[q] = ((s.tariff.partners.filter fun p => p.2.plan == q).map fun p => p.2.sessions).sum

/-- R14: what a revision entry targets: a partner index, or a cell index. -/
def Revision.target : Revision → Bool × Nat
  | .partner i _ _ _ => (true, i)
  | .cell i _ _ => (false, i)

/-- R98: whether a revision list holds an entry for the partner at an index. -/
abbrev Revision.targetsPartner (i : Nat) (rs : List Revision) : Prop := (true, i) ∈ rs.map Revision.target

/-! ### What a charge does (R75, R76, R85, R86, R93) -/

/-- R75, R76, R93, R85: `t` is `s` with the record at session handle `n` written as `x`, and with a charge of `k` in zone
class `z` applied to it, its context and its partner, and then evaluated: the charge stops at the folio's ceiling; a
FUNDED context whose credit it consumes is EXHAUSTED and its ACTIVE non-emergency sessions are BLOCKED, told by
`blocked`; and an ask is issued where the ask condition then holds, told by `asked`. A charge of 0 only writes the
record. -/
def Charges (n : Nat) (x : Session) (z : ZoneClass) (k : Nat) (s t : State) (blocked asked : List Notice) : Prop :=
  ∀ c p, s.ctx x.subscriber = some c → s.par c.partner = some p →
    let h := min k (999999999999 - c.folio)
    let exhausts := 0 < k ∧ c.credit = .funded ∧ c.granted ≤ c.consumed + h
    let ends := c.sessions.filter fun m => (s.ses m).any fun y => y.cls != .emergency && y.service == .active
    let asks := 0 < k ∧ c.presence = .attached ∧ p.kind = .homeRoaming ∧ c.granted - (c.consumed + h) < p.lowWater
      ∧ c.ask = none ∧ c.denied = false ∧ 0 < p.topUpStep
    let number := if c.lastAsk < 255 then c.lastAsk + 1 else 1
    let deadline := min (s.time.clock + s.settings.askTimeout * 1000) 1099511627775
    t = { s with
      sess := { s.sess with records := t.sess.records }
      subs := { s.subs with contexts := t.subs.contexts }
      tariff := { s.tariff with partners := t.tariff.partners } }
    ∧ (∀ m, t.ses m =
        let y := if m = n then some { x with charge := x.charge + h } else s.ses m
        if exhausts ∧ m ∈ ends then y.map fun y => { y with service := .blocked } else y)
    ∧ (∀ m, t.ctx m = if m = x.subscriber then some { c with
          folio := c.folio + h
          sub := c.sub.add z h
          consumed := c.consumed + h
          credit := if exhausts then .exhausted else c.credit
          ask := if asks then some ⟨number, deadline⟩ else c.ask
          lastAsk := if asks then number else c.lastAsk }
        else s.ctx m)
    ∧ (∀ m, t.par m = if m = c.partner then some { p with openTotal := p.openTotal + h } else s.par m)
    ∧ blocked = (if exhausts then [.blocked x.subscriber c.ref c.granted (c.consumed + h) ends] else [])
    ∧ asked = (if asks then [.creditAsk x.subscriber c.identity p.code number p.topUpStep deadline] else [])

/-- R10, R66: the values of the cell of a plan, a zone class and a charged class; an unset cell is free of charge. -/
def State.cellValues (s : State) (plan : PlanId) (z : ZoneClass) (c : TrafficClass) : Cell :=
  (Table.get s.tariff.cells (plan.val * 12 + z.code * 3 + c.code)).getD ⟨if c = .data then 1024 else 1, 0, .whole, 0⟩

/-- R67: the factor of a class under an adjustment, on the link a session is counted on, if any. -/
def State.factor (s : State) (c : TrafficClass) (b : Binding) (adjustment : Int) : Nat :=
  let surcharge := match b.countedOn with | none => 0 | some l => (s.link l).surcharge
  (1000 + (if c = .message then 0 else (surcharge : Int)) + adjustment).toNat

/-! ### Requests and responses -/

/-- Between events no raised notice waits to join the transmit order, and nRESET is not asserted. -/
def State.ready (s : State) : Prop := s.raised = [] ∧ s.port.inReset = false

/-- R174: a frame comes from the bound client of a role, with the EtherType in force and version 1. -/
def State.knows (s : State) (h : Header) (r : Role) : Prop :=
  h.etherType = s.settings.etherType ∧ h.version = 1 ∧ h.client ≤ 7
    ∧ Table.get s.port.clients h.client = some ⟨r, some h.src⟩

/-- R174, R175 step 3: a frame of a kind comes from the bound client of a role, and its body length fits the frame and
the kind. -/
def State.hears (s : State) (h : Header) (k : Kind) (r : Role) : Prop :=
  s.knows h r ∧ h.length ≤ 1440 ∧ h.length ≤ h.carried ∧ ∀ n, k.bodyLength = some n → h.length = n

/-- R176: the response to a request taken in a state, formed in the same millisecond. -/
def reply (h : Header) (k : Kind) (r : Result) (body : List Field) (s : State) : OutFrame :=
  { dst := h.src, etherType := s.settings.etherType, client := h.client, kind := BitVec.ofNat 16 (k.code + 0x8000),
    tag := h.tag, result := r, seconds := s.time.clock / 1000, body := body }

/-- The state with frames joined to the transmit order. -/
def State.sent (s : State) (fs : List OutFrame) : State :=
  { s with port := { s.port with transmit := s.port.transmit ++ fs } }

/-- R177: the copies of some notices, those of one notice together. -/
def State.told (s : State) (ns : List Notice) : List OutFrame := ns.flatMap s.copies

/-- R176, R178: a request taken in state `s` leaves state `t` and is answered: first go the notices `before`, then the
response, then the notices `after`, which are addressed to GATEWAY. -/
def answered (h : Header) (k : Kind) (r : Result) (body : List Field) (s t : State) (before after : List Notice := []) :
    Outcome :=
  .next (t.sent (t.told before ++ [reply h k r body s] ++ t.told after))

/-- R176: a request taken in state `s` is refused with an empty body and changes nothing. -/
def refused (h : Header) (k : Kind) (r : Result) (s : State) : Outcome := .next (s.sent [reply h k r [] s])

/-- R178: an event that is no request leaves state `t`, and its notices go in the order raised. -/
def noticed (t : State) (ns : List Notice) : Outcome := .next (t.sent (t.told ns))

/-- R19: the present contexts a test admits. -/
def State.contextsWith (s : State) (f : Context → Bool) : List Context :=
  (s.subs.contexts.filter fun p => f p.2).map Prod.snd

/-! ### Retirement (R36, R94, R95) -/

/-- R36, R95: the state after the context `c` at handle `k`, of partner `p`, is retired: its folio is folded into the
closed account as far as the headroom allows, in class order, and its slot is absent. -/
def State.retired (s : State) (k : Nat) (c : Context) (p : Partner) : State :=
  let room := 9223372036854775807 - p.closedTotal
  let a := min c.sub.port room
  let b := min c.sub.coastal (room - a)
  let d := min c.sub.openSea (room - a - b)
  let e := min c.sub.restricted (room - a - b - d)
  { s with
    subs := { s.subs with contexts := Table.erase s.subs.contexts k }
    tariff := { s.tariff with
      partners := Table.set s.tariff.partners c.partner { p with
        openTotal := p.openTotal - c.folio, present := p.present - 1, closedTotal := p.closedTotal + (a + b + d + e)
        closedSub := ⟨p.closedSub.port + a, p.closedSub.coastal + b, p.closedSub.openSea + d,
          p.closedSub.restricted + e⟩ } } }

/-- R36 step 3, R94: the credit a retirement returns. -/
def returnedCredit (c : Context) (p : Partner) : Nat := if p.kind = .homeRoaming then c.granted - c.consumed else 0

/-- R94: what a retirement tells GATEWAY: the cancellation of an outstanding ask, then the credit returned. -/
def farewell (k : Nat) (c : Context) (p : Partner) : List Notice :=
  (match c.ask with | none => [] | some q => [.askCancel k c.identity q.number])
    ++ if 0 < returnedCredit c p then [.creditReturn k c.identity p.code (returnedCredit c p)] else []

/-! ### Links and orders (R122, R123, R138) -/

/-- R123: the queue after an order of the part's own: appended, or widening the order its source has, or dropped; while
the part is silent nothing is raised. -/
def handedOrder (silent : Bool) (src : Source) (scope : Scope) (cause : OrderCause) (q : List Order) : List Order :=
  if silent then q
  else if q.any (fun o => o.source == src) then
    if cause = .failed then q.map fun o => if o.source = src then { o with scope := .all } else o else q
  else q ++ [{ source := src, dest := .auto, scope := scope, cause := cause, excluded := [], batches := 0, moved := 0 }]

/-- R129, R113: the link that wins a choice: it is admitted, and every other admitted link has a lower priority, or the
same priority and a higher number. -/
def State.wins (s : State) (admits : LinkId → Prop) (l : LinkId) : Prop :=
  admits l ∧ ∀ m, admits m → m ≠ l → (s.link m).priority < (s.link l).priority
    ∨ ((s.link m).priority = (s.link l).priority ∧ l < m)

/-- The non-emergency sessions among the open sessions at some handles, counted. -/
def State.nonEmergencyAmong (s : State) (ns : List Nat) : Nat :=
  (s.sess.records.filter fun p => ns.contains p.1 && p.2.cls != .emergency).length

/-- The handles of the open sessions in scope of an order. -/
def State.scopeHandles (s : State) (o : Order) : List Nat :=
  (s.sess.records.filter fun p => (match o.source, p.2.binding with
    | .link l, .bound m => l == m
    | .rescue, .stranded => true
    | _, _ => false) && (o.scope == .all || p.2.cls != .emergency)).map Prod.fst

/-- R138: the notice of the end of an order. -/
def endOf (o : Order) (outcome : OrderOutcome) (stranded : Nat) : Notice :=
  .orderEnded o.source o.dest o.scope o.cause outcome o.batches o.moved stranded

/-- R138: whether the end of an order strands its sessions: its source is a link that is DOWN or SUSPECT. -/
def State.strands (s : State) (o : Order) : Prop :=
  ∃ l, o.source = .link l ∧ ((s.link l).state = .down ∨ (s.link l).state = .suspect)

/-- R138, R139: `t` is `s` after its head order `o` ended by `outcome` and stranded every session in scope, BOUND to
`l`: each is STRANDED, in the current epoch and without a residue, and is counted so; other sessions keep all but their
service state; and the notices tell RADIO of each session and end with that of the order. -/
def Strands (o : Order) (rest : List Order) (l : LinkId) (outcome : OrderOutcome) (s t : State) (ns : List Notice) :
    Prop :=
  let handles := s.scopeHandles o
  t.mig = { s.mig with queue := rest }
    ∧ (∀ m x, s.ses m = some x → ∃ y, t.ses m = some y ∧
        if m ∈ handles then
          y.binding = .stranded ∧ y.epoch = s.tariff.epoch ∧ (x.cls = .voice ∨ x.cls = .data → y.residue = 0)
            ∧ y = { x with
              binding := y.binding, epoch := y.epoch, residue := y.residue, carry := y.carry, charge := y.charge
              service := y.service }
        else y = { x with service := y.service })
    ∧ (∀ m, s.ses m = none → t.ses m = none)
    ∧ (∀ m, t.link m = if m = l then { s.link l with
          bound := (s.link l).bound - s.nonEmergencyAmong handles
          emergency := (s.link l).emergency - (handles.length - s.nonEmergencyAmong handles) }
        else s.link m)
    ∧ t.sess.stranded = s.sess.stranded + handles.length
    ∧ (∀ m ∈ handles, ∃ x, s.ses m = some x ∧ .stranded m x.subscriber x.cls (some l) x.ref ∈ ns)
    ∧ ns.getLast? = some (endOf o outcome handles.length)
    ∧ t.zone = s.zone ∧ t.time = s.time ∧ t.port = s.port ∧ t.cutPos = s.cutPos

/-- R133: `s` with the in-flight batch `b` ended and its sessions back at the bindings they had. -/
def State.returned (s : State) (b : Batch) : State :=
  let home : Binding := match b.source with | .link l => .bound l | .rescue => .stranded
  { s with
    sess := { s.sess with
      records := s.sess.records.map fun p => if p.1 ∈ b.sessions then (p.1, { p.2 with binding := home }) else p }
    links := s.links.set b.dest { s.link b.dest with
      reserved := (s.link b.dest).reserved - s.nonEmergencyAmong b.sessions }
    mig := { s.mig with batch := none } }

/-- R133: an order whose AUTO destination has failed. -/
def Order.without (o : Order) (d : LinkId) : Order :=
  { o with excluded := allLinks.filter fun l => l == d || o.excluded.contains l }

/-! ### The crossing (R154) -/

/-- R154, R15, R156: `t` is `s` after a crossing to `target`, confirmed or stale, and `n` is its notice: the effective
zone and the tracking record, what READ_ZONE returns of the notice (log entry 32), a new epoch as EPOCH_CUT opens it with the zone class left behind, and a ZONE order for
each link that the new zone forbids and that carries a non-emergency session. -/
def Crosses (target : Option ZoneId) (confirmed : Bool) (s t : State) (n : Notice) : Prop :=
  let forbidden (l : LinkId) : Bool :=
    (match target with | none => true | some z => !(s.link l).mask.getLsbD z.val) && decide (0 < (s.link l).bound)
  let tracking : Tracking := if confirmed then .placed else .stale
  t = { s with
      tariff := t.tariff
      cutPos := some 0
      mig := { s.mig with queue := allLinks.foldl (fun q l =>
        if forbidden l then handedOrder s.silent (.link l) .nonEmergency .zone q else q) s.mig.queue }
      zone := { s.zone with
        effective := target, since := s.time.clock, tracking := tracking
        candidate := if confirmed then none else s.zone.candidate
        deferred := if confirmed then false else s.zone.deferred
        report := some ⟨if confirmed then .confirmed else .stale, s.tariff.epoch + 1⟩ } }
    ∧ t.tariff.epoch = s.tariff.epoch + 1
    ∧ t.tariff.previous = some ⟨s.tariff.epoch,
        match s.zone.effective with | none => .restricted | some z => (s.zoneAt z).cls⟩
    ∧ (∀ h u, s.ready → s.hears h .epochCut .purser → exec (.epochCut h) s = .next u → t.tariff = u.tariff)
    ∧ n = match target with
      | none => .zoneChanged (if confirmed then .confirmed else .stale) none .restricted .emergencyOnly 0 s.time.clock
          s.time.clock tracking (s.tariff.epoch + 1)
      | some z => .zoneChanged (if confirmed then .confirmed else .stale) (some z) (s.zoneAt z).cls (s.zoneAt z).level
          (s.zoneAt z).window s.time.clock (min (s.time.clock + (s.zoneAt z).window * 1000) 1099511627775) tracking
          (s.tariff.epoch + 1)

/-- R150: `s` after a re-placement, which is told with cause PLACED_AGAIN. -/
def State.replaced (s : State) : State :=
  { s with zone := { s.zone with
    tracking := .placed, candidate := none, deferred := false, report := some ⟨.placedAgain, s.tariff.epoch⟩ } }

/-- R150, R156: the notice of a re-placement, or of another cause that leaves the effective zone `z` as it is. -/
def State.zoneNews (s : State) (cause : ZoneCause) (z : ZoneId) (r : Zone) (tracking : Tracking) : Notice :=
  .zoneChanged cause (some z) r.cls r.level r.window s.zone.since (min (s.zone.since + r.window * 1000) 1099511627775)
    tracking s.tariff.epoch

/-! ### Silence (R159) -/

/-- R141, R159, R160: `t` is `s`, in which the line or the flag has just made the part silent, after the entry into
silence, and `ns` is what it tells: the batch abandoned, every order discarded, every context DORMANT, every session
closed, and no count left. -/
def Silences (s t : State) (ns : List Notice) : Prop :=
  let deadline := min (s.time.clock + s.settings.dormancy * 1000) 1099511627775
  t.sess = { records := [], stranded := 0 }
    ∧ t.mig = { queue := [], batch := none, counter := s.mig.counter }
    ∧ (∀ l, t.link l = { s.link l with bound := 0, emergency := 0, reserved := 0 })
    ∧ (∀ k, s.ctx k = none → t.ctx k = none)
    ∧ (∀ k c, s.ctx k = some c → c.presence = .dormant → t.ctx k = some c)
    ∧ (∀ k c, s.ctx k = some c → c.presence = .attached → ∃ d, t.ctx k = some d ∧ d = { c with
        presence := .dormant, dormancy := some deadline, sessions := [], folio := d.folio, sub := d.sub
        consumed := d.consumed, credit := d.credit })
    ∧ t.zone = s.zone ∧ t.time = s.time ∧ t.cutPos = s.cutPos ∧ t.port = s.port
    ∧ ∃ closes : List Notice,
        ns = (match s.mig.batch with
            | none => []
            | some b => [.batchAbandoned b.number b.source b.dest .silence b.sessions.length])
          ++ s.mig.queue.map (fun o => endOf o .discarded 0) ++ closes
          ++ [.silence true s.zone.line s.zone.flag s.time.clock
            (some ((s.contextsWith fun c => c.presence == .attached).length, s.sess.records.length))]
        ∧ ∀ n x, s.ses n = some x → ∃ k b, .sessionClosed n x.subscriber x.cls .silence k b x.ref ∈ closes

end Sys2Proof.Machine
end

