-- ==== Sys2Proof/Certificates/Slice0/Obligations.lean ====
section
/-! DEFINITION. The statements put to the provers: what the numbered rules of the manual say the commands and the part
do. A statement names in its first words the rules it follows, and says where it rests on a choice of the model's. -/

open Sys2Proof Sys2Proof.Machine


/-! ### The queue of commands and the part's own time -/

/-- The command at the front of the queue is the one a step takes, on the state with the rest of the queue. -/
def Obligations.StepTakesFrontCommand : Prop :=
  ∀ (c : Instr) (s : State), step { s with pending := c :: s.pending } = exec c s

/-- No command stops the part: every command, in every state, answers a next state, and the queue of the commands that
wait is then as it was. -/
def Obligations.CommandsCompleteAndKeepQueue : Prop :=
  ∀ (c : Instr) (s : State), ∃ t, exec c s = .next t ∧ t.pending = s.pending

/-- R164: with nothing due, the device clock advances by one millisecond and holds at 1,099,511,627,775. That a
millisecond passes on an empty queue, when no event is due, is the model's choice (log entry 15). -/
def Obligations.IdleMillisecond : Prop :=
  ∀ s : State, s.pending = [] → s.port.inReset = false → s.port.transmit = [] → s.port.inputQueue = [] →
    s.zone.releaseDue = false → s.zone.tracking ≠ .placed → s.mig.queue = [] → s.mig.batch = none → s.cutPos = none →
    (s.time.passPos < 4072 → s.time.passElapsed < s.time.passPos * (s.time.passPeriod * 1000) / 4072) →
    (s.time.passPos = 4072 → s.time.passElapsed < s.time.passPeriod * 1000) →
    step s = .next { s with time := { s.time with
      clock := if s.time.clock < 1099511627775 then s.time.clock + 1 else 1099511627775
      passElapsed := s.time.passElapsed + 1 } }

/-! ### Frames (Chapters 10 and 11) -/

/-- R173: a frame with a good check sequence joins the input queue exactly when it is addressed to the part or to all,
carries the EtherType in force and at least a header, and fewer than 64 frames wait; any other leaves no trace. R173 gives
the generator polynomial and the bytes covered; the preset, the complement and the bit order of the code (`fcsOf`) are
presumed of Ethernet (log entry 6). -/
def Obligations.FrameArrivalAdmission : Prop :=
  ∀ (f : Frame) (s : State), s.ready →
    exec (.frameArrival f) s = .next (
      if fcsOf (beBytes 6 f.dst.toNat ++ beBytes 6 f.src.toNat ++ beBytes 2 f.etherType.toNat ++ f.payload) = f.fcs
          ∧ (f.dst = s.port.station ∨ f.dst = 0xFFFFFFFFFFFF) ∧ f.etherType = s.settings.etherType
          ∧ 16 ≤ f.payload.length ∧ s.port.inputQueue.length < 64 then
        { s with port := { s.port with inputQueue := s.port.inputQueue ++ [f] } }
      else s)

/-- R178, R173, R185: the first frame of the transmit order leaves the port: its destination, the station address, the
EtherType, version 1 and the header of Table 11-1, its body, bytes of 0 up to a payload of 46, and the check sequence
over all of these. The code behind that sequence and its byte order are presumed of Ethernet (log entry 6), `wire` is the
model's own field (log entry 19), and that a FRAME_TRANSMIT on an empty transmit order has no effect is the model's choice
(log entry 14). -/
def Obligations.FrameTransmitSendsFirst : Prop :=
  ∀ s : State, s.ready →
    (s.port.transmit = [] → exec .frameTransmit s = .next s)
    ∧ ∀ f rest, s.port.transmit = f :: rest →
        let body := f.body.flatMap Field.bytes
        let bare := [1, BitVec.ofNat 8 f.client] ++ beBytes 2 f.kind.toNat ++ beBytes 4 f.tag.toNat
          ++ beBytes 2 body.length ++ beBytes 2 f.result.code ++ beBytes 4 f.seconds ++ body
        let covered := beBytes 6 f.dst.toNat ++ beBytes 6 s.port.station.toNat ++ beBytes 2 f.etherType.toNat
          ++ bare ++ List.replicate (46 - bare.length) 0
        exec .frameTransmit s = .next { s with port := { s.port with
          transmit := rest, wire := some (covered ++ (beBytes 4 (fcsOf covered).toNat).reverse) } }

/-- R185, R186, Tables 11-1 to 11-3: the frame of a request reads back as that request, with every operand. -/
def Obligations.FrameOfRequestReadsBack : Prop :=
  ∀ (i : Instr) (dst : Mac) (fcs : BitVec 32) (f : Frame), i.wellFormed = true → i.frame dst fcs = some f →
    requestOf f = some i

/-- R173 to R176: a taken frame that spells a request does what the request command does, whichever of the two taken
frame commands stands for it; and frames are taken in arrival order. That the oldest is taken next once no command waits
and the transmit order is empty is the model's choice (log entry 15). -/
def Obligations.FramesTakenInOrder : Prop :=
  (∀ (f : Frame) (i : Instr) (s : State), requestOf f = some i →
    exec (.notClient f) s = exec i s ∧ exec (.unknownKind f) s = exec i s)
  ∧ ∀ (f : Frame) (rest : List Frame) (s : State), s.pending = [] → s.ready → s.port.transmit = [] →
    s.port.inputQueue = f :: rest →
    step s = exec (.notClient f) { s with port := { s.port with inputQueue := rest } }

/-- R174 steps 1 to 3 and 5, R175 step 1, R185: a taken frame of another EtherType or version is ignored; one that names a
client not in use, or bound to another address, answers NOT_CLIENT to its source; one of a bound client whose kind number
is no request kind answers UNKNOWN_KIND; none of them changes anything. The kind of the response to a number from 0x8000
up is not stated by the manual (log entry 1). -/
def Obligations.StrayFramesAnswered : Prop :=
  ∀ (f : Frame) (h : Header) (n : Nat) (s : State), headerOf f = (h, n) → s.ready →
    let answer (etherType : BitVec 16) (kind : BitVec 16) (r : Result) : Outcome := .next (s.sent [{
      dst := h.src, etherType := etherType, client := h.client, kind := kind, tag := h.tag, result := r
      seconds := s.time.clock / 1000, body := [] }])
    ((h.etherType ≠ s.settings.etherType ∨ h.version ≠ 1) → exec (.notClient f) s = .next s)
    ∧ (h.etherType = s.settings.etherType → h.version = 1 → n < 0x8000 →
        (7 < h.client ∨ Table.get s.port.clients h.client = none
          ∨ ∃ r a, Table.get s.port.clients h.client = some ⟨r, some a⟩ ∧ a ≠ h.src) →
        exec (.notClient f) s = answer h.etherType (BitVec.ofNat 16 (n + 0x8000)) .notClient)
    ∧ ∀ r, s.knows h r → (∀ k : Kind, k.code ≠ n) →
        ∃ kind : BitVec 16, (n < 0x8000 → kind = BitVec.ofNat 16 (n + 0x8000))
          ∧ exec (.unknownKind f) s = answer s.settings.etherType kind .unknownKind

/-- R174 step 4: the first frame of an unbound client binds it to the frame's source, and is then judged as that
client's; the binding stands whatever the request answers. -/
def Obligations.FirstFrameBindsClient : Prop :=
  ∀ (i : Instr) (h : Header) (r : Role) (s : State), i.header? = some h → s.port.inReset = false →
    h.etherType = s.settings.etherType → h.version = 1 → h.client ≤ 7 →
    Table.get s.port.clients h.client = some ⟨r, none⟩ →
    exec i s = exec i { s with port := { s.port with
      clients := Table.set s.port.clients h.client ⟨r, some h.src⟩ } }

/-- R175 steps 2 and 3, Table 10-1: a request kind that the client's role may not send answers NOT_PERMITTED, the kinds
listed by number, role by role; and a permitted request whose body length field is above 1,440, or above what the frame
carries, or not the length of its kind, answers BAD_LENGTH. Neither changes anything. -/
def Obligations.RolesAndLengthsEnforced : Prop :=
  ∀ (i : Instr) (h : Header) (k : Kind) (r : Role) (s : State), i.header? = some h → i.kind? = some k → s.ready →
    s.knows h r →
    let barred : Prop := (k.code ≤ 0x000F ∧ r ≠ .purser ∧ ¬ (k = .grant ∧ r = .gateway))
      ∨ (0x0011 ≤ k.code ∧ k.code ≤ 0x0016 ∧ r ≠ .radio) ∨ (k = .usage ∧ r ≠ .meter)
      ∨ (0x0031 ≤ k.code ∧ k.code ≤ 0x0034 ∧ r ≠ .router) ∨ (k = .fix ∧ r ≠ .nav)
    (barred → exec i s = refused h k .notPermitted s)
    ∧ (¬ barred → (1440 < h.length ∨ h.carried < h.length ∨ ∃ n, k.bodyLength = some n ∧ h.length ≠ n) →
        exec i s = refused h k .badLength s)

/-- R180: CLIENT_SET. DEFINE, REBIND and FREE on a client in use and not in use, and the values it refuses. The role byte
of a client that is not in use is a free value (log entry 4); that a role outside the six is refused with REBIND and FREE
too is the model's reading (log entry 33). -/
def Obligations.ClientSetActions : Prop :=
  ∀ (h : Header) (k : Nat) (role : Role) (a : Option Mac) (s : State), s.ready → s.hears h .clientSet .purser →
    let address := [Field.u8 (if a.isSome then 1 else 0), .mac (a.getD 0)]
    (1 ≤ k → k ≤ 7 → Table.get s.port.clients k = none →
      exec (.clientSet h k (some .define) (some role) a) s =
          answered h .clientSet .ok ([.u8 k, .u8 1, .u8 role.code] ++ address) s
            { s with port := { s.port with clients := Table.set s.port.clients k ⟨role, a⟩ } }
      ∧ exec (.clientSet h k (some .rebind) (some role) a) s = refused h .clientSet .unknownHandle s
      ∧ exec (.clientSet h k (some .free) (some role) a) s =
          answered h .clientSet .already [.u8 k, .u8 0, .u8 (Config.missingRole k).toNat, .u8 0, .mac 0] s s)
    ∧ (∀ c, Table.get s.port.clients k = some c → k ≤ 7 →
      exec (.clientSet h k (some .rebind) (some role) a) s =
          answered h .clientSet .ok ([.u8 k, .u8 1, .u8 c.role.code] ++ address) s
            { s with port := { s.port with clients := Table.set s.port.clients k ⟨c.role, a⟩ } }
      ∧ (1 ≤ k →
        exec (.clientSet h k (some .define) (some role) a) s = refused h .clientSet .inUse s
        ∧ exec (.clientSet h k (some .free) (some role) a) s =
            answered h .clientSet .ok [.u8 k, .u8 0, .u8 (Config.missingRole k).toNat, .u8 0, .mac 0] s
              { s with port := { s.port with clients := Table.erase s.port.clients k } }))
    ∧ (∀ action ro, (7 < k ∨ action = none ∨ ro = none ∨ (k = 0 ∧ action ≠ some .rebind)) →
      exec (.clientSet h k action ro a) s = refused h .clientSet .badValue s)

/-! ### Settings, power-on and resets (Chapters 9 and 10) -/

/-- R170, R171: GENERAL_SET. Each selected value is brought into its range and written, each other setting is kept; the
result tells whether a selected value was altered, changed, or nothing changed. The response goes out with the
EtherType in force when the request was taken. -/
def Obligations.GeneralSetWritesSettings : Prop :=
  ∀ (h : Header) (flags : BitVec 16) (v : GeneralValues) (s : State), s.ready → s.hears h .generalSet .purser →
    ∃ (g : Settings) (r : Result),
      exec (.generalSet h flags v) s = answered h .generalSet r
        [.u8 g.passPeriod, .u8 g.askTimeout, .u32 g.dormancy, .u32 g.idle, .u8 g.staleExponent, .u8 g.confirmCount,
          .u16 g.confirmHold, .u8 ((g.fallback.map Fin.val).getD 255), .u16 g.batchTimeout, .u32 g.reconcileFloor,
          .u8 g.reconcileTolerance, .u16 g.etherType.toNat, .u8 g.passPeriod, .u8 s.time.passPeriod] s
        { s with time := { s.time with settings := g } }
      ∧ g.passPeriod = (if flags.getLsbD 0 then max 1 (min v.passPeriod 8) else s.settings.passPeriod)
      ∧ g.askTimeout = (if flags.getLsbD 1 then max 1 (min v.askTimeout 255) else s.settings.askTimeout)
      ∧ g.dormancy = (if flags.getLsbD 2 then max 60 (min v.dormancy 86400) else s.settings.dormancy)
      ∧ g.idle = (if flags.getLsbD 3 then min v.idle 86400 else s.settings.idle)
      ∧ g.staleExponent = (if flags.getLsbD 4 then max 2 (min v.staleExponent 9) else s.settings.staleExponent)
      ∧ g.confirmCount = (if flags.getLsbD 5 then max 1 (min v.confirmCount 15) else s.settings.confirmCount)
      ∧ g.confirmHold = (if flags.getLsbD 6 then min v.confirmHold 600 else s.settings.confirmHold)
      ∧ g.fallback = (if flags.getLsbD 7 then (if hz : v.fallback < 32 then some ⟨v.fallback, hz⟩ else none)
          else s.settings.fallback)
      ∧ (flags.getLsbD 8 = false → g.batchTimeout = s.settings.batchTimeout)
      ∧ (flags.getLsbD 8 = true → 100 ≤ g.batchTimeout ∧ g.batchTimeout ≤ 25500 ∧ g.batchTimeout % 100 = 0
          ∧ (100 ≤ v.batchTimeout → v.batchTimeout ≤ 25500 →
              g.batchTimeout ≤ v.batchTimeout ∧ v.batchTimeout < g.batchTimeout + 100)
          ∧ (v.batchTimeout < 100 → g.batchTimeout = 100) ∧ (25500 < v.batchTimeout → g.batchTimeout = 25500))
      ∧ g.reconcileFloor = (if flags.getLsbD 9 then min v.reconcileFloor 1048576 else s.settings.reconcileFloor)
      ∧ g.reconcileTolerance = (if flags.getLsbD 10 then min v.reconcileTolerance 100
          else s.settings.reconcileTolerance)
      ∧ g.etherType = (if flags.getLsbD 11 then v.etherType else s.settings.etherType)
      ∧ (∀ clamped : Prop, (clamped ↔ (flags.getLsbD 0 = true ∧ g.passPeriod ≠ v.passPeriod)
            ∨ (flags.getLsbD 1 = true ∧ g.askTimeout ≠ v.askTimeout) ∨ (flags.getLsbD 2 = true ∧ g.dormancy ≠ v.dormancy)
            ∨ (flags.getLsbD 3 = true ∧ g.idle ≠ v.idle) ∨ (flags.getLsbD 4 = true ∧ g.staleExponent ≠ v.staleExponent)
            ∨ (flags.getLsbD 5 = true ∧ g.confirmCount ≠ v.confirmCount)
            ∨ (flags.getLsbD 6 = true ∧ g.confirmHold ≠ v.confirmHold)
            ∨ (flags.getLsbD 7 = true ∧ 32 ≤ v.fallback ∧ v.fallback ≠ 255)
            ∨ (flags.getLsbD 8 = true ∧ g.batchTimeout ≠ v.batchTimeout)
            ∨ (flags.getLsbD 9 = true ∧ g.reconcileFloor ≠ v.reconcileFloor)
            ∨ (flags.getLsbD 10 = true ∧ g.reconcileTolerance ≠ v.reconcileTolerance)) →
          (clamped → r = .okClamped) ∧ (¬ clamped → g ≠ s.settings → r = .ok)
          ∧ (¬ clamped → g = s.settings → flags ≠ 0 → flags.toNat < 4096 → r = .already) ∧ (flags = 0 → r = .ok))

/-- R183 and the power-on values of every chapter: power-on empties every table and queue and leaves every setting at
its default, the part silent exactly when the SILENCE line is asserted; only the station address is kept. The fields wire
and inReset are the model's own (log entry 19), and that no report of a ZONE_CHANGED notice stands then is its reading (log
entry 32). -/
def Obligations.PowerOnValues : Prop :=
  ∀ (line : Bool) (s : State), ∃ t, exec (.powerOn line) s = .next t
    ∧ t.tariff = {
        partners := [], codes := [], cells := [], revisions := [], epoch := 0, previous := none,
        planUse := Vector.replicate 32 0 }
    ∧ t.subs = { contexts := [], pinned := 0, gate := .opened } ∧ t.sess = { records := [], stranded := 0 }
    ∧ t.cutPos = none ∧ t.mig = { queue := [], batch := none, counter := 0 }
    ∧ (∀ l, t.link l = {
        kind := .harbourFixed, state := .offline, mask := 0, priority := 0, capacity := 0,
        surcharge := 0, quality := 0, degrade := 30, recover := 50, hold := 2, streak := 0, bound := 0, emergency := 0,
        reserved := 0, accumulator := 0, discrepancy := 0, limit := 3 })
    ∧ (∀ z, t.zoneAt z = { defined := false, cls := .port, level := .full, window := 0 })
    ∧ t.zone.tracking = .unplaced ∧ t.zone.effective = none ∧ t.zone.since = 0 ∧ t.zone.candidate = none
    ∧ t.zone.lastFix = none ∧ t.zone.deferred = false ∧ t.zone.flag = false ∧ t.zone.report = none
    ∧ t.silent = line
    ∧ t.time.clock = 0 ∧ t.time.passPos = 0 ∧ t.time.passStart = 0 ∧ t.time.passPeriod = 2
    ∧ t.settings = {
        passPeriod := 2, askTimeout := 20, dormancy := 1800, idle := 600, staleExponent := 6,
        confirmCount := 3, confirmHold := 30, fallback := none, batchTimeout := 2000, reconcileFloor := 4096,
        reconcileTolerance := 5, etherType := 0x88B6 }
    ∧ t.port = {
        clients := [(0, ⟨.purser, none⟩)], inputQueue := [], transmit := [], wire := none,
        lastReset := .powerOn, station := s.port.station, inReset := false }

/-- R183: while nRESET is asserted nothing is received or sent: the input queue and the transmit order are emptied, a
frame being sent is cut short, and frames that arrive then are lost. That a request commanded then has no effect is
the model's choice (log entry 13). -/
def Obligations.NresetSilencesPort : Prop :=
  ∀ s : State, s.ready → ∃ t, exec .nresetAsserted s = .next t
    ∧ t = { s with port := { s.port with inReset := true, inputQueue := [], transmit := [], wire := none } }
    ∧ (∀ f, exec (.frameArrival f) t = .next t) ∧ exec .frameTransmit t = .next t
    ∧ ∀ i h, i.header? = some h → exec i t = .next t

/-- R182, R18, R39, R59, R121, R143: SERVICE_RESET. Sessions, orders, the batch, revisions and counts are dropped;
unpinned contexts are gone, pinned ones kept DORMANT; every partner keeps its definition and status, its accounts hold
the folios of the contexts that went and of those that stayed; everything else is kept, and no notice is sent. The
fields that say what the Zone Tracker has to take are the model's own (log entry 18). -/
def Obligations.ServiceResetEmptiesVoyage : Prop :=
  ∀ (h : Header) (s : State), s.ready → s.hears h .serviceReset .purser → Books s →
    ∃ t : State, exec (.serviceReset h) s = answered h .serviceReset .ok
        [.u16 s.sess.records.length, .u16 (s.contextsWith fun c => !c.pinned).length,
          .u8 (s.contextsWith Context.pinned).length, .u16 s.tariff.epoch.toNat] s t
      ∧ t.mig = { queue := [], batch := none, counter := s.mig.counter } ∧ t.cutPos = none
      ∧ t.sess = { records := [], stranded := 0 }
      ∧ (∀ l, t.link l = { s.link l with bound := 0, emergency := 0, reserved := 0, accumulator := 0, discrepancy := 0 })
      ∧ t.tariff.planUse = Vector.replicate 32 0 ∧ t.tariff.revisions = [] ∧ t.tariff.previous = none
      ∧ t.tariff.epoch = s.tariff.epoch ∧ t.tariff.cells = s.tariff.cells ∧ t.tariff.codes = s.tariff.codes
      ∧ (∀ k, t.ctx k = (s.ctx k).bind fun c =>
          if c.pinned then some { c with
            presence := .dormant, sessions := []
            dormancy := some (min (s.time.clock + s.settings.dormancy * 1000) 1099511627775) }
          else none)
      ∧ (∀ i p, s.par i = some p →
          let kept := s.contextsWith fun c => c.pinned && c.partner == i
          let gone := s.contextsWith fun c => !c.pinned && c.partner == i
          let total := p.closedTotal + (gone.map Context.folio).sum
          ∃ q, t.par i = some q
            ∧ q = { p with sessions := 0, openTotal := q.openTotal, present := q.present, closedTotal := q.closedTotal,
                           closedSub := q.closedSub }
            ∧ q.openTotal = (kept.map Context.folio).sum ∧ q.present = kept.length
            ∧ q.closedTotal = min total 9223372036854775807 ∧ q.closedTotal = q.closedSub.sum
            ∧ (total ≤ 9223372036854775807 → ∀ z, q.closedSub.at z = p.closedSub.at z + (gone.map (·.sub.at z)).sum))
      ∧ t.subs.pinned = s.subs.pinned ∧ t.subs.gate = s.subs.gate ∧ t.time = s.time
      ∧ t.zone = { s.zone with deferred := false, releaseDue := false, expiryHeld := t.zone.expiryHeld }
      ∧ t.port = { s.port with lastReset := .service } ∧ t.raised = [] ∧ t.pending = s.pending

/-! ### Partners, rate plans and epochs (Chapter 1) -/

/-- R4, R1, R3: a PARTNER_SET for a code that no partner holds creates a partner in the lowest free slot, with the
values of Table 1-1, and its code joins the ordered list; 256 partners leave no slot. -/
def Obligations.PartnerSetCreates : Prop :=
  ∀ (h : Header) (d : PartnerDef) (kind : PartnerKind) (plan : PlanId) (s : State), s.ready →
    s.hears h .partnerSet .purser → d.kind = some kind → d.plan = plan.val → d.code ≤ 99999 → d.barWindow ≤ 600 →
    -500 ≤ d.adjustment → d.adjustment ≤ 1000 → d.exposure ≤ 9999999999999999 → d.initialStep ≤ 999999999999 →
    d.topUpStep ≤ 999999999999 → d.lowWater ≤ 999999999999 → (∀ p ∈ s.tariff.partners, p.2.code ≠ d.code) →
    (∀ i, i < 256 → s.par i = none → (∀ j, j < i → s.par j ≠ none) →
      exec (.partnerSet h d) s = answered h .partnerSet .ok [.u8 i, .u8 0, .u8 s.tariff.revisions.length] s
        { s with tariff := { s.tariff with
            partners := Table.set s.tariff.partners i
              { code := d.code, kind := kind, status := .active, barTime := none, barWindow := d.barWindow, plan := plan,
                adjustment := d.adjustment, exposure := d.exposure, initialStep := d.initialStep,
                topUpStep := d.topUpStep, lowWater := d.lowWater, openTotal := 0, closedTotal := 0,
                closedSub := ⟨0, 0, 0, 0⟩, present := 0, sessions := 0, settleNumber := 0, settled := none }
            codes := insertRising d.code s.tariff.codes } })
    ∧ ((∀ i, i < 256 → s.par i ≠ none) → exec (.partnerSet h d) s = refused h .partnerSet .tableFull s)

/-- R5, R6, R8: a PARTNER_SET for an existing partner. The kind is guarded by the present count; the tariff fields are
replaced in a staged entry, found as they are, written at once, or staged, and are refused while the cut pass runs
where they would be staged; a refusal writes nothing. A new bar window of a BARRED partner is told to RADIO. -/
def Obligations.PartnerSetRedefines : Prop :=
  ∀ (h : Header) (d : PartnerDef) (kind : PartnerKind) (plan : PlanId) (i : Nat) (p : Partner) (s : State), s.ready →
    s.hears h .partnerSet .purser → d.kind = some kind → d.plan = plan.val → d.code ≤ 99999 → d.barWindow ≤ 600 →
    -500 ≤ d.adjustment → d.adjustment ≤ 1000 → d.exposure ≤ 9999999999999999 → d.initialStep ≤ 999999999999 →
    d.topUpStep ≤ 999999999999 → d.lowWater ≤ 999999999999 → s.partnerByCode d.code = some (i, p) →
    let entry : Prop := ∃ q a o, Revision.partner i q a o ∈ s.tariff.revisions
    let immediate : Partner := { p with kind := kind, barWindow := d.barWindow, exposure := d.exposure,
                                        initialStep := d.initialStep, topUpStep := d.topUpStep, lowWater := d.lowWater }
    let windowNotice : List Notice := if p.status = .barred ∧ d.barWindow ≠ p.barWindow then
        [.partnerStatus p.code .barred (p.barTime.map fun b => min (b + d.barWindow * 1000) 1099511627775)] else []
    let written (q : Partner) (rs : List Revision) (staged : Nat) : Outcome :=
      answered h .partnerSet .ok [.u8 i, .u8 staged, .u8 rs.length] s
        { s with tariff := { s.tariff with partners := Table.set s.tariff.partners i q, revisions := rs } } windowNotice
    let same : Prop := plan = p.plan ∧ d.adjustment = p.adjustment
    (kind ≠ p.kind → 0 < p.present → exec (.partnerSet h d) s = refused h .partnerSet .inUse s)
    ∧ ((kind = p.kind ∨ p.present = 0) →
      (entry → s.cutPos.isSome = true → exec (.partnerSet h d) s = refused h .partnerSet .busy s)
      ∧ (entry → s.cutPos = none →
          exec (.partnerSet h d) s = written immediate (s.tariff.revisions.map fun r => match r with
            | .partner j q a o => if j = i then .partner i plan d.adjustment o else .partner j q a o
            | r => r) 1)
      ∧ (¬ entry → same → exec (.partnerSet h d) s = written immediate s.tariff.revisions 0)
      ∧ (¬ entry → ¬ same → p.sessions = 0 →
          exec (.partnerSet h d) s =
            written { immediate with plan := plan, adjustment := d.adjustment } s.tariff.revisions 0)
      ∧ (¬ entry → ¬ same → 0 < p.sessions → (s.cutPos.isSome = true ∨ 16 ≤ s.tariff.revisions.length) →
          exec (.partnerSet h d) s = refused h .partnerSet .busy s)
      ∧ (¬ entry → ¬ same → 0 < p.sessions → s.cutPos = none → s.tariff.revisions.length < 16 →
          exec (.partnerSet h d) s =
            written immediate (s.tariff.revisions ++ [.partner i plan d.adjustment none]) 1))

/-- R4, R11: a PARTNER_SET with a code above 99,999 or any field outside the ranges of Table 1-1, and a RATE_SET out of
range in any case that R11 lists, answer BAD_VALUE and change nothing. -/
def Obligations.TariffRangesEnforced : Prop :=
  (∀ (h : Header) (d : PartnerDef) (s : State), s.ready → s.hears h .partnerSet .purser →
      (99999 < d.code ∨ d.kind = none ∨ 600 < d.barWindow ∨ 31 < d.plan ∨ d.adjustment < -500 ∨ 1000 < d.adjustment
        ∨ 9999999999999999 < d.exposure ∨ 999999999999 < d.initialStep ∨ 999999999999 < d.topUpStep
        ∨ 999999999999 < d.lowWater) →
      exec (.partnerSet h d) s = refused h .partnerSet .badValue s)
  ∧ (∀ (h : Header) (r : RateDef) (s : State), s.ready → s.hears h .rateSet .purser →
      (31 < r.plan ∨ r.zoneClass = none ∨ r.cls = none ∨ r.cls = some .emergency ∨ r.rounding = none
        ∨ (r.cls = some .voice ∧ (r.blockSize < 1 ∨ 3600 < r.blockSize))
        ∨ (r.cls = some .data ∧ (r.blockSize < 1024 ∨ 1048576 < r.blockSize ∨ r.blockSize % 1024 ≠ 0))
        ∨ (r.cls = some .message ∧ (r.blockSize ≠ 1 ∨ r.rounding = some .prorata ∨ 0 < r.minimum))
        ∨ 10000000 < r.price ∨ 15 < r.minimum) →
      exec (.rateSet h r) s = refused h .rateSet .badValue s)

/-- R7, R8, R9: PARTNER_STATUS writes a new status with its bar time and tells RADIO; the status held already is ALREADY.
PARTNER_REMOVE frees the slot of a partner without present subscribers and without a closed total, with its code and its
revision entry; one with either is IN_USE. An unheld code is unknown, and values out of range are BAD_VALUE. The optional
bar time and deadline are laid out as the model reads R186 (log entry 16), and that ALREADY carries the fields of OK is its
reading too (log entry 17). R177, Table 10-3: of this notice and of every other, one copy goes to each client in use that
has a bound address and a role the notice is addressed to, in the order of the client table, and to nobody else; the copies
of one notice stand together. -/
def Obligations.PartnerStatusAndRemove : Prop :=
  (∀ (h : Header) (code : Nat) (st : PartnerStatus) (s : State), s.ready → s.hears h .partnerStatus .purser →
      code ≤ 99999 →
      (∀ i p, s.partnerByCode code = some (i, p) → st ≠ p.status →
        let barTime := if st = .barred then some s.time.clock else none
        exec (.partnerStatus h code (some st)) s =
          answered h .partnerStatus .ok
            [.u8 i, .u8 st.code, .u8 (if st = .barred then 1 else 0), .u64 (barTime.getD 0)] s
            { s with tariff := { s.tariff with
                partners := Table.set s.tariff.partners i { p with status := st, barTime := barTime } } }
            [.partnerStatus p.code st (barTime.map fun b => min (b + p.barWindow * 1000) 1099511627775)])
      ∧ (∀ i p, s.partnerByCode code = some (i, p) → st = p.status →
        exec (.partnerStatus h code (some st)) s =
          answered h .partnerStatus .already
            [.u8 i, .u8 st.code, .u8 (if p.barTime.isSome then 1 else 0), .u64 (p.barTime.getD 0)] s s)
      ∧ ((∀ p ∈ s.tariff.partners, p.2.code ≠ code) →
        exec (.partnerStatus h code (some st)) s = refused h .partnerStatus .unknownPartner s)
      ∧ exec (.partnerStatus h code none) s = refused h .partnerStatus .badValue s
      ∧ ∀ big, 99999 < big → exec (.partnerStatus h big (some st)) s = refused h .partnerStatus .badValue s)
  ∧ (∀ (h : Header) (code : Nat) (s : State), s.ready → s.hears h .partnerRemove .purser → code ≤ 99999 →
      (∀ i p, s.partnerByCode code = some (i, p) →
        (p.present = 0 → p.closedTotal = 0 →
          exec (.partnerRemove h code) s = answered h .partnerRemove .ok [.u8 i] s
            { s with tariff := { s.tariff with
                partners := Table.erase s.tariff.partners i
                codes := s.tariff.codes.filter (· ≠ code)
                revisions := s.tariff.revisions.filter fun r => match r with
                  | .partner j _ _ _ => j ≠ i
                  | .cell .. => true } })
        ∧ ((0 < p.present ∨ p.closedTotal ≠ 0) →
          exec (.partnerRemove h code) s = refused h .partnerRemove .inUse s))
      ∧ ((∀ p ∈ s.tariff.partners, p.2.code ≠ code) →
        exec (.partnerRemove h code) s = refused h .partnerRemove .unknownPartner s)
      ∧ ∀ big, 99999 < big → exec (.partnerRemove h big) s = refused h .partnerRemove .badValue s)
  ∧ (∀ (n : Notice) (s : State),
      let addressed : List Role := match n with
        | .blocked .. | .unblocked .. | .sessionClosed .. | .stranded .. | .partnerStatus .. | .silence .. => [.radio]
        | .moveBatch .. | .batchAbandoned .. => [.router]
        | .creditAsk .. | .askCancel .. | .creditReturn .. => [.gateway]
        | .orderEnded .. | .linkState .. => [.router, .purser]
        | .zoneChanged .. => [.radio, .router, .purser]
      (∀ f, f ∈ s.told [n] ↔ ∃ k c a, (k, c) ∈ s.port.clients ∧ c.address = some a ∧ c.role ∈ addressed
        ∧ f = { dst := a, etherType := s.settings.etherType, client := k, kind := n.code, tag := 0, result := .ok,
                seconds := s.time.clock / 1000, body := n.body })
      ∧ ((s.told [n]).map OutFrame.client).Sublist (s.port.clients.map Prod.fst)
      ∧ ∀ before after, s.told (before ++ n :: after) = s.told before ++ s.told [n] ++ s.told after)
  ∧ ∀ (code : Nat) (st : PartnerStatus) (d : Option Nat),
      (Notice.partnerStatus code st d).code = 0x4006
      ∧ (Notice.partnerStatus code st d).body =
          [.u32 code, .u8 st.code, .u8 (if d.isSome then 1 else 0), .u64 (d.getD 0)]

/-- R12 and R10: the disposition of a valid RATE_SET, decided in the order of the rule, for the cell of its plan, zone
class and class. -/
def Obligations.RateSetDisposition : Prop :=
  ∀ (h : Header) (r : RateDef) (z : ZoneClass) (c : TrafficClass) (rd : Rounding) (plan : PlanId) (col : Nat) (s : State),
    s.ready → s.hears h .rateSet .purser → r.zoneClass = some z → r.cls = some c → r.rounding = some rd →
    r.plan = plan.val → ((c = .voice ∧ col = 0 ∧ 1 ≤ r.blockSize ∧ r.blockSize ≤ 3600)
      ∨ (c = .data ∧ col = 1 ∧ 1024 ≤ r.blockSize ∧ r.blockSize ≤ 1048576 ∧ r.blockSize % 1024 = 0)
      ∨ (c = .message ∧ col = 2 ∧ r.blockSize = 1 ∧ rd = .whole ∧ r.minimum = 0)) →
    r.price ≤ 10000000 → r.minimum ≤ 15 →
    let i := plan.val * 12 + z.code * 3 + col
    let cell : Cell := ⟨r.blockSize, r.price, rd, r.minimum⟩
    let entry : Prop := ∃ v o, Revision.cell i v o ∈ s.tariff.revisions
    let staged (rs : List Revision) : Outcome :=
      answered h .rateSet .ok [.u16 i, .u8 1, .u8 rs.length] s { s with tariff := { s.tariff with revisions := rs } }
    (s.cutPos.isSome = true → exec (.rateSet h r) s = refused h .rateSet .busy s)
    ∧ (s.cutPos = none → entry →
        exec (.rateSet h r) s = staged (s.tariff.revisions.map fun e => match e with
          | .cell j v o => if j = i then .cell i cell o else .cell j v o
          | e => e))
    ∧ (s.cutPos = none → ¬ entry → s.tariff.planUse[plan] = 0 →
        exec (.rateSet h r) s = answered h .rateSet .ok [.u16 i, .u8 0, .u8 s.tariff.revisions.length] s
          { s with tariff := { s.tariff with cells := Table.set s.tariff.cells i cell } })
    ∧ (s.cutPos = none → ¬ entry → 0 < s.tariff.planUse[plan] → 16 ≤ s.tariff.revisions.length →
        exec (.rateSet h r) s = refused h .rateSet .busy s)
    ∧ (s.cutPos = none → ¬ entry → 0 < s.tariff.planUse[plan] → s.tariff.revisions.length < 16 →
        exec (.rateSet h r) s = staged (s.tariff.revisions ++ [.cell i cell none]))

/-- R15, R10, R13: EPOCH_CUT. While the cut pass runs it is BUSY. Otherwise the epoch advances by one, wrapping, the old
epoch and its zone class are kept, every staged entry is applied, with the live values it replaces as its old values,
the plan use counts go on agreeing with the partners, and the cut pass starts at handle 0. -/
def Obligations.EpochCutOpensEpoch : Prop :=
  ∀ (h : Header) (s : State), s.ready → s.hears h .epochCut .purser →
    (s.cutPos.isSome = true → exec (.epochCut h) s = refused h .epochCut .busy s)
    ∧ (s.cutPos = none → (s.tariff.revisions.map Revision.target).Nodup →
      ∃ t : State, exec (.epochCut h) s = answered h .epochCut .ok
          [.u16 (s.tariff.epoch + 1).toNat, .u8 s.tariff.revisions.length] s t
        ∧ t = { s with tariff := t.tariff, cutPos := some 0 }
        ∧ t.tariff.epoch = s.tariff.epoch + 1 ∧ t.tariff.codes = s.tariff.codes
        ∧ t.tariff.previous = some ⟨s.tariff.epoch,
            match s.zone.effective with | none => .restricted | some z => (s.zoneAt z).cls⟩
        ∧ t.tariff.revisions = s.tariff.revisions.map (fun r => match r with
            | .cell i new _ => .cell i new
                (some ((Table.get s.tariff.cells i).getD ⟨if i % 3 = 1 then 1024 else 1, 0, .whole, 0⟩))
            | .partner i plan adjustment old => .partner i plan adjustment
                (match s.par i with | some p => some (p.plan, p.adjustment) | none => old))
        ∧ (∀ i new old, Revision.cell i new old ∈ s.tariff.revisions → Table.get t.tariff.cells i = some new)
        ∧ (∀ i, (∀ new old, Revision.cell i new old ∉ s.tariff.revisions) →
            Table.get t.tariff.cells i = Table.get s.tariff.cells i)
        ∧ (∀ i plan a old, Revision.partner i plan a old ∈ s.tariff.revisions →
            t.par i = (s.par i).map fun p => { p with plan := plan, adjustment := a })
        ∧ (∀ i, (∀ plan a old, Revision.partner i plan a old ∉ s.tariff.revisions) → t.par i = s.par i)
        ∧ (PlanUse s → PlanUse t))

/-- R98, R100, R101: READ_PARTNER of the SINGLE form, and the settlement. Both answer every field of R98; the settlement
first records the closed account under the next settlement number, and then returns it to 0; it is reserved to
PURSER. The layout of the optional fields and the exposure flag of a partner without a limit are the model's reading (log
entries 16 and 20). -/
def Obligations.ReadPartnerAndSettlement : Prop :=
  ∀ (h : Header) (code i : Nat) (p : Partner) (r : Role) (s : State), s.ready → s.hears h .readPartner r →
    code ≤ 99999 → s.partnerByCode code = some (i, p) →
    let deadline := if p.status = .barred then p.barTime.map (fun b => min (b + p.barWindow * 1000) 1099511627775) else none
    let flag (b : Prop) [Decidable b] : Field := .u8 (if b then 1 else 0)
    let money (b : Subtotals) : List Field := [.u64 b.port, .u64 b.coastal, .u64 b.openSea, .u64 b.restricted]
    let fields (number : Nat) (record : Option Settlement) : List Field :=
      [.u32 p.code, .u8 i, .u8 p.kind.code, .u8 p.status.code, flag (p.barTime.isSome = true), .u64 (p.barTime.getD 0),
        flag (deadline.isSome = true), .u64 (deadline.getD 0), .u16 p.barWindow, .u8 p.plan.val,
        .u16 (p.adjustment % 65536).toNat, flag (Revision.targetsPartner i s.tariff.revisions), .u64 p.exposure,
        flag (p.exposure ≠ 0 ∧ p.exposure ≤ p.openTotal), .u64 p.initialStep, .u64 p.topUpStep, .u64 p.lowWater,
        .u64 p.openTotal, .u64 p.closedTotal] ++ money p.closedSub ++ [.u16 p.present, .u16 number,
        flag (record.isSome = true), .u64 ((record.map Settlement.time).getD 0),
        .u64 ((record.map Settlement.total).getD 0)] ++ money ((record.map Settlement.sub).getD ⟨0, 0, 0, 0⟩)
    let number := if p.settleNumber < 65535 then p.settleNumber + 1 else 1
    let record : Settlement := ⟨s.time.clock, p.closedTotal, p.closedSub⟩
    exec (.readPartner h (some code)) s = answered h .readPartner .ok (fields p.settleNumber p.settled) s s
    ∧ (r = .purser → exec (.settlement h code) s = answered h .readPartner .ok (fields number (some record)) s
        { s with tariff := { s.tariff with
            partners := Table.set s.tariff.partners i
              { p with settleNumber := number, settled := some record, closedTotal := 0, closedSub := ⟨0, 0, 0, 0⟩ } } })
    ∧ (r ≠ .purser → exec (.settlement h code) s = refused h .readPartner .notPermitted s)

/-- R99 and R98: READ_PARTNER of the LIST form walks the ordered list from a starting code, up to 16 partners, and tells
where to go on; and the refusals of READ_PARTNER. The layout of the body, its entries without a count, then the number of
partners, then a flag and a code that is 0 when the walk is done, is the model's reading (log entry 16). -/
def Obligations.ReadPartnerListWalk : Prop :=
  ∀ (h : Header) (start : Nat) (r : Role) (s : State), s.ready → s.hears h .readPartner r →
    (start ≤ 99999 → ∃ codes rest : List Nat,
      s.tariff.codes.filter (fun c => decide (start ≤ c)) = codes ++ rest ∧ codes.length ≤ 16
      ∧ (rest ≠ [] → codes.length = 16)
      ∧ exec (.readPartnerList h start false) s = answered h .readPartner .ok
          ((codes.flatMap fun c => match s.partnerByCode c with
              | none => []
              | some (i, p) => [Field.u32 p.code, .u8 i, .u8 p.kind.code, .u8 p.status.code, .u16 p.present,
                  .u64 p.openTotal, .u64 p.closedTotal])
            ++ [.u16 s.tariff.partners.length, .u8 (if rest = [] then 0 else 1), .u32 (rest.head?.getD 0)]) s s)
    ∧ exec (.readPartnerList h start true) s = refused h .readPartner .badValue s
    ∧ exec (.readPartner h none) s = refused h .readPartner .badValue s
    ∧ ∀ code, (99999 < code →
          exec (.readPartnerList h code false) s = refused h .readPartner .badValue s
          ∧ exec (.readPartner h (some code)) s = refused h .readPartner .badValue s)
        ∧ (code ≤ 99999 → (∀ p ∈ s.tariff.partners, p.2.code ≠ code) →
          exec (.readPartner h (some code)) s = refused h .readPartner .unknownPartner s)

/-! ### Subscriber contexts and credit (Chapters 2 and 5) -/

/-- R28, R29, R86: an ATTACH of an identity that is not present, under an ACTIVE partner below its exposure limit,
creates a context in the lowest absent way of its bucket; a HOME_ROAMING partner with an initial step asks GATEWAY for
it, after the response. -/
def Obligations.AttachCreatesContext : Prop :=
  ∀ (h : Header) (identity : Nat) (ref : BitVec 32) (i w : Nat) (p : Partner) (s : State), s.ready →
    s.hears h .attach .radio → s.zone.line = false → s.zone.flag = false → identity < 1000000000000000 →
    (∀ q ∈ s.subs.contexts, q.2.identity ≠ identity) → s.subs.gate = .opened →
    s.partnerByCode (identity / 10000000000) = some (i, p) → p.status = .active →
    (p.exposure = 0 ∨ p.openTotal < p.exposure) → w < 8 → s.ctx (identity % 509 * 8 + w) = none →
    (∀ v, v < w → s.ctx (identity % 509 * 8 + v) ≠ none) →
    let k := identity % 509 * 8 + w
    let asks := p.kind = .homeRoaming ∧ 0 < p.initialStep
    let deadline := min (s.time.clock + s.settings.askTimeout * 1000) 1099511627775
    let c : Context :=
      { identity := identity, partner := i, presence := .attached, pinned := false, attachTime := s.time.clock,
        dormancy := none, sessions := [], folio := 0, sub := ⟨0, 0, 0, 0⟩, granted := 0, consumed := 0,
        credit := .unfunded, ask := if asks then some ⟨1, deadline⟩ else none, lastAsk := if asks then 1 else 0,
        denied := false, lapsed := 0, ref := ref }
    exec (.attach h identity ref) s =
      answered h .attach .ok [.u16 k, .u8 0, .u8 0, .u8 i, .u8 0, .u32 ref.toNat] s
        { s with
          subs := { s.subs with contexts := Table.set s.subs.contexts k c }
          tariff := { s.tariff with partners := Table.set s.tariff.partners i { p with present := p.present + 1 } } }
        [] (if asks then [.creditAsk k identity p.code 1 p.initialStep deadline] else [])

/-- R26, R27, R28: an ATTACH of a present identity: an ATTACHED context is found ALREADY, and the reference carried is not
stored; a DORMANT one is attached again unless its partner is BARRED; no money, ask or count changes. And the ATTACH
requests that are refused, in the order of the checks; none of them changes anything. -/
def Obligations.AttachFindsOrRefuses : Prop :=
  (∀ (h : Header) (identity : Nat) (ref : BitVec 32) (k : Nat) (c : Context) (p : Partner) (s : State), s.ready →
      s.hears h .attach .radio → identity < 1000000000000000 → s.findIdentity identity = some k → s.ctx k = some c →
      c.identity = identity → s.par c.partner = some p →
      let fields (presence : Nat) (ref : BitVec 32) : List Field :=
        [.u16 k, .u8 presence, .u8 (if c.pinned then 1 else 0), .u8 c.partner, .u8 c.credit.code, .u32 ref.toNat]
      let was := if c.presence = .attached then 0 else 1
      (s.silent = true → exec (.attach h identity ref) s = answered h .attach .silent (fields was c.ref) s s)
      ∧ (s.silent = false → c.presence = .attached →
          exec (.attach h identity ref) s = answered h .attach .already (fields 0 c.ref) s s)
      ∧ (s.silent = false → c.presence = .dormant → p.status = .barred →
          exec (.attach h identity ref) s = answered h .attach .partnerBarred (fields 1 c.ref) s s)
      ∧ (s.silent = false → c.presence = .dormant → p.status ≠ .barred →
          exec (.attach h identity ref) s = answered h .attach .already (fields 0 ref) s
            { s with subs := { s.subs with
                contexts := Table.set s.subs.contexts k
                  { c with presence := .attached, dormancy := none, attachTime := s.time.clock, ref := ref } } }))
  ∧ (∀ (h : Header) (identity : Nat) (ref : BitVec 32) (s : State), s.ready → s.hears h .attach .radio →
      (s.silent = false → 1000000000000000 ≤ identity →
        exec (.attach h identity ref) s = refused h .attach .badValue s)
      ∧ ((∀ q ∈ s.subs.contexts, q.2.identity ≠ identity) →
        (s.silent = true → exec (.attach h identity ref) s = refused h .attach .silent s)
        ∧ (s.silent = false → identity < 1000000000000000 →
          (s.subs.gate = .held → exec (.attach h identity ref) s = refused h .attach .gateHeld s)
          ∧ (s.subs.gate = .opened →
            ((∀ p ∈ s.tariff.partners, p.2.code ≠ identity / 10000000000) →
              exec (.attach h identity ref) s = refused h .attach .unknownPartner s)
            ∧ ∀ i p, s.partnerByCode (identity / 10000000000) = some (i, p) →
              (p.status = .suspended → exec (.attach h identity ref) s = refused h .attach .partnerSuspended s)
              ∧ (p.status = .barred → exec (.attach h identity ref) s = refused h .attach .partnerBarred s)
              ∧ (p.status = .active → p.exposure ≠ 0 → p.exposure ≤ p.openTotal →
                exec (.attach h identity ref) s = refused h .attach .exposureLimit s)
              ∧ (p.status = .active → (p.exposure = 0 ∨ p.openTotal < p.exposure) →
                (∀ v, v < 8 → s.ctx (identity % 509 * 8 + v) ≠ none) →
                exec (.attach h identity ref) s = refused h .attach .bucketFull s)))))

/-- R32, R33: DETACH. An ATTACHED context becomes DORMANT with its deadline and every session it lists is closed; other
contexts and sessions stay as they are, and nothing is asked of GATEWAY. A DORMANT context answers ALREADY, and a handle
that names none answers UNKNOWN_HANDLE. That ALREADY carries the fields of OK is the model's reading (log entry 17). -/
def Obligations.DetachClosesSessions : Prop :=
  ∀ (h : Header) (k : Nat) (s : State), s.ready → s.hears h .detach .radio →
    ((4071 < k ∨ s.ctx k = none) → exec (.detach h k) s = refused h .detach .unknownHandle s)
    ∧ (∀ c, k ≤ 4071 → s.ctx k = some c → c.presence = .dormant →
      exec (.detach h k) s = answered h .detach .already [.u16 k, .u8 0, .u64 c.folio, .u64 (c.dormancy.getD 0)] s s)
    ∧ (∀ c, k ≤ 4071 → s.ctx k = some c → c.presence = .attached → Listed s →
      let deadline := min (s.time.clock + s.settings.dormancy * 1000) 1099511627775
      ∃ (t : State) (c' : Context) (ns : List Notice),
        exec (.detach h k) s = answered h .detach .ok
          [.u16 k, .u8 c.sessions.length, .u64 c'.folio, .u64 deadline] s t ns []
        ∧ t.ctx k = some c' ∧ c'.presence = .dormant ∧ c'.dormancy = some deadline ∧ c'.sessions = []
        ∧ c' = { c with
            presence := .dormant, dormancy := some deadline, sessions := [], folio := c'.folio, sub := c'.sub,
            consumed := c'.consumed, credit := c'.credit }
        ∧ (∀ n ∈ c.sessions, t.ses n = none) ∧ (∀ n, n ∉ c.sessions → t.ses n = s.ses n)
        ∧ (∀ j, j ≠ k → t.ctx j = s.ctx j))

/-- R25: GATE_SET puts the admission gate where it is wanted, and answers ALREADY where it stands there. R37, R38: PIN and
UNPIN set and clear the pinned flag and keep the pinned count; a flag that stands already answers ALREADY, a sixty-fifth
pin PIN_LIMIT, and a handle or identity that names no context UNKNOWN_HANDLE. Values out of range are BAD_VALUE. -/
def Obligations.GateAndPins : Prop :=
  (∀ (h : Header) (g : Gate) (s : State), s.ready → s.hears h .gateSet .purser →
      (g ≠ s.subs.gate → exec (.gateSet h (some g)) s =
        answered h .gateSet .ok [.u8 g.code] s { s with subs := { s.subs with gate := g } })
      ∧ (g = s.subs.gate → exec (.gateSet h (some g)) s = answered h .gateSet .already [.u8 g.code] s s)
      ∧ exec (.gateSet h none) s = refused h .gateSet .badValue s)
  ∧ (∀ (h h' : Header) (k identity : Nat) (s : State), s.ready → s.hears h .pin .purser → s.hears h' .unpin .purser →
      (1000000000000000 ≤ identity →
        exec (.pin h k identity) s = refused h .pin .badValue s
        ∧ exec (.unpin h' k identity) s = refused h' .unpin .badValue s)
      ∧ (identity < 1000000000000000 → (∀ c, k ≤ 4071 → s.ctx k = some c → c.identity ≠ identity) →
        exec (.pin h k identity) s = refused h .pin .unknownHandle s
        ∧ exec (.unpin h' k identity) s = refused h' .unpin .unknownHandle s)
      ∧ (∀ c, identity < 1000000000000000 → k ≤ 4071 → s.ctx k = some c → c.identity = identity →
        let stands (b : Bool) (n : Nat) : State :=
          { s with subs := { s.subs with contexts := Table.set s.subs.contexts k { c with pinned := b }, pinned := n } }
        (c.pinned = true →
          exec (.pin h k identity) s = answered h .pin .already [.u8 s.subs.pinned] s s
          ∧ exec (.unpin h' k identity) s =
              answered h' .unpin .ok [.u8 (s.subs.pinned - 1)] s (stands false (s.subs.pinned - 1)))
        ∧ (c.pinned = false →
          exec (.unpin h' k identity) s = answered h' .unpin .already [.u8 s.subs.pinned] s s
          ∧ (64 ≤ s.subs.pinned → exec (.pin h k identity) s = refused h .pin .pinLimit s)
          ∧ (s.subs.pinned < 64 → exec (.pin h k identity) s =
              answered h .pin .ok [.u8 (s.subs.pinned + 1)] s (stands true (s.subs.pinned + 1))))))

/-- R35, R36, R94, R95: RETIRE folds the folio of an unpinned context without sessions into its partner's closed
account, as far as the headroom allows, frees the slot, and after the response cancels its ask and returns what is left
of a HOME_ROAMING context's credit; and the requests it refuses. -/
def Obligations.RetireFoldsContext : Prop :=
  ∀ (h : Header) (k identity : Nat) (s : State), s.ready → s.hears h .retire .purser →
    (1000000000000000 ≤ identity → exec (.retire h k identity) s = refused h .retire .badValue s)
    ∧ (identity < 1000000000000000 → (∀ c, k ≤ 4071 → s.ctx k = some c → c.identity ≠ identity) →
      exec (.retire h k identity) s = refused h .retire .unknownHandle s)
    ∧ (∀ c, identity < 1000000000000000 → k ≤ 4071 → s.ctx k = some c → c.identity = identity →
      (c.pinned = true → exec (.retire h k identity) s = refused h .retire .pinned s)
      ∧ (c.pinned = false → c.sessions ≠ [] → exec (.retire h k identity) s = refused h .retire .sessionsOpen s)
      ∧ (c.pinned = false → c.sessions = [] → ∀ p, s.par c.partner = some p →
        exec (.retire h k identity) s =
          answered h .retire .ok [.u64 c.folio, .u64 (returnedCredit c p)] s (s.retired k c p) [] (farewell k c p)))

/-- R88 to R91: a GRANT of an amount above 0, answering the outstanding ask or unsolicited, raises the granted credit up
to its ceiling, clears the denied flag, funds the context when the credit passes what is consumed, and then unblocks the
sessions of a context that was EXHAUSTED, with one UNBLOCKED notice. -/
def Obligations.GrantAddsCredit : Prop :=
  ∀ (h : Header) (k n amount : Nat) (r : Role) (c : Context) (p : Partner) (s : State), s.ready → s.hears h .grant r →
    k ≤ 4071 → s.ctx k = some c → c.identity < 1000000000000000 → 0 < amount → amount ≤ 999999999999 →
    s.par c.partner = some p → ((r = .gateway ∧ p.kind = .homeRoaming) ∨ (r = .purser ∧ n = 0)) →
    (n = 0 ∨ ∃ d, c.ask = some ⟨n, d⟩) → c.sessions.Nodup →
    let g := min (c.granted + amount) 999999999999
    let credit := if c.consumed < g then CreditState.funded else c.credit
    let wakes := c.credit = .exhausted ∧ c.consumed < g
    let woken := c.sessions.filter fun m => (s.ses m).any fun x => x.service == .blocked
    ∃ t : State,
      exec (.grant h k c.identity n amount) s =
        answered h .grant (if 999999999999 < c.granted + amount then .okClamped else .ok)
          [.u16 k, .u64 c.identity, .u8 n, .u64 (g - c.granted), .u64 g, .u64 c.consumed, .u64 (g - c.consumed),
            .u8 credit.code, .u8 0] s t
          (if wakes then [.unblocked k c.ref g c.consumed woken] else [])
      ∧ t = { s with
          sess := { s.sess with records := t.sess.records }
          subs := { s.subs with
            contexts := Table.set s.subs.contexts k { c with granted := g, credit := credit, denied := false, ask := if n = 0 then c.ask else none } } }
      ∧ ∀ m, t.ses m = (s.ses m).map fun x => if wakes ∧ m ∈ c.sessions ∧ x.service = .blocked then
          { x with service := .active } else x

/-- R88, R89, R90: a GRANT of 0 denies the ask it answers, or, unsolicited, only clears the denied flag; and the GRANT
requests that are refused. -/
def Obligations.GrantDenialsAndRefusals : Prop :=
  ∀ (h : Header) (k identity n amount : Nat) (r : Role) (s : State), s.ready → s.hears h .grant r →
    (r = .purser ∨ r = .gateway) →
    (4071 < k → exec (.grant h k identity n amount) s = refused h .grant .unknownHandle s)
    ∧ (k ≤ 4071 → (1000000000000000 ≤ identity ∨ 999999999999 < amount ∨ (r = .purser ∧ n ≠ 0)) →
      exec (.grant h k identity n amount) s = refused h .grant .badValue s)
    ∧ (k ≤ 4071 → identity < 1000000000000000 → amount ≤ 999999999999 → (r = .gateway ∨ n = 0) →
      ((∀ c, s.ctx k = some c → c.identity ≠ identity) →
        exec (.grant h k identity n amount) s = refused h .grant .late s)
      ∧ ∀ c p, s.ctx k = some c → c.identity = identity → s.par c.partner = some p →
        (r = .gateway → p.kind = .shipPlan → exec (.grant h k identity n amount) s = refused h .grant .notPermitted s)
        ∧ (r = .gateway → p.kind = .homeRoaming → n ≠ 0 → (∀ d, c.ask ≠ some ⟨n, d⟩) →
          exec (.grant h k identity n amount) s = refused h .grant .late s)
        ∧ ((r = .purser ∨ p.kind = .homeRoaming) → amount = 0 → c.granted ≤ 999999999999 →
          let answer (denied : Bool) (ask : Option Ask) : Outcome :=
            answered h .grant .ok [.u16 k, .u64 identity, .u8 n, .u64 0, .u64 c.granted, .u64 c.consumed,
                .u64 (c.granted - c.consumed), .u8 c.credit.code, .u8 (if denied then 1 else 0)] s
              { s with subs := { s.subs with
                  contexts := Table.set s.subs.contexts k { c with denied := denied, ask := ask } } }
          (n = 0 → exec (.grant h k identity n amount) s = answer false c.ask)
          ∧ (n ≠ 0 → (∃ d, c.ask = some ⟨n, d⟩) → exec (.grant h k identity n amount) s = answer true none)))

/-- R30: LOOKUP finds a present identity and answers its handle, state, pinned flag, partner index, credit state and
RADIO reference, whatever the silence, the gate or the partner's status; it changes nothing, and only RADIO may send it. -/
def Obligations.LookupFindsIdentity : Prop :=
  ∀ (h : Header) (identity : Nat) (s : State), s.ready →
    (s.hears h .lookup .radio →
      (1000000000000000 ≤ identity → exec (.lookup h identity) s = refused h .lookup .badValue s)
      ∧ (identity < 1000000000000000 → (∀ q ∈ s.subs.contexts, q.2.identity ≠ identity) →
        exec (.lookup h identity) s = refused h .lookup .unknownHandle s)
      ∧ (∀ k c, identity < 1000000000000000 → s.ctx k = some c → c.identity = identity → k / 8 = identity % 509 →
        (∀ j c', s.ctx j = some c' → c'.identity = identity → j = k) →
        exec (.lookup h identity) s = answered h .lookup .ok
          [.u16 k, .u8 (if c.presence = .attached then 0 else 1), .u8 (if c.pinned then 1 else 0), .u8 c.partner,
            .u8 c.credit.code, .u32 c.ref.toNat] s s))
    ∧ ∀ r, r ≠ .radio → s.knows h r → exec (.lookup h identity) s = refused h .lookup .notPermitted s

/-- R31, R97: READ_CONTEXT and READ_FOLIO answer every field their rules list for the context named, by handle or by
identity, to any role, and change nothing; and what they refuse. The layout of the optional dormancy deadline and ask and of
the session lists is the model's reading (log entry 16). -/
def Obligations.ContextReads : Prop :=
  ∀ (h h' : Header) (ref : Option ContextRef) (r : Role) (s : State), s.ready → s.hears h .readContext r →
    s.hears h' .readFolio r →
    ((ref = none ∨ ∃ i, ref = some (.byIdentity i) ∧ 1000000000000000 ≤ i) →
      exec (.readContext h ref) s = refused h .readContext .badValue s
      ∧ exec (.readFolio h' ref) s = refused h' .readFolio .badValue s)
    ∧ (((∃ j, ref = some (.byHandle j) ∧ (4071 < j ∨ s.ctx j = none))
          ∨ ∃ i, ref = some (.byIdentity i) ∧ i < 1000000000000000 ∧ ∀ q ∈ s.subs.contexts, q.2.identity ≠ i) →
      exec (.readContext h ref) s = refused h .readContext .unknownHandle s
      ∧ exec (.readFolio h' ref) s = refused h' .readFolio .unknownHandle s)
    ∧ ∀ k c p, s.ctx k = some c → s.par c.partner = some p →
      ((ref = some (.byHandle k) ∧ k ≤ 4071)
        ∨ (ref = some (.byIdentity c.identity) ∧ c.identity < 1000000000000000 ∧ k / 8 = c.identity % 509
            ∧ ∀ j c', s.ctx j = some c' → c'.identity = c.identity → j = k)) →
      exec (.readContext h ref) s = answered h .readContext .ok
        ([.u16 k, .u64 c.identity, .u8 c.partner, .u32 p.code, .u8 (if c.presence = .attached then 0 else 1),
            .u8 (if c.pinned then 1 else 0), .u64 c.attachTime, .u8 (if c.dormancy.isSome then 1 else 0),
            .u64 (c.dormancy.getD 0), .u8 c.sessions.length] ++ c.sessions.map .u16
          ++ [.u64 c.granted, .u64 c.consumed, .u64 (c.granted - c.consumed), .u8 c.credit.code,
            .u8 (if c.denied then 1 else 0), .u8 c.lapsed, .u8 (if c.ask.isSome then 1 else 0),
            .u8 ((c.ask.map Ask.number).getD 0), .u64 ((c.ask.map Ask.deadline).getD 0), .u32 c.ref.toNat]) s s
      ∧ exec (.readFolio h' ref) s = answered h' .readFolio .ok
        ([.u16 k, .u64 c.identity, .u8 c.partner, .u32 p.code, .u64 c.folio, .u64 c.sub.port, .u64 c.sub.coastal,
            .u64 c.sub.openSea, .u64 c.sub.restricted, .u64 c.granted, .u64 c.consumed, .u64 (c.granted - c.consumed),
            .u8 c.credit.code, .u8 c.sessions.length]
          ++ c.sessions.flatMap fun n => match s.ses n with
            | none => []
            | some x => [.u16 n, .u8 x.cls.code, .u8 x.service.code, .u64 x.charge, .u32 x.residue, .u16 x.carry]) s s

/-! ### Rating (Chapter 4) -/

/-- R61 to R64, R66 to R69, R75, R76: a USAGE entry for a VOICE, DATA or MESSAGE session of the current epoch forms its
units, clamps them, counts the bytes of DATA on the link the session is counted on, stamps the time, and charges whole
blocks, or messages, at the price and factor in force, in thousandths with the carry. A session of the previous epoch gets
its epoch cut first (UsageAndCutPassCommute). -/
def Obligations.UsageRatesEntry : Prop :=
  ∀ (h : Header) (e : UsageEntry) (x : Session) (c : Context) (p : Partner) (s : State), s.ready →
    s.hears h .usage .meter → h.length = 14 → e.session ≤ 8191 → s.ses e.session = some x → x.cls ≠ .emergency →
    s.inPrevious x = false → s.ctx x.subscriber = some c → s.par c.partner = some p →
    let units := if x.cls = .data then e.a + e.b else e.a
    let most := if x.cls = .data then 1073741824 else if x.cls = .voice then 86400 else 65535
    let u := min units most
    let clamped := most < units
    let cell := s.cellValues p.plan s.effectiveClass x.cls
    let total := x.residue + u
    let blocks := if x.cls = .message then u else total / cell.blockSize
    let thousandths := blocks * cell.price * s.factor x.cls x.binding p.adjustment + x.carry
    let k := thousandths / 1000
    let y : Session := { x with
      residue := if x.cls = .message then x.residue else total - blocks * cell.blockSize
      carry := thousandths % 1000
      blocks := min (x.blocks + blocks) 4294967295
      lastUsage := s.time.clock
      clamped := if clamped then min (x.clamped + 1) 255 else x.clamped
      uncertain := if e.uncertain then min (x.uncertain + 1) 255 else x.uncertain }
    let outcome := if x.service = .blocked then 2 else if clamped then 1 else 0
    let s1 : State := match x.binding.countedOn with
      | some l => if x.cls = .data then
          s.modLink l fun v => { v with accumulator := min (v.accumulator + u) 18446744073709551615 } else s
      | none => s
    ∃ (t : State) (blocked asked : List Notice),
      exec (.usage h 1 [e]) s =
        answered h .usage .ok [.u16 1, .u8 outcome, .u8 0, .u16 0, .u64 (min k (999999999999 - c.folio))] s t blocked asked
      ∧ Charges e.session y s.effectiveClass k s1 t blocked asked

/-- R60, R61 step 1, R65, R62: an entry that finds no open session changes nothing; an entry for an EMERGENCY session of
the current epoch is FREE and only counts its bytes and stamps the time; the USAGE requests that are refused process no
entry; and the entries of one request are resolved one after the other, first to last: all of the state but the port is
as after a USAGE of the first entry and then one of the others. -/
def Obligations.UsageFreeAndInTurn : Prop :=
  (∀ (h : Header) (s : State), s.ready → s.hears h .usage .meter →
      (∀ count es, h.length < 2 → exec (.usage h count es) s = refused h .usage .badLength s)
      ∧ (∀ count es, 2 ≤ h.length → (count = 0 ∨ 32 < count) →
          exec (.usage h count es) s = refused h .usage .badValue s)
      ∧ (∀ count es, 2 ≤ h.length → 0 < count → count ≤ 32 → h.length ≠ 2 + 12 * count →
          exec (.usage h count es) s = refused h .usage .badLength s)
      ∧ (∀ e, h.length = 14 → (8191 < e.session ∨ s.ses e.session = none) →
          exec (.usage h 1 [e]) s = answered h .usage .ok [.u16 1, .u8 4, .u8 0, .u16 0, .u64 0] s s)
      ∧ (∀ e x c p, h.length = 14 → e.session ≤ 8191 → s.ses e.session = some x → x.cls = .emergency →
          s.inPrevious x = false → s.ctx x.subscriber = some c → s.par c.partner = some p →
          let u := min (e.a + e.b) 1073741824
          let s1 : State := match x.binding.countedOn with
            | some l => s.modLink l fun v => { v with accumulator := min (v.accumulator + u) 18446744073709551615 }
            | none => s
          exec (.usage h 1 [e]) s = answered h .usage .ok [.u16 1, .u8 3, .u8 0, .u16 0, .u64 0] s
            { s1 with sess := { s1.sess with
              records := Table.set s1.sess.records e.session { x with
                lastUsage := s.time.clock
                clamped := if 1073741824 < e.a + e.b then min (x.clamped + 1) 255 else x.clamped
                uncertain := if e.uncertain then min (x.uncertain + 1) 255 else x.uncertain } } }))
  ∧ (∀ (h h1 h2 : Header) (e : UsageEntry) (es : List UsageEntry) (s : State), s.ready → s.hears h .usage .meter →
      s.hears h1 .usage .meter → s.hears h2 .usage .meter → es ≠ [] → es.length ≤ 31 →
      h.length = 14 + 12 * es.length → h1.length = 14 → h2.length = 2 + 12 * es.length →
      ∃ t1 t2 t, exec (.usage h1 1 [e]) s = .next t1 ∧ exec (.usage h2 es.length es) t1 = .next t2
        ∧ exec (.usage h (es.length + 1) (e :: es)) s = .next t ∧ t = { t2 with port := t.port })

/-- R79, R71, R70, R16, R81: a visit of the cut pass. A free record and a session of the current epoch are passed over; a
session of the previous epoch is cut pro rata at the previous values, with the surcharge of its present binding, and is
then in the current epoch. The position advances, and after handle 8,191 the pass ends: the revision list and the
previous values are dropped and the Zone Tracker has a release to take (recorded in the model's own fields, log entry
18). -/
def Obligations.CutPassVisitCuts : Prop :=
  ∀ (n : Nat) (s : State), s.ready → s.cutPos = some n → n ≤ 8191 →
    let advanced (t : State) : State :=
      if n < 8191 then { t with cutPos := some (n + 1) }
      else { t with
        cutPos := none
        tariff := { t.tariff with revisions := [], previous := none }
        zone := { t.zone with releaseDue := true, expiryHeld := s.staleDue } }
    ((s.ses n = none ∨ ∃ x, s.ses n = some x ∧ s.inPrevious x = false) →
      exec .cutPassVisit s = .next (advanced s))
    ∧ ∀ x prev c p, s.ses n = some x → s.tariff.previous = some prev → x.epoch = prev.epoch →
      s.ctx x.subscriber = some c → s.par c.partner = some p →
      (x.residue = 0 ∨ x.cls = .message ∨ x.cls = .emergency →
        exec .cutPassVisit s = .next (advanced { s with sess := { s.sess with
          records := Table.set s.sess.records n { x with epoch := s.tariff.epoch } } }))
      ∧ (0 < x.residue → (x.cls = .voice ∨ x.cls = .data) →
        ∀ (plan : PlanId) (adjustment : Int) (cell : Cell),
          ((∃ q a, Revision.partner c.partner q a (some (plan, adjustment)) ∈ s.tariff.revisions)
            ∨ ((∀ q a o, Revision.partner c.partner q a o ∉ s.tariff.revisions) ∧ plan = p.plan ∧ adjustment = p.adjustment)) →
          (s.tariff.revisions.map Revision.target).Nodup →
          let i := plan.val * 12 + prev.zoneClass.code * 3 + x.cls.code
          ((∃ v, Revision.cell i v (some cell) ∈ s.tariff.revisions)
            ∨ ((∀ v o, Revision.cell i v o ∉ s.tariff.revisions)
              ∧ cell = s.cellValues plan prev.zoneClass x.cls)) →
          let thousandths := x.residue * cell.price * s.factor x.cls x.binding adjustment / cell.blockSize + x.carry
          ∃ (t : State) (blocked asked : List Notice),
            exec .cutPassVisit s = noticed (advanced t) (blocked ++ asked)
            ∧ Charges n { x with residue := 0, carry := thousandths % 1000, epoch := s.tariff.epoch } prev.zoneClass
                (thousandths / 1000) s t blocked asked)

/-- R80, R71, R73 step 1, R72: a USAGE entry and the cut pass's visit to its session leave the same state in either order,
but for the port. And wherever the cut pass stands, an event that reaches a session makes its epoch cut first, the one
that the pass's visit to its handle would have made: a USAGE entry, a SESSION_CLOSE and the ACCEPT of a batch of that one
session each leave the state that they leave where the visit came before them, but for the port. -/
def Obligations.UsageAndCutPassCommute : Prop :=
  (∀ (h : Header) (e : UsageEntry) (s : State), s.ready → s.hears h .usage .meter → h.length = 14 →
    e.session ≤ 8191 → s.cutPos = some e.session → (∀ prev, s.tariff.previous = some prev → prev.epoch ≠ s.tariff.epoch) →
    ∃ a b c d, exec .cutPassVisit s = .next a ∧ exec (.usage h 1 [e]) a = .next b
      ∧ exec (.usage h 1 [e]) s = .next c ∧ exec .cutPassVisit c = .next d ∧ b = { d with port := b.port })
  ∧ (∀ (n : Nat) (x : Session) (s : State), s.ready → n ≤ 8191 → s.ses n = some x →
    (∀ prev, s.tariff.previous = some prev → prev.epoch ≠ s.tariff.epoch) → Books s → Listed s →
    ∃ a, exec .cutPassVisit { s with cutPos := some n } = .next a ∧
      let cut : State := { a with
        cutPos := s.cutPos, zone := s.zone
        tariff := { a.tariff with revisions := s.tariff.revisions, previous := s.tariff.previous } }
      let cutsFirst (i : Instr) : Prop :=
        ∃ t u, exec i s = .next t ∧ exec i cut = .next u ∧ u = { t with port := u.port }
      (∀ h e, s.hears h .usage .meter → h.length = 14 → e.session = n → cutsFirst (.usage h 1 [e]))
      ∧ (∀ h, s.hears h .sessionClose .radio → cutsFirst (.sessionClose h n x.subscriber))
      ∧ (∀ h b, s.hears h .batchAnswer .router → s.mig.batch = some b → b.sessions = [n] →
          cutsFirst (.batchAnswer h b.number (some .accept))))

/-! ### Sessions (Chapter 3) -/

/-- R45, R46, R47, R113, R13: a SESSION_OPEN of a VOICE, DATA or MESSAGE session that passes every check takes the
lowest free handle and is bound to the permitted UP link with free capacity of the highest priority, the lowest number
among equals; it is counted on the link, for its partner and for the plan, and joins the end of the context's list. Where the RADIO
reference stands in the response is the model's choice (log entry 10). -/
def Obligations.SessionOpenBinds : Prop :=
  ∀ (h : Header) (k n : Nat) (cls : TrafficClass) (ref : BitVec 32) (c : Context) (p : Partner) (l : LinkId) (s : State),
    s.ready → s.hears h .sessionOpen .radio → s.zone.line = false → s.zone.flag = false → k ≤ 4071 → s.ctx k = some c →
    c.presence = .attached → c.sessions.length < 8 → n ≤ 8191 → s.ses n = none → (∀ m, m < n → s.ses m ≠ none) →
    s.par c.partner = some p → p.status = .active → cls ≠ .emergency →
    (s.effectiveLevel = .full ∨ (s.effectiveLevel = .limited ∧ cls ≠ .data)) →
    let i := p.plan.val * 12 + s.effectiveClass.code * 3 + cls.code
    (Table.get s.tariff.cells i).isSome = true → c.credit = .funded →
    let fits (l : LinkId) := (s.link l).state = .up ∧ (s.link l).permits s.zone.effective = true
      ∧ (s.link l).bound + (s.link l).reserved < (s.link l).capacity
    fits l → (∀ m, fits m → m ≠ l → (s.link m).priority < (s.link l).priority
        ∨ ((s.link m).priority = (s.link l).priority ∧ l < m)) →
    exec (.sessionOpen h k (some cls) ref) s =
      answered h .sessionOpen .ok [.u16 n, .u8 cls.code, .u8 l.val, .u16 s.tariff.epoch.toNat, .u16 i, .u32 ref.toNat] s
        { s with
          sess := { s.sess with
            records := Table.set s.sess.records n
              { subscriber := k, cls := cls, service := .active, binding := .bound l, epoch := s.tariff.epoch,
                residue := 0, carry := 0, blocks := 0, charge := 0, opened := s.time.clock, lastUsage := s.time.clock,
                ref := ref, clamped := 0, uncertain := 0 } }
          links := s.links.set l { s.link l with bound := (s.link l).bound + 1 }
          tariff := { s.tariff with
            partners := Table.set s.tariff.partners c.partner { p with sessions := p.sessions + 1 }
            planUse := s.tariff.planUse.set p.plan (s.tariff.planUse[p.plan] + 1) }
          subs := { s.subs with
            contexts := Table.set s.subs.contexts k { c with sessions := c.sessions ++ [n] } } }

/-- R45, R48, R114: a SESSION_OPEN of an EMERGENCY session is checked by R45 alone. It is bound to the UP link of the
highest priority, failing that the DEGRADED one, whatever mask and capacity; failing both it opens STRANDED, which RADIO
is told. Partner and plan counts do not move. Where the RADIO reference stands in the response is the model's choice
(log entry 10), and so are the 255 that stands for STRANDED there (log entry 30) and the 255 of a STRANDED notice without a
former link (log entry 16). -/
def Obligations.SessionOpenEmergency : Prop :=
  ∀ (h : Header) (k n : Nat) (ref : BitVec 32) (c : Context) (s : State), s.ready → s.hears h .sessionOpen .radio →
    s.zone.line = false → s.zone.flag = false → k ≤ 4071 → s.ctx k = some c → c.presence = .attached →
    c.sessions.length < 8 → n ≤ 8191 → s.ses n = none → (∀ m, m < n → s.ses m ≠ none) →
    let best (st : LinkState) (l : LinkId) := (s.link l).state = st ∧ ∀ m, (s.link m).state = st → m ≠ l →
      (s.link m).priority < (s.link l).priority ∨ ((s.link m).priority = (s.link l).priority ∧ l < m)
    let opened (b : Binding) : State := { s with
      sess := { s.sess with
        records := Table.set s.sess.records n
          { subscriber := k, cls := .emergency, service := .active, binding := b, epoch := s.tariff.epoch, residue := 0,
            carry := 0, blocks := 0, charge := 0, opened := s.time.clock, lastUsage := s.time.clock, ref := ref,
            clamped := 0, uncertain := 0 } }
      subs := { s.subs with
        contexts := Table.set s.subs.contexts k { c with sessions := c.sessions ++ [n] } } }
    (∀ l, (best .up l ∨ ((∀ m, (s.link m).state ≠ .up) ∧ best .degraded l)) →
      exec (.sessionOpen h k (some .emergency) ref) s =
        answered h .sessionOpen .ok [.u16 n, .u8 3, .u8 l.val, .u32 ref.toNat] s
          { opened (.bound l) with links := s.links.set l { s.link l with emergency := (s.link l).emergency + 1 } })
    ∧ ((∀ m, (s.link m).state ≠ .up ∧ (s.link m).state ≠ .degraded) →
      exec (.sessionOpen h k (some .emergency) ref) s =
        answered h .sessionOpen .ok [.u16 n, .u8 3, .u8 255, .u32 ref.toNat] s
          (let t := opened .stranded
           { t with sess := { t.sess with stranded := s.sess.stranded + 1 } })
          [.stranded n k .emergency none ref])

/-- R45, R46, R51: the SESSION_OPEN requests that are refused, in the order of the checks, and the SESSION_CLOSE requests
for a handle that is free or above 8,191 or for a session of another subscriber; none of them changes anything. -/
def Obligations.SessionRefusals : Prop :=
  (∀ (h : Header) (k : Nat) (cls : TrafficClass) (ref : BitVec 32) (s : State), s.ready → s.hears h .sessionOpen .radio →
      let refuses (r : Result) : Prop := exec (.sessionOpen h k (some cls) ref) s = refused h .sessionOpen r s
      (s.silent = true → refuses .silent)
      ∧ (s.silent = false →
        exec (.sessionOpen h k none ref) s = refused h .sessionOpen .badValue s
        ∧ ((4071 < k ∨ s.ctx k = none) → refuses .unknownHandle)
        ∧ ∀ c, k ≤ 4071 → s.ctx k = some c →
          (c.presence = .dormant → refuses .unknownHandle)
          ∧ (c.presence = .attached → 8 ≤ c.sessions.length → refuses .sessionLimit)
          ∧ (c.presence = .attached → c.sessions.length < 8 → (∀ n, n ≤ 8191 → s.ses n ≠ none) → refuses .tableFull)
          ∧ (c.presence = .attached → c.sessions.length < 8 → (∃ n, n ≤ 8191 ∧ s.ses n = none) → cls ≠ .emergency →
            ∀ p, s.par c.partner = some p →
              let allowed := s.effectiveLevel = .full ∨ (s.effectiveLevel = .limited ∧ cls ≠ .data)
              let isSet := (Table.get s.tariff.cells
                (p.plan.val * 12 + s.effectiveClass.code * 3 + cls.code)).isSome = true
              (p.status = .suspended → refuses .partnerSuspended)
              ∧ (p.status = .barred → refuses .partnerBarred)
              ∧ (p.status = .active → ¬ allowed → refuses .serviceForbidden)
              ∧ (p.status = .active → allowed → ¬ isSet → refuses .noTariff)
              ∧ (p.status = .active → allowed → isSet → c.credit ≠ .funded → refuses .unfunded)
              ∧ (p.status = .active → allowed → isSet → c.credit = .funded →
                (∀ l, ¬ ((s.link l).state = .up ∧ (s.link l).permits s.zone.effective = true
                  ∧ (s.link l).bound + (s.link l).reserved < (s.link l).capacity)) → refuses .noLink))))
  ∧ (∀ (h : Header) (n k : Nat) (s : State), s.ready → s.hears h .sessionClose .radio →
      (8191 < n ∨ ∀ x, s.ses n = some x → x.subscriber ≠ k) →
      exec (.sessionClose h n k) s = refused h .sessionClose .unknownHandle s)

/-- R50, R51, R73, R74: SESSION_CLOSE of a session of the current epoch. It leaves its batch, its context's list, the
count of its link or the stranded count and, unless EMERGENCY, its partner's and plan's counts; its residue is rounded
as the cell says, its minimum made up and its carry rounded, each at the values in force; and its record is free. A session
of the previous epoch gets its epoch cut first (UsageAndCutPassCommute). -/
def Obligations.SessionCloseFinalRating : Prop :=
  ∀ (h : Header) (n : Nat) (x : Session) (c : Context) (p : Partner) (s : State), s.ready →
    s.hears h .sessionClose .radio → n ≤ 8191 → s.ses n = some x → s.inPrevious x = false →
    s.ctx x.subscriber = some c → s.par c.partner = some p → c.folio ≤ 999999999999 →
    let charged := x.cls ≠ .emergency
    let z := s.effectiveClass
    let cell := s.cellValues p.plan z x.cls
    let rate := cell.price * s.factor x.cls x.binding p.adjustment
    let rounds := charged ∧ x.cls ≠ .message ∧ 0 < x.residue
    let x1 := if rounds then (if cell.rounding = .whole then rate + x.carry
        else x.residue * cell.price * s.factor x.cls x.binding p.adjustment / cell.blockSize + x.carry) else x.carry
    let k1 := if rounds then x1 / 1000 else 0
    let c1 := if rounds then x1 % 1000 else x.carry
    let b1 := if rounds ∧ cell.rounding = .whole then min (x.blocks + 1) 4294967295 else x.blocks
    let short := if charged then cell.minimum - b1 else 0
    let x2 := short * rate + c1
    let k2 := if 0 < short then x2 / 1000 else 0
    let c2 := if 0 < short then x2 % 1000 else c1
    let k3 := if charged ∧ 500 ≤ c2 then 1 else 0
    let k := min (k1 + k2 + k3) (999999999999 - c.folio)
    let lost (b : Prop) [Decidable b] : Nat := if b then 1 else 0
    ∃ (t : State) (c' : Context) (before after : List Notice),
      exec (.sessionClose h n x.subscriber) s = answered h .sessionClose .ok
        [.u16 n, .u8 x.cls.code, .u64 (x.charge + k), .u32 (b1 + short), .u64 (c.folio + k)] s t before after
      ∧ t.ses n = none
      ∧ (∀ m y, m ≠ n → s.ses m = some y → ∃ y', t.ses m = some y' ∧ y' = { y with service := y'.service }
          ∧ (m ∉ c.sessions → y' = y))
      ∧ (∀ m, m ≠ n → s.ses m = none → t.ses m = none)
      ∧ t.ctx x.subscriber = some c'
      ∧ c' = { c with
          sessions := c.sessions.filter (· ≠ n), folio := c.folio + k, sub := c.sub.add z k, consumed := c.consumed + k,
          credit := c'.credit, ask := c'.ask, lastAsk := c'.lastAsk }
      ∧ (∀ m, m ≠ x.subscriber → t.ctx m = s.ctx m)
      ∧ t.par c.partner = some { p with openTotal := p.openTotal + k, sessions := p.sessions - lost charged }
      ∧ (∀ m, m ≠ c.partner → t.par m = s.par m)
      ∧ (∀ q, t.tariff.planUse[q] = s.tariff.planUse[q] - lost (charged ∧ q = p.plan))
      ∧ (∀ l, t.link l = { s.link l with
          bound := (s.link l).bound - lost (charged ∧ x.binding.countedOn = some l)
          emergency := (s.link l).emergency - lost (x.cls = .emergency ∧ x.binding.countedOn = some l)
          reserved := (s.link l).reserved - lost (charged ∧ x.binding.movingTo l = true) })
      ∧ t.sess.stranded = s.sess.stranded - lost (x.binding.countedOn = none)
      ∧ t.mig.queue = s.mig.queue
      ∧ (x.binding.isMoving = false → t.mig = s.mig)
      ∧ (∀ b, x.binding.isMoving = true → s.mig.batch = some b → t.mig.batch =
          if b.sessions.filter (· ≠ n) = [] then none else some { b with sessions := b.sessions.filter (· ≠ n) })
      ∧ t = { s with
          sess := t.sess, subs := { s.subs with contexts := t.subs.contexts }, links := t.links
          tariff := { s.tariff with partners := t.tariff.partners, planUse := t.tariff.planUse }, mig := t.mig }

/-! ### Reads of the port, of sessions, links, zones and orders -/

/-- R181 and R142: STATUS and READ_ORDERS answer every field their rules list, to any role, and change nothing. How the
lists and the batch are laid out is the model's reading (log entry 16), and the single byte sent for an absent batch is its
choice (log entry 34). -/
def Obligations.StatusAndOrdersRead : Prop :=
  ∀ (h h' : Header) (r : Role) (s : State), s.ready → s.hears h .status r → s.hears h' .readOrders r →
    let flag (b : Prop) [Decidable b] : Field := .u8 (if b then 1 else 0)
    let source (x : Source) : Field := .u8 (match x with | .link l => l.val | .rescue => 255)
    exec (.status h) s = answered h .status .ok
      [flag (s.port.lastReset = .service), .u32 (s.time.clock / 1000), .u8 h.client, .u8 r.code,
        flag (s.zone.line = true ∨ s.zone.flag = true), flag (s.subs.gate = .held), .u8 s.zone.tracking.code,
        .u8 (match s.zone.effective with | none => 255 | some z => z.val), .u16 s.tariff.epoch.toNat,
        .u16 s.subs.contexts.length, .u8 s.subs.pinned, .u16 s.sess.records.length, .u16 s.sess.stranded,
        flag (s.cutPos.isSome = true), .u8 s.mig.queue.length, flag (s.mig.batch.isSome = true),
        .u8 s.port.inputQueue.length] s s
    ∧ exec (.readOrders h') s = answered h' .readOrders .ok
      ([.u8 s.mig.queue.length]
        ++ (s.mig.queue.zipIdx.flatMap fun p => [source p.1.source,
              .u8 (match p.1.dest with | .fixed l => l.val | .auto => 255), flag (p.1.scope = .nonEmergency),
              .u8 p.1.cause.code, .u8 p.1.excluded.length] ++ p.1.excluded.map (fun l => .u8 l.val)
            ++ [.u16 p.1.batches, .u16 p.1.moved, flag (p.2 = 0)])
        ++ (match s.mig.batch with
            | none => [.u8 0]
            | some b => [.u8 1, .u16 b.number, source b.source, .u8 b.dest.val, .u64 b.sent, .u64 b.deadline,
                .u8 b.sessions.length] ++ b.sessions.map .u16
                ++ [.u8 (b.sessions.filter fun n => (s.ses n).any fun x => x.cls != .emergency).length])
        ++ [.u16 s.mig.counter, .u16 s.sess.stranded]) s s

/-- R58, R53, R54: READ_SESSION answers every field of Table 3-1, the partner's index, which release conditions hold, the
earlier of their deadlines, and whether the session awaits a cut; a handle above 8,191 or a free record is
UNKNOWN_HANDLE. The encoding of the binding is the model's choice (log entry 11), and so are one byte for each condition
and both clear for an EMERGENCY session (log entries 16 and 27). -/
def Obligations.ReadSessionFields : Prop :=
  ∀ (h : Header) (n : Nat) (r : Role) (s : State), s.ready → s.hears h .readSession r →
    ((8191 < n ∨ s.ses n = none) → exec (.readSession h n) s = refused h .readSession .unknownHandle s)
    ∧ ∀ x c p, n ≤ 8191 → s.ses n = some x → s.ctx x.subscriber = some c → s.par c.partner = some p →
      let flag (b : Prop) [Decidable b] : Field := .u8 (if b then 1 else 0)
      let level := match s.zone.effective with | none => ServiceLevel.emergencyOnly | some z => (s.zoneAt z).level
      let zone := x.cls ≠ .emergency ∧ (level = .emergencyOnly ∨ (level = .limited ∧ x.cls = .data))
      let partner := x.cls ≠ .emergency ∧ p.status = .barred
      let zoneDeadline := if zone then some (match s.zone.effective with
        | none => s.zone.since
        | some z => min (s.zone.since + (s.zoneAt z).window * 1000) 1099511627775) else none
      let partnerDeadline := if partner then p.barTime.map fun b => min (b + p.barWindow * 1000) 1099511627775 else none
      let deadline := match zoneDeadline, partnerDeadline with
        | some a, some b => some (min a b)
        | some a, none => some a
        | none, b => b
      exec (.readSession h n) s = answered h .readSession .ok
        ([.u16 x.subscriber, .u8 x.cls.code, flag (x.service = .blocked)]
          ++ (match x.binding with
              | .bound l => [.u8 0, .u8 l.val]
              | .moving (.link l) d b => [.u8 1, .u8 l.val, .u8 d.val, .u16 b]
              | .moving .rescue d b => [.u8 1, .u8 255, .u8 d.val, .u16 b]
              | .stranded => [.u8 2])
          ++ [.u16 x.epoch.toNat, .u32 x.residue, .u16 x.carry, .u32 x.blocks, .u64 x.charge, .u64 x.opened,
            .u64 x.lastUsage, .u32 x.ref.toNat, .u8 x.clamped, .u8 x.uncertain, .u8 c.partner,
            flag (zone ∨ partner), flag zone, flag partner, flag (deadline.isSome = true), .u64 (deadline.getD 0),
            flag ((s.tariff.previous.map Previous.epoch) = some x.epoch)]) s s

/-- R120, R106, R113 and R162, R146, R152: READ_LINK and READ_ZONE answer, to any role, the record of the link or zone
named, or of all in number order, with the values their rules derive from it, and change nothing; a number out of range
is BAD_VALUE. One byte for each condition, permit and optional field is the model's reading (log entry 16); four flags
for the running order and the batch are its choice (log entry 31). R156: READ_ZONE also returns what the last
ZONE_CHANGED notice carried beyond R162's list: its cause and epoch, and the effective zone's window; a ZONE_SET that
changes this window leaves its own cause there. That these stand behind R162's list, and that cause and epoch are absent
before the first notice, is the model's reading (log entry 32). -/
def Obligations.ReadLinkAndZoneFields : Prop :=
  ∀ (h h' : Header) (r : Role) (s : State), s.ready → s.hears h .readLink r → s.hears h' .readZone r →
    let flag (b : Prop) [Decidable b] : Field := .u8 (if b then 1 else 0)
    let head : Option Order := s.mig.queue.head?
    let permits (l : LinkId) : Prop := (match s.zone.effective with
      | none => false
      | some z => (s.link l).mask.getLsbD z.val) = true
    let held (l : LinkId) : Prop := (head.any fun o => o.source == .link l || o.dest == .fixed l) = true
      ∨ (s.mig.batch.any fun b => b.dest == l) = true
    let link (l : LinkId) : List Field :=
      let k := s.link l
      [.u8 k.kind.code, .u8 k.state.code, .u32 k.mask.toNat, .u8 k.priority, .u16 k.capacity, .u16 k.surcharge,
        .u8 k.quality, .u8 k.degrade, .u8 k.recover, .u8 k.hold, .u8 k.streak, .u16 k.bound, .u16 k.emergency,
        .u8 k.reserved, .u64 k.accumulator, .u8 k.discrepancy, .u8 k.limit, .u16 (k.capacity - (k.bound + k.reserved)),
        flag (permits l), flag (0 < k.bound ∨ 0 < k.emergency ∨ 0 < k.reserved ∨ held l),
        flag (0 < k.bound ∨ 0 < k.emergency), flag (0 < k.reserved), flag (held l),
        flag ((head.any fun o => o.source == .link l) = true), flag ((head.any fun o => o.dest == .fixed l) = true),
        flag ((s.mig.batch.any fun b => b.source == .link l) = true), flag ((s.mig.batch.any fun b => b.dest == l) = true),
        flag (∃ o ∈ s.mig.queue, o.source = .link l)]
    let zone (v : Zone) : List Field := [flag (v.defined = true), .u8 v.cls.code, .u8 v.level.code, .u16 v.window]
    let optional (o : Option Nat) : List Field := [flag (o.isSome = true), .u64 (o.getD 0)]
    let stale := if s.zone.tracking = .placed then
      s.zone.lastFix.map fun f => min (f + 2 ^ s.settings.staleExponent * 1000) 1099511627775 else none
    let state : List Field :=
      [.u8 s.zone.tracking.code, .u8 ((s.zone.effective.map Fin.val).getD 255), .u64 s.zone.since,
        flag (s.zone.candidate.isSome = true), .u8 ((s.zone.candidate.map fun c => c.zone.val).getD 0),
        .u8 ((s.zone.candidate.map Candidate.count).getD 0), .u64 ((s.zone.candidate.map Candidate.since).getD 0)]
      ++ optional s.zone.lastFix ++ [flag (s.zone.deferred = true),
        .u8 (match s.zone.effective with | none => 3 | some z => (s.zoneAt z).cls.code),
        .u8 (match s.zone.effective with | none => 2 | some z => (s.zoneAt z).level.code)]
      ++ [0, 1, 2, 3, 4, 5, 6, 7].map (fun l => flag (permits l))
      ++ [.u64 (match s.zone.effective with
            | none => s.zone.since
            | some z => min (s.zone.since + (s.zoneAt z).window * 1000) 1099511627775),
          .u8 ((s.settings.fallback.map Fin.val).getD 255),
          flag ((s.settings.fallback.any fun z => (s.zoneAt z).defined) = true)]
      ++ optional stale ++ [flag (s.zone.line = true ∨ s.zone.flag = true), flag (s.zone.line = true),
        flag (s.zone.flag = true),
        flag (s.zone.report.isSome = true), .u8 ((s.zone.report.map fun p => p.cause.code).getD 0),
        .u16 (match s.zone.effective with | none => 0 | some z => (s.zoneAt z).window),
        flag (s.zone.report.isSome = true), .u16 ((s.zone.report.map fun p => p.epoch.toNat).getD 0)]
    (∀ l : LinkId, exec (.readLink h (.one l.val)) s = answered h .readLink .ok (link l) s s)
    ∧ exec (.readLink h .all) s = answered h .readLink .ok ([0, 1, 2, 3, 4, 5, 6, 7].flatMap link) s s
    ∧ (∀ n, 7 < n → exec (.readLink h (.one n)) s = refused h .readLink .badValue s)
    ∧ (∀ z : ZoneId, exec (.readZone h' (.one z.val)) s = answered h' .readZone .ok (zone (s.zoneAt z) ++ state) s s)
    ∧ exec (.readZone h' .all) s = answered h' .readZone .ok (s.zone.zones.toList.flatMap zone ++ state) s s
    ∧ (∀ n, 31 < n → exec (.readZone h' (.one n)) s = refused h' .readZone .badValue s)
    ∧ ∀ h'' (z : ZoneId) (w : Nat), s.hears h'' .zoneSet .purser → s.zone.effective = some z → (s.zoneAt z).defined = true →
        w ≤ 600 → w ≠ (s.zoneAt z).window →
        ∃ t, exec (.zoneSet h'' z.val (some (s.zoneAt z).cls) (some (s.zoneAt z).level) w) s = .next t
          ∧ t.zone.report = some ⟨.window, s.tariff.epoch⟩

/-! ### Backhaul links (Chapter 6) -/

/-- R105, R106, R107, R110: LINK_SET. The latch refuses a guarded change whole; otherwise the action moves the link's
state, which is told, and the profile is written; OK where anything changed, ALREADY where not; and values out of range
are BAD_VALUE. That the notice carries the values zeroed by the action and the kind from before the profile is the
model's reading (log entry 23). -/
def Obligations.LinkSetActions : Prop :=
  ∀ (h : Header) (s : State), s.ready → s.hears h .linkSet .purser →
    (∀ (l : LinkId) (a : LinkAction) (kind : LinkKind) (p : ProfileDef), p.kind = some kind → p.priority ≤ 7 →
      p.capacity ≤ 8192 → p.surcharge ≤ 2000 → p.degrade ≤ 99 → p.recover ≤ 100 → p.degrade < p.recover →
      (p.hold = 1 ∨ p.hold = 2 ∨ p.hold = 4 ∨ p.hold = 8) → 1 ≤ p.limit → p.limit ≤ 7 →
      let k := s.link l
      let guarded : Prop := a = .adminOff ∨ kind ≠ k.kind ∨ p.mask ≠ k.mask ∨ p.capacity ≠ k.capacity
        ∨ p.surcharge ≠ k.surcharge
      let latched : Prop := 0 < k.bound ∨ 0 < k.emergency ∨ 0 < k.reserved
        ∨ (∃ o rest, s.mig.queue = o :: rest ∧ (o.source = .link l ∨ o.dest = .fixed l))
        ∨ ∃ b, s.mig.batch = some b ∧ b.dest = l
      let after : LinkState := match a, k.state with
        | .adminOn, .offline => .down
        | .adminOff, _ => .offline
        | .clearSuspect, .suspect => .down
        | _, st => st
      let moved := after ≠ k.state
      let quality := if moved ∧ a = .adminOff then 0 else k.quality
      let discrepancy := if moved ∧ a ≠ .adminOn then 0 else k.discrepancy
      let m : Link := { k with
        kind := kind, state := after, mask := p.mask, priority := p.priority, capacity := p.capacity
        surcharge := p.surcharge, quality := quality, degrade := p.degrade, recover := p.recover, hold := p.hold
        streak := if moved then 0 else k.streak, discrepancy := discrepancy, limit := p.limit }
      (guarded → latched → exec (.linkSet h l.val (some a) p) s = refused h .linkSet .linkLatched s)
      ∧ (¬ (guarded ∧ latched) → exec (.linkSet h l.val (some a) p) s =
          answered h .linkSet (if m = k then .already else .ok)
            [.u8 l.val, .u8 k.state.code, .u8 after.code, .u8 kind.code, .u32 p.mask.toNat, .u8 p.priority,
              .u16 p.capacity, .u16 p.surcharge, .u8 p.degrade, .u8 p.recover, .u8 p.hold, .u8 p.limit] s
            { s with links := s.links.set l m }
            (if moved then [.linkState l k.kind k.state after .admin quality k.bound k.emergency discrepancy] else [])))
    ∧ ∀ link action p, (7 < link ∨ action = none ∨ p.kind = none ∨ 7 < p.priority ∨ 8192 < p.capacity
        ∨ 2000 < p.surcharge ∨ 99 < p.degrade ∨ 100 < p.recover ∨ p.recover ≤ p.degrade
        ∨ (p.hold ≠ 1 ∧ p.hold ≠ 2 ∧ p.hold ≠ 4 ∧ p.hold ≠ 8) ∨ p.limit = 0 ∨ 7 < p.limit) →
      exec (.linkSet h link action p) s = refused h .linkSet .badValue s

/-- R108, R109, R110, R111: LINK_REPORT stores the quality, clamped to 100, and judges a link that is DOWN, UP or DEGRADED
by the table of R109: its streak, its change of state, the notice of it and the order it raises. The one case left out,
the link leaving UP as the destination of the in-flight batch, to DOWN or to DEGRADED, is in BatchFailureReturns. -/
def Obligations.LinkReportJudgement : Prop :=
  ∀ (h : Header) (l : LinkId) (i : Indication) (q : Nat) (s : State), s.ready → s.hears h .linkReport .router →
    let k := s.link l
    let v := min q 100
    let streak := k.streak + 1
    let after : Option LinkState :=
      if k.state = .down ∧ i = .up then some (if k.recover ≤ v then .up else .degraded)
      else if k.state = .up ∧ (i = .down ∨ v = 0) then some .down
      else if k.state = .up ∧ v < k.degrade ∧ k.hold ≤ streak then some .degraded
      else if k.state = .degraded ∧ i = .down then some .down
      else if k.state = .degraded ∧ k.recover ≤ v ∧ k.hold ≤ streak then some .up
      else none
    let stays : Nat :=
      if k.state = .up then (if v < k.degrade then streak else 0)
      else if k.state = .degraded then (if k.recover ≤ v then streak else 0)
      else k.streak
    let result : Result := if 100 < q then .okClamped else .ok
    (∀ b, s.mig.batch = some b → b.dest = l → k.state = .up → after = none) →
    (after = none → exec (.linkReport h l.val (some i) q) s =
      answered h .linkReport result [.u8 l.val, .u8 k.state.code, .u8 k.state.code, .u8 v, .u8 stays] s
        { s with links := s.links.set l { k with quality := v, streak := stays } })
    ∧ (∀ st, after = some st → exec (.linkReport h l.val (some i) q) s =
      answered h .linkReport result [.u8 l.val, .u8 k.state.code, .u8 st.code, .u8 v, .u8 0] s
        { s with
          links := s.links.set l { k with state := st, quality := v, streak := 0 }
          mig := { s.mig with queue :=
            if st = .degraded then handedOrder s.silent (.link l) .all .degraded s.mig.queue
            else if st = .down then handedOrder s.silent (.link l) .all .failed s.mig.queue
            else if 0 < s.sess.stranded then handedOrder s.silent .rescue .all .rescue s.mig.queue
            else s.mig.queue } }
        [.linkState l k.kind k.state st .report v k.bound k.emergency k.discrepancy])
    ∧ ∀ link ind, (7 < link ∨ ind = none) → exec (.linkReport h link ind q) s = refused h .linkReport .badValue s

/-- R117, R118, R110, R111: RECONCILE. While the link is in the in-flight batch it is DEFERRED and changes nothing;
otherwise the two counts are compared within the tolerance, the accumulator is zeroed, and the discrepancy streak of a
link that is DOWN, UP or DEGRADED is zeroed or increased and at its limit makes the link SUSPECT, with its FAILED order.
The verdict's number and the fields of a DEFERRED response are the model's choice (log entry 12), and so is the zeroed
streak in the notice (log entry 23). -/
def Obligations.ReconcileVerdict : Prop :=
  ∀ (h : Header) (l : LinkId) (bytes : Nat) (s : State), s.ready → s.hears h .reconcile .router →
    let k := s.link l
    let a := k.accumulator
    let inBatch : Prop := ∃ b, s.mig.batch = some b ∧ (b.source = .link l ∨ b.dest = l)
    let tolerance := max s.settings.reconcileFloor (max a bytes * s.settings.reconcileTolerance / 1000)
    let difference := if a ≤ bytes then bytes - a else a - bytes
    let judged := k.state = .down ∨ k.state = .up ∨ k.state = .degraded
    let answer (verdict discrepancy : Nat) (st : LinkState) (t : State) (ns : List Notice) : Outcome :=
      answered h .reconcile .ok [.u8 l.val, .u64 a, .u64 bytes, .u64 tolerance, .u64 difference, .u8 verdict,
        .u8 discrepancy, .u8 st.code] s t ns
    (∀ n, 7 < n → exec (.reconcile h n bytes) s = refused h .reconcile .badValue s)
    ∧ (inBatch → exec (.reconcile h l.val bytes) s =
        answered h .reconcile .deferred [.u64 a, .u64 bytes, .u8 2] s s)
    ∧ (¬ inBatch → difference ≤ tolerance → exec (.reconcile h l.val bytes) s =
        let streak := if judged then 0 else k.discrepancy
        answer 0 streak k.state
          { s with links := s.links.set l { k with accumulator := 0, discrepancy := streak } } [])
    ∧ (¬ inBatch → tolerance < difference → (judged → k.discrepancy + 1 < k.limit) →
        exec (.reconcile h l.val bytes) s =
          let streak := if judged then k.discrepancy + 1 else k.discrepancy
          answer 1 streak k.state
            { s with links := s.links.set l { k with accumulator := 0, discrepancy := streak } } [])
    ∧ (¬ inBatch → tolerance < difference → judged → k.limit ≤ k.discrepancy + 1 →
        exec (.reconcile h l.val bytes) s = answer 1 0 .suspect
          { s with
            links := s.links.set l { k with accumulator := 0, state := .suspect, streak := 0, discrepancy := 0 }
            mig := { s.mig with queue := handedOrder s.silent (.link l) .all .failed s.mig.queue } }
          [.linkState l k.kind k.state .suspect .reconcile k.quality k.bound k.emergency 0])

/-! ### Link migration (Chapter 7) -/

/-- R124: MOVE_ORDER, check by check: SILENT; the operands that are BAD_VALUE; BUSY while the source's order runs; a QUEUED
order of the source replaced in its place; and otherwise a new order at the tail. The numbers of the
dispositions are the model's reading (log entry 16). -/
def Obligations.MoveOrderDisposition : Prop :=
  ∀ (h : Header) (s : State), s.ready → s.hears h .moveOrder .router →
    (s.silent = true → ∀ a d c, exec (.moveOrder h a d c) s = refused h .moveOrder .silent s)
    ∧ (s.silent = false →
      (∀ a d c, (a = none ∨ d = none ∨ c = none) → exec (.moveOrder h a d c) s = refused h .moveOrder .badValue s)
      ∧ (∀ a d c, ((a = .rescue ∧ (d ≠ .auto ∨ c = .nonEmergency))
            ∨ ∃ l, d = .fixed l ∧ (a = .link l ∨ (s.link l).state = .offline)) →
          exec (.moveOrder h (some a) (some d) (some c)) s = refused h .moveOrder .badValue s)
      ∧ (∀ a d c, (a = .rescue → d = .auto ∧ c = .all) →
          (∀ l, d = .fixed l → a ≠ .link l ∧ (s.link l).state ≠ .offline) →
          let code := match a with | .link l => l.val | .rescue => 255
          (∀ o rest, s.mig.queue = o :: rest → o.source = a →
            exec (.moveOrder h (some a) (some d) (some c)) s = refused h .moveOrder .busy s)
          ∧ (∀ before o after, s.mig.queue = before ++ o :: after → before ≠ [] → o.source = a →
              (∀ p ∈ before, p.source ≠ a) →
              exec (.moveOrder h (some a) (some d) (some c)) s =
                answered h .moveOrder .ok [.u8 code, .u8 0, .u8 (before.length + 1), .u8 0] s
                  { s with mig := { s.mig with queue :=
                      before ++ { o with dest := d, scope := c, cause := .router, excluded := [] } :: after } })
          ∧ ((∀ o ∈ s.mig.queue, o.source ≠ a) →
              exec (.moveOrder h (some a) (some d) (some c)) s =
                answered h .moveOrder .ok
                  [.u8 code, .u8 1, .u8 (s.mig.queue.length + 1), .u8 (if s.mig.queue = [] then 1 else 0)] s
                  { s with mig := { s.mig with queue := s.mig.queue ++ [{
                      source := a, dest := d, scope := c, cause := .router, excluded := [], batches := 0, moved := 0 }] } })))

/-- R125 to R130, R138: BATCH_STEP. It does nothing while a batch is in flight or the queue is empty. Otherwise the head
order ends DONE or RESOLVED; or its destination is judged or chosen, and failing one it ends ABORTED or STRANDED, with
stranding where its source is DOWN or SUSPECT; or up to 32 sessions in scope move to the destination as the next batch,
no more non-emergency ones than its free capacity. That a BATCH_STEP commanded while a batch is in flight, or on an empty
queue, has no effect is the model's choice (log entry 14). -/
def Obligations.BatchStepAdvancesOrder : Prop :=
  ∀ s : State, s.ready →
    ((s.mig.queue = [] ∨ s.mig.batch.isSome = true) → exec .batchStep s = .next s)
    ∧ ∀ o rest, s.mig.queue = o :: rest → s.mig.batch = none → Books s → Listed s → Counts s →
      let scope := s.scopeHandles o
      let charged := 0 < s.nonEmergencyAmong scope
      let emergency := s.nonEmergencyAmong scope < scope.length
      let mayCharge (l : LinkId) : Prop := (s.link l).state = .up ∧ (s.link l).permits s.zone.effective = true
        ∧ (s.link l).bound + (s.link l).reserved < (s.link l).capacity
      let candidate (l : LinkId) : Prop := (s.link l).state = .up ∧ o.source ≠ .link l ∧ l ∉ o.excluded
      let ends (outcome : OrderOutcome) : Prop :=
        exec .batchStep s = noticed { s with mig := { s.mig with queue := rest } } [endOf o outcome 0]
      let fails (outcome : OrderOutcome) : Prop :=
        (¬ s.strands o → ends outcome)
        ∧ (∀ l, o.source = .link l → ((s.link l).state = .down ∨ (s.link l).state = .suspect) →
            ∃ t ns, exec .batchStep s = noticed t ns ∧ Strands o rest l outcome s t ns)
      let resolved : Prop := (o.cause = .degraded ∨ o.cause = .failed ∨ o.cause = .zone)
        ∧ ∃ l, o.source = .link l ∧ (s.link l).state = .up ∧ (s.link l).permits s.zone.effective = true
      let sends (d : LinkId) (withCharged : Bool) : Prop :=
        let free := (s.link d).capacity - ((s.link d).bound + (s.link d).reserved)
        let isCharged (n : Nat) : Bool := (s.ses n).any fun x => x.cls != .emergency
        let taken := (scope.filter fun n => !isCharged n
          || (withCharged && decide ((scope.filter fun m => decide (m < n) && isCharged m).length < free))).take 32
        let number := if s.mig.counter < 65535 then s.mig.counter + 1 else 1
        taken ≠ [] ∧ exec .batchStep s = noticed
          { s with
            sess := { s.sess with records := s.sess.records.map fun p =>
              if p.1 ∈ taken then (p.1, { p.2 with binding := .moving o.source d number }) else p }
            links := s.links.set d { s.link d with reserved := (s.link d).reserved + s.nonEmergencyAmong taken }
            mig := {
              queue := { o with batches := min (o.batches + 1) 65535 } :: rest
              batch := some ⟨number, o.source, d, taken, s.time.clock,
                min (s.time.clock + s.settings.batchTimeout) 1099511627775⟩
              counter := number } }
          [.moveBatch number o.source d taken]
      (scope = [] → ends .done)
      ∧ (scope ≠ [] → resolved → ends .resolved)
      ∧ (scope ≠ [] → ¬ resolved →
        (∀ d, o.dest = .fixed d →
          ((s.link d).state ≠ .up ∨ (¬ emergency ∧ ¬ mayCharge d) → fails .aborted)
          ∧ ((s.link d).state = .up → mayCharge d → sends d true)
          ∧ ((s.link d).state = .up → emergency → ¬ mayCharge d → sends d false))
        ∧ (o.dest = .auto →
          (∀ d, charged → s.wins (fun l => candidate l ∧ mayCharge l) d → sends d true)
          ∧ (∀ d, emergency → (charged → ∀ l, candidate l → ¬ mayCharge l) → s.wins candidate d → sends d false)
          ∧ (charged → ¬ emergency → (∀ l, candidate l → ¬ mayCharge l) → fails .stranded)
          ∧ ((∀ l, ¬ candidate l) → fails .stranded)))

/-- R131, R132, R72, R115: an ACCEPT of the in-flight batch gives each of its sessions its cuts at the source's surcharge
and binds it to the destination; the counts of source and destination follow, the order's sessions moved increase and no
batch is in flight. For a batch of one session the charge of the cut is stated whole. -/
def Obligations.BatchAcceptRebinds : Prop :=
  ∀ (h : Header) (b : Batch) (o : Order) (rest : List Order) (s : State), s.ready → s.hears h .batchAnswer .router →
    s.mig.batch = some b → s.mig.queue = o :: rest → Books s → Listed s → Counts s → b.source ≠ .link b.dest →
    let charged := s.nonEmergencyAmong b.sessions
    let others := b.sessions.length - charged
    let source := match b.source with | .link l => l.val | .rescue => 255
    ∃ (t : State) (before after : List Notice),
      exec (.batchAnswer h b.number (some .accept)) s = answered h .batchAnswer .ok
        [.u16 b.number, .u8 0, .u8 b.sessions.length, .u8 source, .u8 1] s t before after
      ∧ t.mig = { s.mig with queue := { o with moved := min (o.moved + b.sessions.length) 65535 } :: rest, batch := none }
      ∧ (∀ m x, s.ses m = some x → ∃ y, t.ses m = some y ∧
          if m ∈ b.sessions then
            y.binding = .bound b.dest ∧ y.epoch = s.tariff.epoch ∧ (x.cls = .voice ∨ x.cls = .data → y.residue = 0)
              ∧ y = { x with
                binding := y.binding, epoch := y.epoch, residue := y.residue, carry := y.carry, charge := y.charge
                service := y.service }
          else y = { x with service := y.service })
      ∧ (∀ m, s.ses m = none → t.ses m = none)
      ∧ (∀ l, t.link l =
          if l = b.dest then { s.link l with
            bound := (s.link l).bound + charged, emergency := (s.link l).emergency + others
            reserved := (s.link l).reserved - charged }
          else if b.source = .link l then { s.link l with
            bound := (s.link l).bound - charged, emergency := (s.link l).emergency - others }
          else s.link l)
      ∧ t.sess.stranded = (if b.source = .rescue then s.sess.stranded - b.sessions.length else s.sess.stranded)
      ∧ t.zone = s.zone ∧ t.time = s.time ∧ t.port = s.port ∧ t.cutPos = s.cutPos
      ∧ ∀ m x c p, b.sessions = [m] → s.ses m = some x → s.inPrevious x = false → 0 < x.residue →
          (x.cls = .voice ∨ x.cls = .data) → s.ctx x.subscriber = some c → s.par c.partner = some p →
          let cell := s.cellValues p.plan s.effectiveClass x.cls
          let thousandths := x.residue * cell.price * s.factor x.cls x.binding p.adjustment / cell.blockSize + x.carry
          ∃ u, Charges m { x with residue := 0, carry := thousandths % 1000, epoch := s.tariff.epoch }
              s.effectiveClass (thousandths / 1000) s u before after
            ∧ t.tariff = u.tariff ∧ t.subs = u.subs
            ∧ ∀ j, t.ses j = if j = m then (u.ses j).map (fun y => { y with binding := .bound b.dest }) else u.ses j

/-- R131, R133, R134, R135, R138: the ends of a batch that is not accepted. A REFUSE, a timeout at the deadline, and the
loss of the destination, which a LINK_REPORT takes out of UP to DOWN or to DEGRADED, each bring its sessions back and
release its reserved slots; an AUTO order then excludes the destination, and an order with a fixed destination ends
ABORTED, stranding its sessions where its source is DOWN or SUSPECT. A destination that is lost is told first, and the order
its change raises is handed over last. An answer that matches no batch is LATE. The byte that stands for the state of an
ended order is a free value (log entry 3), and that a BATCH_TIMEOUT commanded before the deadline has no effect is the
model's choice (log entry 14). -/
def Obligations.BatchFailureReturns : Prop :=
  ∀ (h : Header) (s : State), s.ready → s.hears h .batchAnswer .router →
    (∀ n, exec (.batchAnswer h n none) s = refused h .batchAnswer .badValue s)
    ∧ (∀ n v, (∀ b, s.mig.batch = some b → b.number ≠ n) →
        exec (.batchAnswer h n (some v)) s = refused h .batchAnswer .late s)
    ∧ ((∀ b, s.mig.batch = some b → s.time.clock < b.deadline) → exec .batchTimeout s = .next s)
    ∧ ∀ b o rest, s.mig.batch = some b → s.mig.queue = o :: rest → Books s → Listed s → Counts s →
      let source := match b.source with | .link l => l.val | .rescue => 255
      let back := s.returned b
      let left (q : List Order) : State := { back with mig := { s.mig with queue := q, batch := none } }
      let abandoned (cause : AbandonCause) : Notice := .batchAbandoned b.number b.source b.dest cause b.sessions.length
      let refusal (byte : Nat) (t : State) (before after : List Notice) : Prop :=
        exec (.batchAnswer h b.number (some .refuse)) s =
          answered h .batchAnswer .ok [.u16 b.number, .u8 1, .u8 0, .u8 source, .u8 byte] s t before after
      (o.dest = .auto →
        refusal 1 (left (o.without b.dest :: rest)) [] []
        ∧ (b.deadline ≤ s.time.clock →
            exec .batchTimeout s = noticed (left (o.without b.dest :: rest)) [abandoned .timeout]))
      ∧ (∀ d, o.dest = .fixed d → ¬ s.strands o →
        (∃ byte, refusal byte (left rest) [endOf o .aborted 0] [])
        ∧ (b.deadline ≤ s.time.clock →
            exec .batchTimeout s = noticed (left rest) [abandoned .timeout, endOf o .aborted 0]))
      ∧ (∀ d l, o.dest = .fixed d → o.source = .link l →
        ((s.link l).state = .down ∨ (s.link l).state = .suspect) →
        (∃ byte t before after, refusal byte t before after ∧ Strands o rest l .aborted back t (after ++ before))
        ∧ (b.deadline ≤ s.time.clock → ∃ t ns,
            exec .batchTimeout s = noticed t (abandoned .timeout :: ns) ∧ Strands o rest l .aborted back t ns))
      ∧ (∀ h' i q st, s.hears h' .linkReport .router →
        let k := s.link b.dest
        let v := min q 100
        (((i = .down ∨ v = 0) ∧ st = .down)
          ∨ (i = .up ∧ 0 < v ∧ v < k.degrade ∧ k.hold ≤ k.streak + 1 ∧ st = .degraded)) →
        let moved : State := { back with links := back.links.set b.dest { back.link b.dest with
          state := st, quality := v, streak := 0 } }
        let ended (orders : List Order) : State := { moved with mig := { s.mig with queue := orders, batch := none } }
        let raised (orders : List Order) : List Order :=
          handedOrder s.silent (.link b.dest) .all (if st = .down then .failed else .degraded) orders
        let gives (t : State) (before after : List Notice) : Prop :=
          exec (.linkReport h' b.dest.val (some i) q) s =
            answered h' .linkReport (if 100 < q then .okClamped else .ok)
              [.u8 b.dest.val, .u8 2, .u8 st.code, .u8 v, .u8 0] s
              { t with mig := { t.mig with queue := raised t.mig.queue } }
              (.linkState b.dest k.kind .up st .report v k.bound k.emergency k.discrepancy
                :: abandoned .destinationLost :: before) after
        (o.dest = .auto → gives (ended (o.without b.dest :: rest)) [] [])
        ∧ (∀ d, o.dest = .fixed d → ¬ moved.strands o → gives (ended rest) [endOf o .aborted 0] [])
        ∧ (∀ d l, o.dest = .fixed d → o.source = .link l →
          ((moved.link l).state = .down ∨ (moved.link l).state = .suspect) →
          ∃ t before after, gives t before after ∧ Strands o rest l .aborted moved t (after ++ before)))

/-! ### Zones and coverage (Chapter 8) -/

/-- R145, R156: ZONE_SET defines an undefined zone, rewrites one that is not effective, and of the effective zone writes
the window alone, which is told; a changed class or level of the effective zone is IN_USE; values out of range are
BAD_VALUE. What READ_ZONE then returns of the notice is left to ReadLinkAndZoneFields. -/
def Obligations.ZoneSetRecord : Prop :=
  ∀ (h : Header) (s : State), s.ready → s.hears h .zoneSet .purser →
    (∀ (z : ZoneId) (c : ZoneClass) (l : ServiceLevel) (w : Nat), w ≤ 600 →
      let old := s.zoneAt z
      let new : Zone := ⟨true, c, l, w⟩
      let run := exec (.zoneSet h z.val (some c) (some l) w) s
      let gives (r : Result) (report : Option ZoneReport) (ns : List Notice) : Prop :=
        run = answered h .zoneSet r [.u8 z.val, .u8 1, .u8 c.code, .u8 l.code, .u16 w] s
          { s with zone := { s.zone with zones := s.zone.zones.set z new, report := report } } ns
      (old.defined = false → gives .ok s.zone.report [])
      ∧ (old.defined = true → s.zone.effective ≠ some z →
          gives (if new = old then .already else .ok) s.zone.report [])
      ∧ (old.defined = true → s.zone.effective = some z →
        ((c ≠ old.cls ∨ l ≠ old.level) → run = refused h .zoneSet .inUse s)
        ∧ (c = old.cls → l = old.level → w = old.window → gives .already s.zone.report [])
        ∧ (c = old.cls → l = old.level → w ≠ old.window →
            ∃ report, gives .ok report [s.zoneNews .window z new s.zone.tracking])))
    ∧ ∀ n c l w, (31 < n ∨ c = none ∨ l = none ∨ 600 < w) →
      exec (.zoneSet h n c l w) s = refused h .zoneSet .badValue s

/-- R147 to R151, R154: FIX. A fix that names no defined zone clears the candidate; one for the effective zone in PLACED is
CURRENT; any other makes or counts the candidate, which is confirmed by its count and hold: a crossing, a deferral while
the cut pass runs, or, in STALE, a re-placement. That a set flag answers DEFERRED also after the pass has ended is the
model's reading (log entry 22), and so is the layout of the candidate in the response (log entry 16). -/
def Obligations.FixOutcomes : Prop :=
  ∀ (h : Header) (s : State), s.ready → s.hears h .fix .nav →
    let answers (n : Nat) (outcome : Nat) (t : State) (ns : List Notice) : Prop :=
      exec (.fix h n) s = answered h .fix .ok
        [.u8 outcome, .u8 t.zone.tracking.code, .u8 ((t.zone.effective.map Fin.val).getD 255),
          .u8 (if t.zone.candidate.isSome then 1 else 0), .u8 ((t.zone.candidate.map fun c => c.zone.val).getD 0),
          .u8 ((t.zone.candidate.map Candidate.count).getD 0), .u8 (if t.zone.deferred then 1 else 0),
          .u16 t.tariff.epoch.toNat] s t ns
    (∀ n, (31 < n ∨ ∃ z : ZoneId, n = z.val ∧ (s.zoneAt z).defined = false) →
      answers n 0 { s with zone := { s.zone with candidate := none, deferred := false } } [])
    ∧ ∀ z : ZoneId, (s.zoneAt z).defined = true →
      let fixed : State := { s with zone := { s.zone with lastFix := some s.time.clock } }
      (s.zone.tracking = .placed → s.zone.effective = some z →
        answers z.val 1 { s with zone := { s.zone with
          lastFix := some s.time.clock, candidate := none, deferred := false } } [])
      ∧ (¬ (s.zone.tracking = .placed ∧ s.zone.effective = some z) →
        ∀ (c : Candidate) (again : Bool),
          ((∃ old, s.zone.candidate = some old ∧ old.zone = z ∧ c = { old with count := min (old.count + 1) 15 } ∧ again = true)
            ∨ ((∀ old, s.zone.candidate = some old → old.zone ≠ z) ∧ c = ⟨z, 1, s.time.clock⟩ ∧ again = false)) →
          let confirmed : Prop := s.settings.confirmCount ≤ c.count ∧ s.settings.confirmHold * 1000 ≤ s.time.clock - c.since
          let waits (deferred : Bool) : State :=
            { fixed with zone := { fixed.zone with candidate := some c, deferred := deferred } }
          let flagged : Prop := s.zone.deferred = true ∧ again = true
          (flagged → answers z.val 6 (waits true) [])
          ∧ (¬ flagged → ¬ confirmed → answers z.val (if again then 3 else 2) (waits false) [])
          ∧ (¬ flagged → confirmed → s.zone.effective ≠ some z → s.cutPos.isSome = true →
              answers z.val 6 (waits true) [])
          ∧ (¬ flagged → confirmed → s.zone.effective ≠ some z → s.cutPos = none →
              ∃ t n, Crosses (some z) true fixed t n ∧ answers z.val 4 t [n])
          ∧ (¬ flagged → confirmed → s.zone.effective = some z → s.zone.tracking = .stale →
              answers z.val 5 fixed.replaced [s.zoneNews .placedAgain z (s.zoneAt z) .placed]))

/-- R151 to R154: STALE_EXPIRY, held while the cut pass runs, takes a stale crossing to the fallback zone when the stale
instant of a PLACED tracking has passed; one that the pass held waits, after its end, only for a deferred confirmation that
is pending with it; DEFERRAL_RELEASE, due once a cut pass has ended, takes the deferred crossing or
re-placement. That a commanded event whose condition does not hold has no effect, and the record of what is held or due,
are the model's choice (log entries 14 and 18). -/
def Obligations.StaleExpiryAndRelease : Prop :=
  ∀ s : State, s.ready →
    let due : Prop := s.zone.tracking = .placed
      ∧ ∃ f, s.zone.lastFix = some f ∧ min (f + 2 ^ s.settings.staleExponent * 1000) 1099511627775 ≤ s.time.clock
    let waits : Prop := s.cutPos.isSome = true ∨ (s.zone.expiryHeld = true ∧ s.zone.releaseDue = true ∧ s.zone.deferred = true)
    let taken : State := { s with zone := { s.zone with expiryHeld := false } }
    let released : State := { s with zone := { s.zone with releaseDue := false } }
    let cleared : State := { s with zone := { s.zone with releaseDue := false, deferred := false } }
    (waits → exec .staleExpiry s = .next s)
    ∧ (¬ waits → ¬ due → exec .staleExpiry s = .next taken)
    ∧ (¬ waits → due → ∀ target : Option ZoneId,
        (∀ z, target = some z ↔ s.settings.fallback = some z ∧ (s.zoneAt z).defined = true) →
        ∃ t n, Crosses target false taken t n ∧ exec .staleExpiry s = noticed t [n])
    ∧ (s.zone.releaseDue = false → exec .deferralRelease s = .next s)
    ∧ (s.zone.releaseDue = true →
      ((s.zone.deferred = false ∨ s.cutPos.isSome = true) → exec .deferralRelease s = .next released)
      ∧ (s.zone.deferred = true → s.cutPos = none → ∀ c, s.zone.candidate = some c →
        (s.zone.effective ≠ some c.zone →
          ∃ t n, Crosses (some c.zone) true cleared t n ∧ exec .deferralRelease s = noticed t [n])
        ∧ (s.zone.effective = some c.zone → s.zone.tracking = .stale →
          exec .deferralRelease s =
            noticed cleared.replaced [s.zoneNews .placedAgain c.zone (s.zoneAt c.zone) .placed])))

/-- R157, R158, R159, R141, R160, R161: SILENCE_SET and SILENCE_LINE_CHANGE. A change that makes the part silent takes the
entry into silence; one that ends the silence tells RADIO and changes nothing else; one that leaves the silent state as
it was only records the flag or the line. -/
def Obligations.SilenceEnteredAndLeft : Prop :=
  ∀ (h : Header) (s : State), s.ready → s.hears h .silenceSet .radio →
    let flag (b : Bool) : Field := .u8 (if b then 1 else 0)
    let stands (line flagged : Bool) : State := { s with zone := { s.zone with line := line, flag := flagged } }
    let left : Notice := .silence false false false s.time.clock none
    exec (.silenceSet h none) s = refused h .silenceSet .badValue s
    ∧ exec (.silenceSet h (some s.zone.flag)) s =
        answered h .silenceSet .already [flag s.zone.flag, flag s.zone.line, flag (s.zone.line || s.zone.flag)] s s
    ∧ exec (.silenceLineChange s.zone.line) s = .next s
    ∧ (s.zone.flag = false → s.zone.line = true →
        exec (.silenceSet h (some true)) s = answered h .silenceSet .ok [.u8 1, .u8 1, .u8 1] s (stands true true)
        ∧ exec (.silenceLineChange false) s = noticed (stands false false) [left])
    ∧ (s.zone.flag = true → s.zone.line = true →
        exec (.silenceSet h (some false)) s = answered h .silenceSet .ok [.u8 0, .u8 1, .u8 1] s (stands true false)
        ∧ exec (.silenceLineChange false) s = .next (stands false true))
    ∧ (s.zone.flag = true → s.zone.line = false →
        exec (.silenceSet h (some false)) s =
          answered h .silenceSet .ok [.u8 0, .u8 0, .u8 0] s (stands false false) [left]
        ∧ exec (.silenceLineChange true) s = .next (stands true true))
    ∧ (s.zone.flag = false → s.zone.line = false → Books s → Listed s → Counts s →
        (∃ t ns, Silences (stands false true) t ns
          ∧ exec (.silenceSet h (some true)) s = answered h .silenceSet .ok [.u8 1, .u8 0, .u8 1] s t ns)
        ∧ ∃ t ns, Silences (stands true false) t ns ∧ exec (.silenceLineChange true) s = noticed t ns)

/-! ### The time base and the subscriber pass (Chapter 9) -/

/-- R166: PASS_START, at its instant, begins the next pass with the pending period; PASS_VISIT, at the instant of its handle,
visits it; before its instant each has no effect (the model's choice, log entry 14). A visit to an absent slot does
nothing but advance the position. -/
def Obligations.PassInstants : Prop :=
  ∀ s : State, s.ready →
    let t := s.time
    (t.passPos = 4072 → t.passPeriod * 1000 ≤ t.passElapsed →
      exec .passStart s = .next { s with time := { t with
        passPos := 0, passStart := min (t.passStart + t.passPeriod * 1000) 1099511627775
        passElapsed := t.passElapsed - t.passPeriod * 1000, passPeriod := t.settings.passPeriod } })
    ∧ ((t.passPos ≠ 4072 ∨ t.passElapsed < t.passPeriod * 1000) → exec .passStart s = .next s)
    ∧ ((4071 < t.passPos ∨ t.passElapsed < t.passPos * (t.passPeriod * 1000) / 4072) → exec .passVisit s = .next s)
    ∧ (t.passPos ≤ 4071 → t.passPos * (t.passPeriod * 1000) / 4072 ≤ t.passElapsed → s.ctx t.passPos = none →
      exec .passVisit s = .next { s with time := { t with passPos := t.passPos + 1 } })

/-- R167, R87, R86, R85, R34, R36, R52, R54: the visit to a present context. A passed ask lapses; an ATTACHED context whose
ask condition then holds asks for its top-up, and then each of its sessions that is idle or whose release deadline has
passed is closed; a DORMANT, unpinned context whose deadline has passed is retired. -/
def Obligations.PassVisitTakesDeadlines : Prop :=
  ∀ (k : Nat) (c : Context) (p : Partner) (s : State), s.ready → s.time.passPos = k → k ≤ 4071 →
    k * (s.time.passPeriod * 1000) / 4072 ≤ s.time.passElapsed → s.ctx k = some c → s.par c.partner = some p →
    Table.wf s.subs.contexts = true →
    let lapses : Bool := c.ask.any fun a => decide (a.deadline ≤ s.time.clock)
    let lapsed : Context := if lapses then { c with ask := none, lapsed := min (c.lapsed + 1) 255 } else c
    let advanced (t : State) : State := { t with time := { s.time with passPos := k + 1 } }
    let writes (d : Context) : State := advanced { s with subs := { s.subs with
      contexts := Table.set s.subs.contexts k d } }
    (c.presence = .dormant →
      let retires : Prop := c.pinned = false ∧ ∃ d, c.dormancy = some d ∧ d ≤ s.time.clock
      (¬ retires → exec .passVisit s = .next (writes lapsed))
      ∧ (retires → exec .passVisit s = noticed (advanced (s.retired k c p)) (farewell k lapsed p)))
    ∧ (c.presence = .attached →
      let asks : Prop := p.kind = .homeRoaming ∧ c.granted - c.consumed < p.lowWater ∧ lapsed.ask = none
        ∧ c.denied = false ∧ 0 < p.topUpStep
      let number := if c.lastAsk < 255 then c.lastAsk + 1 else 1
      let deadline := min (s.time.clock + s.settings.askTimeout * 1000) 1099511627775
      let news : List Notice := if asks then [.creditAsk k c.identity p.code number p.topUpStep deadline] else []
      let asked : Context := if asks then { lapsed with ask := some ⟨number, deadline⟩, lastAsk := number } else lapsed
      let ends (n : Nat) : Bool := (s.ses n).any fun x =>
        (s.settings.idle != 0 && decide (s.settings.idle * 1000 ≤ s.time.clock - x.lastUsage))
          || (s.releaseDeadline x).any fun d => decide (d ≤ s.time.clock)
      ((∀ n ∈ c.sessions, ends n = false) → exec .passVisit s = noticed (writes asked) news)
      ∧ (Listed s → ∃ (t : State) (d : Context) (ns : List Notice),
          exec .passVisit s = noticed (advanced t) (news ++ ns)
          ∧ t.ctx k = some d ∧ d.presence = .attached ∧ d.sessions = c.sessions.filter (fun n => !ends n)
          ∧ d.granted = c.granted ∧ d.pinned = c.pinned ∧ d.identity = c.identity
          ∧ (∀ j, j ≠ k → t.ctx j = s.ctx j)
          ∧ (∀ n x, n ∈ c.sessions → s.ses n = some x → if ends n then
                t.ses n = none ∧ ∃ reason amount blocks,
                  .sessionClosed n x.subscriber x.cls reason amount blocks x.ref ∈ ns
                  ∧ reason = (if s.settings.idle ≠ 0 ∧ s.settings.idle * 1000 ≤ s.time.clock - x.lastUsage then
                      CloseReason.idle else .released)
              else ∃ y, t.ses n = some y ∧ y = { x with service := y.service })
          ∧ (∀ n, n ∉ c.sessions → t.ses n = s.ses n)
          ∧ t.zone = s.zone ∧ t.time = s.time ∧ t.port = s.port ∧ t.cutPos = s.cutPos ∧ t.mig.queue = s.mig.queue))

/-! ### What holds between events -/

/-- R24, R75, R95, R23, R159, R44, R115, R116, R13: power-on leaves the books balanced, sessions and lists in agreement,
every count right and every plan use count right; so does State.reset. -/
def Obligations.InvariantsAtPowerOn : Prop :=
  (Books State.reset ∧ Listed State.reset ∧ Counts State.reset ∧ PlanUse State.reset)
    ∧ ∀ (line : Bool) (s t : State), exec (.powerOn line) s = .next t → Books t ∧ Listed t ∧ Counts t ∧ PlanUse t

/-- R24, R75, R84, R95: every step keeps the books: each context's subtotals sum to its folio and U equals it, neither U nor
G passes its ceiling, and each partner's open total, present count and closed account agree with its contexts. -/
def Obligations.StepKeepsBooks : Prop :=
  ∀ s t : State, Books s → step s = .next t → Books t

/-- R23, R122, R159, R161: every step keeps sessions and session lists in agreement, and keeps a silent part quiet: no
ATTACHED context, no order and no batch. -/
def Obligations.StepKeepsListed : Prop :=
  ∀ s t : State, Listed s → step s = .next t → Listed t

/-- R40, R44, R115, R116, R130: every step keeps every link's counts, the stranded count and the in-flight batch in
agreement with the open sessions, bound plus reserved within capacity, and nothing reserved on a link that is not UP. -/
def Obligations.StepKeepsCounts : Prop :=
  ∀ s t : State, Counts s → step s = .next t → Counts t
end

