-- ==== Sys2Proof/Laws/Table.lean ====
section
/-! SUPPORT. The laws of a sparse table: a read after a write, after an erasure, and the canonical form kept. -/

namespace Sys2Proof.Machine

variable {α : Type}

@[simp] theorem Table.get_nil (k : Nat) : Table.get ([] : Table α) k = none := rfl

@[simp] theorem Table.get_cons (j k : Nat) (a : α) (t : Table α) :
    Table.get ((j, a) :: t) k = if j = k then some a else Table.get t k := rfl

@[simp] theorem Table.get_set_same (t : Table α) (k : Nat) (a : α) : Table.get (Table.set t k a) k = some a := by
  induction t with
  | nil => simp [Table.set]
  | cons p t ih =>
    obtain ⟨j, b⟩ := p
    unfold Table.set
    split
    · simp
    · split
      · simp
      · rename_i h1 h2
        have h : j ≠ k := fun h => h2 h.symm
        simp [h, ih]

theorem Table.get_set_other (t : Table α) {k m : Nat} (a : α) (h : m ≠ k) :
    Table.get (Table.set t k a) m = Table.get t m := by
  have hk : k ≠ m := fun e => h e.symm
  induction t with
  | nil => simp [Table.set, hk]
  | cons p t ih =>
    obtain ⟨j, b⟩ := p
    unfold Table.set
    split
    · simp [hk]
    · split
      · rename_i h1 h2
        subst h2
        simp [hk]
      · by_cases hj : j = m <;> simp [hj, ih]

theorem Table.get_set (t : Table α) (k m : Nat) (a : α) :
    Table.get (Table.set t k a) m = if m = k then some a else Table.get t m := by
  by_cases h : m = k
  · subst h; simp
  · simp [h, Table.get_set_other t a h]

@[simp] theorem Table.get_erase_same (t : Table α) (k : Nat) : Table.get (Table.erase t k) k = none := by
  induction t with
  | nil => rfl
  | cons p t ih =>
    obtain ⟨j, b⟩ := p
    by_cases h : j = k
    · subst h; simpa [Table.erase] using ih
    · have : Table.erase ((j, b) :: t) k = (j, b) :: Table.erase t k := by simp [Table.erase, h]
      simp [this, h, ih]

theorem Table.get_erase_other (t : Table α) {k m : Nat} (h : m ≠ k) :
    Table.get (Table.erase t k) m = Table.get t m := by
  induction t with
  | nil => rfl
  | cons p t ih =>
    obtain ⟨j, b⟩ := p
    by_cases hj : j = k
    · subst hj
      have : Table.erase ((j, b) :: t) j = Table.erase t j := by simp [Table.erase]
      have hjm : j ≠ m := fun e => h e.symm
      simp [this, ih, hjm]
    · have : Table.erase ((j, b) :: t) k = (j, b) :: Table.erase t k := by simp [Table.erase, hj]
      rw [this]
      simp [ih]

theorem Table.risingFrom_weaken (t : Table α) {b c : Option Nat} (h : ∀ k, b.all (· < k) = true → c.all (· < k) = true)
    (ht : Table.risingFrom b t = true) : Table.risingFrom c t = true := by
  cases t with
  | nil => rfl
  | cons p t =>
    obtain ⟨j, a⟩ := p
    simp only [Table.risingFrom, Bool.and_eq_true] at ht ⊢
    exact ⟨h j ht.1, ht.2⟩

theorem Table.risingFrom_set (t : Table α) (k : Nat) (a : α) (b : Option Nat) (hb : b.all (· < k) = true)
    (ht : Table.risingFrom b t = true) : Table.risingFrom b (Table.set t k a) = true := by
  induction t generalizing b with
  | nil => simp [Table.set, Table.risingFrom, hb]
  | cons p t ih =>
    obtain ⟨j, c⟩ := p
    simp only [Table.risingFrom, Bool.and_eq_true] at ht
    unfold Table.set
    split
    · rename_i h
      simp [Table.risingFrom, hb, h, ht.2]
    · split
      · rename_i h1 h2
        subst h2
        simp [Table.risingFrom, hb, ht.2]
      · rename_i h1 h2
        have hlt : j < k := by omega
        simp only [Table.risingFrom, Bool.and_eq_true]
        exact ⟨ht.1, ih (some j) (by simpa using hlt) ht.2⟩

/-- A write keeps the canonical form. -/
theorem Table.wf_set (t : Table α) (k : Nat) (a : α) (ht : t.wf = true) : (Table.set t k a).wf = true :=
  Table.risingFrom_set t k a none rfl ht

theorem Table.risingFrom_erase (t : Table α) (k : Nat) (b : Option Nat) (ht : Table.risingFrom b t = true) :
    Table.risingFrom b (Table.erase t k) = true := by
  induction t generalizing b with
  | nil => rfl
  | cons p t ih =>
    obtain ⟨j, c⟩ := p
    simp only [Table.risingFrom, Bool.and_eq_true] at ht
    by_cases h : j = k
    · have : Table.erase ((j, c) :: t) k = Table.erase t k := by simp [Table.erase, h]
      rw [this]
      refine ih b (Table.risingFrom_weaken t ?_ ht.2)
      intro m hm
      cases b with
      | none => rfl
      | some n =>
        have h1 : n < j := by simpa using ht.1
        have h2 : j < m := by simpa using hm
        simpa using Nat.lt_trans h1 h2
    · have : Table.erase ((j, c) :: t) k = (j, c) :: Table.erase t k := by simp [Table.erase, h]
      rw [this]
      simp only [Table.risingFrom, Bool.and_eq_true]
      exact ⟨ht.1, ih (some j) ht.2⟩

/-- An erasure keeps the canonical form. -/
theorem Table.wf_erase (t : Table α) (k : Nat) (ht : t.wf = true) : (Table.erase t k).wf = true :=
  Table.risingFrom_erase t k none ht

/-- The first free number is not listed and lies in the range searched; every number below it is listed. -/
theorem Table.firstFree_spec (t : Table α) (b n k : Nat) (h : Table.firstFree t b n = some k) :
    Table.has t k = false ∧ b ≤ k ∧ k < b + n ∧ ∀ m, b ≤ m → m < k → Table.has t m = true := by
  induction n generalizing b with
  | zero => simp [Table.firstFree] at h
  | succ n ih =>
    unfold Table.firstFree at h
    split at h
    · rename_i hb
      obtain ⟨h1, h2, h3, h4⟩ := ih (b + 1) h
      refine ⟨h1, by omega, by omega, fun m hm hk => ?_⟩
      by_cases e : m = b
      · subst e; exact hb
      · exact h4 m (by omega) hk
    · rename_i hb
      cases h
      exact ⟨by simpa using hb, Nat.le_refl _, by omega, fun m hm hk => absurd hk (by omega)⟩

/-- A record that is read is listed. -/
theorem Table.mem_of_get {t : Table α} {k : Nat} {a : α} (h : Table.get t k = some a) : (k, a) ∈ t := by
  induction t with
  | nil => simp at h
  | cons p rest ih =>
    obtain ⟨j, b⟩ := p
    simp only [Table.get_cons] at h
    split at h
    · simp_all
    · exact List.mem_cons_of_mem _ (ih h)

/-- In the canonical form every number listed lies above the bound. -/
theorem Table.above_of_rising {t : Table α} {j : Nat} (ht : Table.risingFrom (some j) t = true) :
    ∀ p ∈ t, j < p.1 := by
  induction t generalizing j with
  | nil => simp
  | cons p rest ih =>
    simp only [Table.risingFrom, Option.all_some, Bool.and_eq_true, decide_eq_true_eq] at ht
    intro q hq
    rcases List.mem_cons.mp hq with rfl | hq
    · exact ht.1
    · exact Nat.lt_trans ht.1 (ih ht.2 q hq)

/-- In the canonical form a listed record is the one that is read. -/
theorem Table.get_of_mem {t : Table α} {k : Nat} {a : α} (ht : t.wf = true) (h : (k, a) ∈ t) : Table.get t k = some a := by
  unfold Table.wf at ht
  generalize (none : Option Nat) = b at ht
  induction t generalizing b with
  | nil => simp at h
  | cons p rest ih =>
    obtain ⟨j, c⟩ := p
    simp only [Table.risingFrom, Bool.and_eq_true] at ht
    rcases List.mem_cons.mp h with e | hm
    · cases e; simp
    · have : j < k := Table.above_of_rising ht.2 _ hm
      rw [Table.get_cons, if_neg (by omega)]
      exact ih hm _ ht.2

end Sys2Proof.Machine
end

