-- ==== Sys2Proof/Laws/State.lean ====
section
/-! SUPPORT. The updates of the state: for each named write, what every other part of the state reads after it, and
what the record written reads. -/

namespace Sys2Proof.Machine

variable (s : State)

/-! ### Writing a context, a session or a partner -/

@[simp] theorem State.setCtx_port (h : Nat) (c : Context) : (s.setCtx h c).port = s.port := rfl
@[simp] theorem State.setCtx_tariff (h : Nat) (c : Context) : (s.setCtx h c).tariff = s.tariff := rfl
@[simp] theorem State.setCtx_sess (h : Nat) (c : Context) : (s.setCtx h c).sess = s.sess := rfl
@[simp] theorem State.setCtx_cutPos (h : Nat) (c : Context) : (s.setCtx h c).cutPos = s.cutPos := rfl
@[simp] theorem State.setCtx_links (h : Nat) (c : Context) : (s.setCtx h c).links = s.links := rfl
@[simp] theorem State.setCtx_mig (h : Nat) (c : Context) : (s.setCtx h c).mig = s.mig := rfl
@[simp] theorem State.setCtx_zone (h : Nat) (c : Context) : (s.setCtx h c).zone = s.zone := rfl
@[simp] theorem State.setCtx_time (h : Nat) (c : Context) : (s.setCtx h c).time = s.time := rfl
@[simp] theorem State.setCtx_raised (h : Nat) (c : Context) : (s.setCtx h c).raised = s.raised := rfl
@[simp] theorem State.setCtx_pending (h : Nat) (c : Context) : (s.setCtx h c).pending = s.pending := rfl

@[simp] theorem State.setSes_port (n : Nat) (x : Session) : (s.setSes n x).port = s.port := rfl
@[simp] theorem State.setSes_tariff (n : Nat) (x : Session) : (s.setSes n x).tariff = s.tariff := rfl
@[simp] theorem State.setSes_subs (n : Nat) (x : Session) : (s.setSes n x).subs = s.subs := rfl
@[simp] theorem State.setSes_cutPos (n : Nat) (x : Session) : (s.setSes n x).cutPos = s.cutPos := rfl
@[simp] theorem State.setSes_links (n : Nat) (x : Session) : (s.setSes n x).links = s.links := rfl
@[simp] theorem State.setSes_mig (n : Nat) (x : Session) : (s.setSes n x).mig = s.mig := rfl
@[simp] theorem State.setSes_zone (n : Nat) (x : Session) : (s.setSes n x).zone = s.zone := rfl
@[simp] theorem State.setSes_time (n : Nat) (x : Session) : (s.setSes n x).time = s.time := rfl
@[simp] theorem State.setSes_raised (n : Nat) (x : Session) : (s.setSes n x).raised = s.raised := rfl
@[simp] theorem State.setSes_pending (n : Nat) (x : Session) : (s.setSes n x).pending = s.pending := rfl

@[simp] theorem State.setPar_port (p : Nat) (r : Partner) : (s.setPar p r).port = s.port := rfl
@[simp] theorem State.setPar_subs (p : Nat) (r : Partner) : (s.setPar p r).subs = s.subs := rfl
@[simp] theorem State.setPar_sess (p : Nat) (r : Partner) : (s.setPar p r).sess = s.sess := rfl
@[simp] theorem State.setPar_cutPos (p : Nat) (r : Partner) : (s.setPar p r).cutPos = s.cutPos := rfl
@[simp] theorem State.setPar_links (p : Nat) (r : Partner) : (s.setPar p r).links = s.links := rfl
@[simp] theorem State.setPar_mig (p : Nat) (r : Partner) : (s.setPar p r).mig = s.mig := rfl
@[simp] theorem State.setPar_zone (p : Nat) (r : Partner) : (s.setPar p r).zone = s.zone := rfl
@[simp] theorem State.setPar_time (p : Nat) (r : Partner) : (s.setPar p r).time = s.time := rfl
@[simp] theorem State.setPar_raised (p : Nat) (r : Partner) : (s.setPar p r).raised = s.raised := rfl
@[simp] theorem State.setPar_pending (p : Nat) (r : Partner) : (s.setPar p r).pending = s.pending := rfl

/-! ### Reads after those writes -/

@[simp] theorem State.ctx_setCtx (h : Nat) (c : Context) : (s.setCtx h c).ctx h = some c :=
  Table.get_set_same _ _ _
theorem State.ctx_setCtx_other {h k : Nat} (c : Context) (hk : k ≠ h) : (s.setCtx h c).ctx k = s.ctx k :=
  Table.get_set_other _ _ hk
@[simp] theorem State.ctx_setSes (n : Nat) (x : Session) (h : Nat) : (s.setSes n x).ctx h = s.ctx h := rfl
@[simp] theorem State.ctx_setPar (p : Nat) (r : Partner) (h : Nat) : (s.setPar p r).ctx h = s.ctx h := rfl

@[simp] theorem State.ses_setSes (n : Nat) (x : Session) : (s.setSes n x).ses n = some x :=
  Table.get_set_same _ _ _
theorem State.ses_setSes_other {n m : Nat} (x : Session) (hm : m ≠ n) : (s.setSes n x).ses m = s.ses m :=
  Table.get_set_other _ _ hm
@[simp] theorem State.ses_setCtx (h : Nat) (c : Context) (n : Nat) : (s.setCtx h c).ses n = s.ses n := rfl
@[simp] theorem State.ses_setPar (p : Nat) (r : Partner) (n : Nat) : (s.setPar p r).ses n = s.ses n := rfl

@[simp] theorem State.par_setPar (p : Nat) (r : Partner) : (s.setPar p r).par p = some r :=
  Table.get_set_same _ _ _
theorem State.par_setPar_other {p q : Nat} (r : Partner) (hq : q ≠ p) : (s.setPar p r).par q = s.par q :=
  Table.get_set_other _ _ hq
@[simp] theorem State.par_setCtx (h : Nat) (c : Context) (p : Nat) : (s.setCtx h c).par p = s.par p := rfl
@[simp] theorem State.par_setSes (n : Nat) (x : Session) (p : Nat) : (s.setSes n x).par p = s.par p := rfl

@[simp] theorem State.link_setCtx (h : Nat) (c : Context) (l : LinkId) : (s.setCtx h c).link l = s.link l := rfl
@[simp] theorem State.link_setSes (n : Nat) (x : Session) (l : LinkId) : (s.setSes n x).link l = s.link l := rfl
@[simp] theorem State.link_setPar (p : Nat) (r : Partner) (l : LinkId) : (s.setPar p r).link l = s.link l := rfl

/-! ### Writing a link, the queue, the batch, the zone tracker or the time base -/

@[simp] theorem State.link_modLink (l : LinkId) (f : Link → Link) : (s.modLink l f).link l = f (s.link l) := by
  simp [State.modLink, State.link]
theorem State.link_modLink_other {l m : LinkId} (f : Link → Link) (hm : m ≠ l) :
    (s.modLink l f).link m = s.link m := by
  have h : l.val ≠ m.val := fun e => hm (Fin.ext e.symm)
  simp [State.modLink, State.link, h]

@[simp] theorem State.modLink_port (l : LinkId) (f : Link → Link) : (s.modLink l f).port = s.port := rfl
@[simp] theorem State.modLink_tariff (l : LinkId) (f : Link → Link) : (s.modLink l f).tariff = s.tariff := rfl
@[simp] theorem State.modLink_subs (l : LinkId) (f : Link → Link) : (s.modLink l f).subs = s.subs := rfl
@[simp] theorem State.modLink_sess (l : LinkId) (f : Link → Link) : (s.modLink l f).sess = s.sess := rfl
@[simp] theorem State.modLink_cutPos (l : LinkId) (f : Link → Link) : (s.modLink l f).cutPos = s.cutPos := rfl
@[simp] theorem State.modLink_mig (l : LinkId) (f : Link → Link) : (s.modLink l f).mig = s.mig := rfl
@[simp] theorem State.modLink_zone (l : LinkId) (f : Link → Link) : (s.modLink l f).zone = s.zone := rfl
@[simp] theorem State.modLink_time (l : LinkId) (f : Link → Link) : (s.modLink l f).time = s.time := rfl
@[simp] theorem State.modLink_raised (l : LinkId) (f : Link → Link) : (s.modLink l f).raised = s.raised := rfl
@[simp] theorem State.modLink_pending (l : LinkId) (f : Link → Link) : (s.modLink l f).pending = s.pending := rfl
@[simp] theorem State.ctx_modLink (l : LinkId) (f : Link → Link) (h : Nat) : (s.modLink l f).ctx h = s.ctx h := rfl
@[simp] theorem State.ses_modLink (l : LinkId) (f : Link → Link) (n : Nat) : (s.modLink l f).ses n = s.ses n := rfl
@[simp] theorem State.par_modLink (l : LinkId) (f : Link → Link) (p : Nat) : (s.modLink l f).par p = s.par p := rfl

@[simp] theorem State.setQueue_queue (q : List Order) : (s.setQueue q).mig.queue = q := rfl
@[simp] theorem State.setQueue_batch (q : List Order) : (s.setQueue q).mig.batch = s.mig.batch := rfl
@[simp] theorem State.setBatch_batch (b : Option Batch) : (s.setBatch b).mig.batch = b := rfl
@[simp] theorem State.setBatch_queue (b : Option Batch) : (s.setBatch b).mig.queue = s.mig.queue := rfl

@[simp] theorem State.modZone_zone (f : ZoneTracker → ZoneTracker) : (s.modZone f).zone = f s.zone := rfl
@[simp] theorem State.modTime_time (f : TimeBase → TimeBase) : (s.modTime f).time = f s.time := rfl

@[simp] theorem tellZone_zone (c : ZoneCause) :
    (tellZone c s).zone = { s.zone with report := some ⟨c, s.tariff.epoch⟩ } := rfl
@[simp] theorem tellZone_raised (c : ZoneCause) : (tellZone c s).raised = s.raised ++ [s.zoneNotice c] := rfl
@[simp] theorem tellZone_port (c : ZoneCause) : (tellZone c s).port = s.port := rfl
@[simp] theorem tellZone_tariff (c : ZoneCause) : (tellZone c s).tariff = s.tariff := rfl
@[simp] theorem tellZone_subs (c : ZoneCause) : (tellZone c s).subs = s.subs := rfl
@[simp] theorem tellZone_sess (c : ZoneCause) : (tellZone c s).sess = s.sess := rfl
@[simp] theorem tellZone_cutPos (c : ZoneCause) : (tellZone c s).cutPos = s.cutPos := rfl
@[simp] theorem tellZone_links (c : ZoneCause) : (tellZone c s).links = s.links := rfl
@[simp] theorem tellZone_mig (c : ZoneCause) : (tellZone c s).mig = s.mig := rfl
@[simp] theorem tellZone_time (c : ZoneCause) : (tellZone c s).time = s.time := rfl
@[simp] theorem tellZone_pending (c : ZoneCause) : (tellZone c s).pending = s.pending := rfl

@[simp] theorem State.raise_raised (n : Notice) : (s.raise n).raised = s.raised ++ [n] := rfl
@[simp] theorem State.raise_port (n : Notice) : (s.raise n).port = s.port := rfl
@[simp] theorem State.raise_tariff (n : Notice) : (s.raise n).tariff = s.tariff := rfl
@[simp] theorem State.raise_subs (n : Notice) : (s.raise n).subs = s.subs := rfl
@[simp] theorem State.raise_sess (n : Notice) : (s.raise n).sess = s.sess := rfl
@[simp] theorem State.raise_cutPos (n : Notice) : (s.raise n).cutPos = s.cutPos := rfl
@[simp] theorem State.raise_links (n : Notice) : (s.raise n).links = s.links := rfl
@[simp] theorem State.raise_mig (n : Notice) : (s.raise n).mig = s.mig := rfl
@[simp] theorem State.raise_zone (n : Notice) : (s.raise n).zone = s.zone := rfl
@[simp] theorem State.raise_time (n : Notice) : (s.raise n).time = s.time := rfl
@[simp] theorem State.raise_pending (n : Notice) : (s.raise n).pending = s.pending := rfl
@[simp] theorem State.ctx_raise (n : Notice) (h : Nat) : (s.raise n).ctx h = s.ctx h := rfl
@[simp] theorem State.ses_raise (n : Notice) (m : Nat) : (s.raise n).ses m = s.ses m := rfl
@[simp] theorem State.par_raise (n : Notice) (p : Nat) : (s.raise n).par p = s.par p := rfl
@[simp] theorem State.link_raise (n : Notice) (l : LinkId) : (s.raise n).link l = s.link l := rfl

end Sys2Proof.Machine
end

