-- ==== Sys2Proof/Laws/Charge.lean ====
section
/-! SUPPORT. What a charge does, said once: the amount applied, the evaluation after it, and the cut of a session. -/

namespace Sys2Proof.Machine

/-- The second of two writes at one number is the one that counts. -/
theorem Table.set_set {α : Type} (t : Table α) (k : Nat) (a b : α) :
    Table.set (Table.set t k a) k b = Table.set t k b := by
  induction t with
  | nil => simp [Table.set]
  | cons p t ih =>
    obtain ⟨j, c⟩ := p
    simp only [Table.set]
    split
    · simp [Table.set]
    · split
      · simp [Table.set]
      · rename_i h1 h2
        simp [Table.set, h1, h2, ih]

@[simp] theorem State.setSes_setSes (s : State) (n : Nat) (x y : Session) :
    (s.setSes n x).setSes n y = s.setSes n y := by
  simp [State.setSes, Table.set_set]

/-- What a session handle reads after a change at a handle. -/
theorem State.ses_modSes (s : State) (n : Nat) (f : Session → Session) (m : Nat) :
    (s.modSes n f).ses m = if m = n then (s.ses n).map f else s.ses m := by
  simp only [State.modSes]
  cases h : s.ses n with
  | none => by_cases hm : m = n <;> simp [hm, h]
  | some x => simp [State.ses, State.setSes, Table.get_set]

/-- A change at a session handle writes the session records and nothing else. -/
theorem State.modSes_records (s : State) (n : Nat) (f : Session → Session) :
    s.modSes n f = { s with sess := { s.sess with records := (s.modSes n f).sess.records } } := by
  simp only [State.modSes]; split <;> rfl

/-- Giving sessions a service state writes the session records and nothing else. -/
theorem setService_records (v : Service) (ns : List Nat) (s : State) :
    setService v ns s = { s with sess := { s.sess with records := (setService v ns s).sess.records } } := by
  simp only [setService]
  induction ns generalizing s with
  | nil => rfl
  | cons n ns ih => rw [List.foldl_cons, ih, State.modSes_records]

/-- What a session handle reads after the sessions listed are given a service state. -/
theorem setService_ses (v : Service) (ns : List Nat) (s : State) (m : Nat) :
    (setService v ns s).ses m = if m ∈ ns then (s.ses m).map fun x => { x with service := v } else s.ses m := by
  simp only [setService]
  induction ns generalizing s with
  | nil => simp
  | cons n ns ih =>
    rw [List.foldl_cons, ih, State.ses_modSes]
    by_cases h : m = n
    · subst h; cases s.ses m <;> simp
    · simp [h]


/-- R86: the ask condition, as the manual words it. -/
theorem askCondition_iff (c : Context) (p : Partner) :
    askCondition c p = true ↔ c.presence = .attached ∧ p.kind = .homeRoaming ∧ c.granted - c.consumed < p.lowWater
      ∧ c.ask = none ∧ c.denied = false ∧ 0 < p.topUpStep := by
  simp only [askCondition, Bool.and_eq_true, decide_eq_true_eq, beq_iff_eq, Option.isNone_iff_eq_none,
    Bool.not_eq_true', and_assoc]
  rfl

/-- R85: 1 follows 255, and 0 is never used. -/
theorem nextAsk_eq (k : Nat) : nextAsk k = if k < 255 then k + 1 else 1 := by
  simp only [nextAsk]; split <;> split <;> omega

/-- R85, R86: judging the ask condition of a context under its partner. -/
theorem judgeAsk_eq {s : State} {h : Nat} {c : Context} {p : Partner} (hc : s.ctx h = some c)
    (hp : s.par c.partner = some p) :
    judgeAsk h s = if askCondition c p then
      let d := min (s.time.clock + s.settings.askTimeout * 1000) clockMax
      (s.setCtx h { c with ask := some ⟨nextAsk c.lastAsk, d⟩, lastAsk := nextAsk c.lastAsk }).raise
        (.creditAsk h c.identity p.code (nextAsk c.lastAsk) p.topUpStep d) else s := by
  simp [judgeAsk, issueAsk, hc, hp, deadlineAfter, State.now]

/-- R93: judging exhaustion of a context. -/
theorem judgeExhaustion_eq {s : State} {h : Nat} {c : Context} (hc : s.ctx h = some c) :
    judgeExhaustion h s = if c.granted ≤ c.consumed ∧ c.credit = .funded then
      (setService .blocked (s.toBlock c) (s.setCtx h { c with credit := .exhausted })).raise
        (.blocked h c.ref c.granted c.consumed (s.toBlock c)) else s := by
  simp [judgeExhaustion, hc]

/-- R75: applying an amount to a session that has its context and its partner. -/
theorem applyAmount_eq {s : State} {n : Nat} {x : Session} {c : Context} {p : Partner} (z : ZoneClass) (k : Nat)
    (hx : s.ses n = some x) (hc : s.ctx x.subscriber = some c) (hp : s.par c.partner = some p) :
    applyAmount n z k s = ((s.setSes n { x with charge := x.charge + headroomOf c k }).setCtx x.subscriber
      (c.apply z (headroomOf c k))).setPar c.partner { p with openTotal := p.openTotal + headroomOf c k } := by
  simp [applyAmount, hx, hc, State.modPar, hp]

/-- An amount of 0 adds nothing. -/
@[simp] theorem Subtotals.add_zero (b : Subtotals) (z : ZoneClass) : b.add z 0 = b := by cases z <;> rfl

/-- R75, R76, R85, R86, R93: what a charge does, said once. The record the charge finds has the class and the service
state of the record it replaces. -/
theorem charge_charges {s : State} {n : Nat} {x y : Session} (z : ZoneClass) (k : Nat) (hy : s.ses n = some y)
    (h1 : x.cls = y.cls) (h2 : x.service = y.service)
    {c : Context} {p : Partner} (hc : s.ctx x.subscriber = some c) (hp : s.par c.partner = some p) :
    ∃ t blocked asked, Charges n x z k s t blocked asked
      ∧ charge n z k (s.setSes n x) = { t with raised := s.raised ++ blocked ++ asked } := by
  by_cases hk : k = 0
  · subst hk
    refine ⟨s.setSes n x, [], [], ?_, by simp [charge, State.setSes]⟩
    intro c' p' hc' hp'
    rw [hc] at hc'; cases hc'; rw [hp] at hp'; cases hp'
    have hcm : ∀ m, s.ctx m = if m = x.subscriber then some c else s.ctx m := by
      intro m; split
      · rename_i h; rw [h, hc]
      · rfl
    have hpm : ∀ m, s.par m = if m = c.partner then some p else s.par m := by
      intro m; split
      · rename_i h; rw [h, hp]
      · rfl
    refine ⟨rfl, ?_, ?_, ?_, by simp, by simp⟩
    · intro m; simp [State.ses, State.setSes, Table.get_set]
    · intro m; simpa using hcm m
    · intro m; simpa using hpm m
  · have hk' : 0 < k := Nat.pos_of_ne_zero hk
    generalize ha : headroomOf c k = h
    have hA := applyAmount_eq z k (State.ses_setSes s n x) hc hp
    rw [ha] at hA
    generalize hAe : applyAmount n z k (s.setSes n x) = A at hA
    have hS : charge n z k (s.setSes n x) = judgeAsk x.subscriber (judgeExhaustion x.subscriber A) := by
      simp [charge, hk, hAe, evaluateCredit]
    have hctx : A.ctx x.subscriber = some (c.apply z h) := by rw [hA]; simp
    have hpar : A.par c.partner = some { p with openTotal := p.openTotal + h } := by rw [hA]; simp
    have hends : A.toBlock (c.apply z h)
        = c.sessions.filter fun m => (s.ses m).any fun y => y.cls != .emergency && y.service == .active := by
      simp only [State.toBlock, Context.apply]
      congr 1; funext m
      rw [hA]
      by_cases hm : m = n
      · subst hm; simp [hy, h1, h2]
      · simp [State.ses_setSes_other _ _ hm]
    have hses : ∀ m, A.ses m = if m = n then some { x with charge := x.charge + h } else s.ses m := by
      intro m; rw [hA]; simp [State.ses, State.setSes, State.setCtx, State.setPar, Table.get_set]; split <;> rfl
    have hcm : ∀ m, A.ctx m = if m = x.subscriber then some (c.apply z h) else s.ctx m := by
      intro m; rw [hA]; simp [State.ctx, State.setSes, State.setCtx, State.setPar, Table.get_set]
    have hpm : ∀ m, A.par m = if m = c.partner then some { p with openTotal := p.openTotal + h } else s.par m := by
      intro m; rw [hA]; simp [State.par, State.setSes, State.setCtx, State.setPar, Table.get_set]
    have hframe : A = { s with
        sess := { s.sess with records := A.sess.records }
        subs := { s.subs with contexts := A.subs.contexts }
        tariff := { s.tariff with partners := A.tariff.partners } } := by rw [hA]; rfl
    have hraised : A.raised = s.raised := by rw [hframe]
    let ends := c.sessions.filter fun m => (s.ses m).any fun y => y.cls != .emergency && y.service == .active
    let exhausts := c.credit = .funded ∧ c.granted ≤ c.consumed + h
    let told : List Notice := if exhausts then [.blocked x.subscriber c.ref c.granted (c.consumed + h) ends] else []
    let c2 : Context := { c.apply z h with credit := if exhausts then .exhausted else c.credit }
    obtain ⟨B, hBe, hBses, hBcm, hBpm, hBframe⟩ : ∃ B, judgeExhaustion x.subscriber A = B
        ∧ (∀ m, B.ses m = if exhausts ∧ m ∈ ends
            then (A.ses m).map (fun y => { y with service := .blocked }) else A.ses m)
        ∧ (∀ m, B.ctx m = if m = x.subscriber then some c2 else s.ctx m) ∧ (∀ m, B.par m = A.par m)
        ∧ B = { s with
          sess := { s.sess with records := B.sess.records }
          subs := { s.subs with contexts := B.subs.contexts }
          tariff := { s.tariff with partners := B.tariff.partners }
          raised := s.raised ++ told } := by
      refine ⟨_, rfl, ?_⟩
      rw [judgeExhaustion_eq hctx, hends]
      by_cases hex : exhausts
      · rw [if_pos ⟨hex.2, hex.1⟩]
        refine ⟨?_, ?_, ?_, ?_⟩
        · intro m; simp only [State.ses_raise, setService_ses, State.ses_setCtx]; simp only [hex, true_and]; rfl
        · intro m; rw [setService_records]; simp only [State.ctx_raise, c2, hex, if_true]
          show (A.setCtx _ _).ctx m = _
          by_cases hm : m = x.subscriber
          · subst hm; simp
          · rw [State.ctx_setCtx_other _ _ hm, hcm, if_neg hm, if_neg hm]
        · intro m; rw [setService_records]; rfl
        · rw [setService_records]; simp only [told, hex, if_true]
          rw [hframe]; rfl
      · rw [if_neg fun ⟨a, b⟩ => hex ⟨b, a⟩]
        refine ⟨fun m => by rw [if_neg fun hx => hex hx.1], ?_, fun m => rfl, ?_⟩
        · intro m; rw [hcm]; simp only [c2, hex, if_false]; rfl
        · simp only [told, hex, if_false, List.append_nil]; exact hframe
    have hBctx : B.ctx x.subscriber = some c2 := by rw [hBcm]; simp
    have hBpar : B.par c2.partner = some { p with openTotal := p.openTotal + h } := by rw [hBpm]; exact hpar
    have hhead : min k (999999999999 - c.folio) = h := ha
    have hpm' : ∀ m, B.par m = if m = c.partner then some { p with openTotal := p.openTotal + h } else s.par m :=
      fun m => by rw [hBpm, hpm]
    have hses' : ∀ m, B.ses m =
        let y := if m = n then some { x with charge := x.charge + h } else s.ses m
        if exhausts ∧ m ∈ ends then y.map fun y => { y with service := .blocked } else y :=
      fun m => by simp only [hBses, hses]
    have hB1 : B.time = s.time := by rw [hBframe]
    have hB2 : B.raised = s.raised ++ told := by rw [hBframe]
    rw [hS, hBe, judgeAsk_eq hBctx hBpar]
    by_cases hq : askCondition c2 { p with openTotal := p.openTotal + h } = true
    · have hqi := (askCondition_iff _ _).1 hq
      rw [if_pos hq]
      refine ⟨{ (B.setCtx x.subscriber { c2 with
          ask := some ⟨nextAsk c2.lastAsk, min (B.time.clock + B.settings.askTimeout * 1000) clockMax⟩
          lastAsk := nextAsk c2.lastAsk }) with raised := s.raised }, told,
        [.creditAsk x.subscriber c2.identity p.code (nextAsk c2.lastAsk) p.topUpStep
          (min (B.time.clock + B.settings.askTimeout * 1000) clockMax)], ?_, ?_⟩
      · intro c' p' hc' hp'
        rw [hc] at hc'; cases hc'; rw [hp] at hp'; cases hp'
        simp only [hk', true_and, hhead]
        have hqi' : c.presence = .attached ∧ p.kind = .homeRoaming ∧ c.granted - (c.consumed + h) < p.lowWater
          ∧ c.ask = none ∧ c.denied = false ∧ 0 < p.topUpStep := hqi
        simp only [if_pos hqi', ← nextAsk_eq]
        refine ⟨by rw [hBframe]; rfl, hses', ?_, hpm', rfl, ?_⟩
        · intro m
          show (B.setCtx _ _).ctx m = _
          by_cases hm : m = x.subscriber
          · subst hm; rw [State.ctx_setCtx, if_pos rfl]; simp only [State.settings, hB1]; rfl
          · rw [State.ctx_setCtx_other _ _ hm, hBcm, if_neg hm, if_neg hm]
        · simp only [State.settings, hB1]; rfl
      · simp only [State.raise, State.setCtx, hB2, List.append_assoc]
    · have hqi := fun hx => hq ((askCondition_iff c2 _).2 hx)
      rw [if_neg hq]
      refine ⟨{ B with raised := s.raised }, told, [], ?_, by rw [hBframe]; simp⟩
      intro c' p' hc' hp'
      rw [hc] at hc'; cases hc'; rw [hp] at hp'; cases hp'
      simp only [hk', true_and, hhead]
      have hqi' : ¬(c.presence = .attached ∧ p.kind = .homeRoaming ∧ c.granted - (c.consumed + h) < p.lowWater
        ∧ c.ask = none ∧ c.denied = false ∧ 0 < p.topUpStep) := hqi
      simp only [if_neg hqi']
      exact ⟨by rw [hBframe], hses', hBcm, hpm', rfl, trivial⟩

/-- R70, R71: a cut charges the residue's share, at the values given, and makes the session's epoch current. -/
theorem cutAt_charges {s : State} {n : Nat} {x : Session} (q : Price) (hx : s.ses n = some x)
    (hr : x.hasResidue = true) {c : Context} {p : Partner} (hc : s.ctx x.subscriber = some c)
    (hp : s.par c.partner = some p) :
    let u := x.residue * q.cell.price * q.factor / q.cell.blockSize + x.carry
    ∃ t blocked asked,
      Charges n { x with residue := 0, carry := u % 1000, epoch := s.tariff.epoch } q.zoneClass (u / 1000) s t blocked asked
        ∧ cutAt n q s = { t with raised := s.raised ++ blocked ++ asked } := by
  intro u
  have := charge_charges (x := { x with residue := 0, carry := u % 1000, epoch := s.tariff.epoch }) q.zoneClass (u / 1000)
    hx rfl rfl hc hp
  simpa [cutAt, hx, hr, chargeThousandths, State.modSes, shareThousandths, u] using this

/-- R70: a session with no residue to charge is only brought to the current epoch. -/
theorem cutAt_no_residue {s : State} {n : Nat} {x : Session} (q : Price) (hx : s.ses n = some x)
    (hr : x.hasResidue = false) : cutAt n q s = s.setSes n { x with epoch := s.tariff.epoch } := by
  simp [cutAt, hx, hr]

end Sys2Proof.Machine
end

