-- ==== Sys2Proof/Laws/Links.lean ====
section
/-! SUPPORT. What a change of a link does, said once: the link table, the notice, and the order it hands the queue. -/

namespace Sys2Proof.Machine

/-- A change of a link writes the link table and nothing else. -/
theorem State.modLink_links (s : State) (l : LinkId) (f : Link → Link) :
    s.modLink l f = { s with links := s.links.set l (f (s.link l)) } := rfl

/-- The second of two writes of one link is the one that counts. -/
theorem links_set_set (v : Vector Link 8) (l : LinkId) (a b : Link) : (v.set l a).set l b = v.set l b := by
  ext i; simp [Vector.getElem_set]

/-- What a link reads after a write of the link table. -/
theorem State.link_set (s : State) (l m : LinkId) (a : Link) :
    ({ s with links := s.links.set l a } : State).link m = if m = l then a else s.link m := by
  simp [State.link, Vector.getElem_set, Fin.ext_iff, eq_comm]

/-- R123: an order of the part's own changes the queue as the manual says and nothing else. -/
theorem raiseOrder_eq (src : Source) (sc : Scope) (ca : OrderCause) (s : State) :
    raiseOrder src sc ca s = { s with
      mig := { s.mig with queue := handedOrder s.silent src sc ca s.mig.queue } } := by
  simp only [raiseOrder, handedOrder, State.setQueue, newOrder]
  split
  · rfl
  · split
    · split <;> rfl
    · rfl

/-- R110, R111: a change of link state that loses no batch writes the link, raises its notice, and hands the
queue the order the change calls for. -/
theorem changeState_eq (l : LinkId) (st : LinkState) (ca : LinkCause) (s : State)
    (hb : ∀ b, s.mig.batch = some b → b.dest = l → (s.link l).state = .up → st = .up) :
    changeState l st ca s = { s with
      links := s.links.set l { s.link l with state := st, streak := 0 }
      raised := s.raised ++ [.linkState l (s.link l).kind (s.link l).state st ca
        (s.link l).quality (s.link l).bound (s.link l).emergency (s.link l).discrepancy]
      mig := { s.mig with queue := match st, (s.link l).state with
        | .degraded, .up | .degraded, .down => handedOrder s.silent (.link l) .all .degraded s.mig.queue
        | .down, .up | .down, .degraded => handedOrder s.silent (.link l) .all .failed s.mig.queue
        | .suspect, .down | .suspect, .up | .suspect, .degraded => handedOrder s.silent (.link l) .all .failed s.mig.queue
        | .up, .down | .up, .degraded =>
          if 0 < s.sess.stranded then handedOrder s.silent .rescue .all .rescue s.mig.queue else s.mig.queue
        | _, _ => s.mig.queue } } := by
  simp only [changeState]
  generalize hs2 : ((s.modLink l fun k => { k with state := st, streak := 0 }).raise
    (linkNotice l (s.link l).state ca (s.modLink l fun k => { k with state := st, streak := 0 }))) = s2
  have hm : s2.mig = s.mig := by rw [← hs2]; rfl
  have : loseDestination l (s.link l).state st s2 = s2 := by
    simp only [loseDestination, hm]
    cases hbb : s.mig.batch with
    | none => rfl
    | some b =>
      simp only
      split
      · rename_i h; exact absurd (hb b hbb h.2.2 h.1) h.2.1
      · rfl
  rw [this, ← hs2]
  simp only [raiseForState, linkNotice, State.raise, State.modLink_links, State.link_set, if_true, raiseOrder_eq]
  split <;> simp_all [State.silent] <;> (split <;> rfl)

/-- A link's own number names it. -/
@[simp] theorem linkOf_val (l : LinkId) : linkOf l.val = some l := by simp [linkOf]

/-- Writing a link as it is changes nothing. -/
@[simp] theorem State.links_set_self (s : State) (l : LinkId) : s.links.set l (s.link l) = s.links := by
  ext i hi; simp only [Vector.getElem_set]; split
  · rename_i h; subst h; rfl
  · rfl

end Sys2Proof.Machine
end

