-- ==== Sys2Proof/Laws/Request.lean ====
section
/-! SUPPORT. What taking a request does, said once: a request its sender may send is handed to its owner, and the
answer joins the transmit order between the notices it raised. -/

namespace Sys2Proof.Machine

@[simp] theorem State.told_nil (s : State) : s.told [] = [] := rfl
@[simp] theorem State.sent_nil (s : State) : s.sent [] = s := by simp [State.sent]

/-- R174: the frame of a bound client is admitted as that client's, and binds nothing. -/
theorem admission_of_knows {s : State} {h : Header} {r : Role} (hh : s.knows h r) :
    s.admission h = .from_ ⟨h.client, r⟩ s := by
  obtain ⟨he, hv, hc, hg⟩ := hh
  have h7 : ¬ clientMax < h.client := Nat.not_lt.mpr hc
  simp [State.admission, he, hv, h7, hg]

/-- R175 step 3: a body length that fits the frame and the kind is not refused. -/
theorem badLength_of_hears {s : State} {h : Header} {k : Kind} {r : Role} (hh : s.hears h k r) :
    badLength k h = false := by
  obtain ⟨-, hm, hl, hk⟩ := hh
  have h1 : ¬ bodyMax < h.length := Nat.not_lt.mpr hm
  have h2 : ¬ h.carried < h.length := Nat.not_lt.mpr hl
  cases hb : k.bodyLength with
  | none => simp [badLength, h1, h2, hb]
  | some n =>
    have hn := hk n hb
    subst hn
    simp [badLength, h1, h2, hb]

/-- R174 to R176: a request that its sender may send is handed to its owner. -/
theorem request_heard {s : State} {h : Header} {k : Kind} {r : Role} (handle : Handler) (hr : s.ready)
    (hh : s.hears h k r) (hp : permits k r = true) :
    request h k handle s = respond h k.code s (handle ⟨h.client, r⟩ s) := by
  simp [request, hr.2, admission_of_knows hh.1, badLength_of_hears hh, hp]

/-- Table 11-2: every request kind number lies below 0x8000, so that its response kind fits. -/
theorem kind_code_lt (k : Kind) : k.code < 0x8000 := by cases k <;> decide

theorem responseKind_code (k : Kind) : responseKind k.code = BitVec.ofNat 16 (k.code + 0x8000) := by
  simp [responseKind, kind_code_lt k]

/-- R178: frames that join while nRESET is not asserted stand at the end of the transmit order. -/
theorem State.join_eq {s : State} (hr : s.port.inReset = false) (fs : List OutFrame) : s.join fs = s.sent fs := by
  simp [State.join, State.sent, hr]

/-- R176, R178: an answer that raised the notices `ns` on a state `t`: those not addressed to GATEWAY go before the
response, those addressed to GATEWAY after it. -/
theorem respond_raised {s t : State} {h : Header} {k : Kind} {r : Result} {body : List Field} {ns : List Notice}
    (hq : t.raised = []) (hr : t.port.inReset = false) (ht : t.time.clock = s.time.clock) :
    Host.Outcome.next (respond h k.code s ⟨r, body, { t with raised := ns }⟩) =
      answered h k r body s t (ns.filter (! ·.toGateway)) (ns.filter (·.toGateway)) := by
  obtain ⟨p, ta, su, se, cu, li, mi, zo, ti, ra, pe⟩ := t
  simp only at hq hr ht
  subst hq
  simp only [respond, State.flushWith, State.join, State.sent, reply, responseTo, responseKind_code, hr, answered,
    State.told, State.seconds, ht]
  rfl

/-- R176, R178: an answer that raised no notice joins the transmit order alone. -/
theorem respond_quiet {s : State} {h : Header} {k : Kind} {a : Answer} (hq : a.state.raised = [])
    (hr : a.state.port.inReset = false) (ht : a.state.time.clock = s.time.clock) :
    Host.Outcome.next (respond h k.code s a) = answered h k a.result a.body s a.state := by
  obtain ⟨r, b, t⟩ := a
  obtain ⟨p, ta, su, se, cu, li, mi, zo, ti, ra, pe⟩ := t
  simp only at hq hr ht
  subst hq
  exact respond_raised (s := s) (t := ⟨p, ta, su, se, cu, li, mi, zo, ti, [], pe⟩) (ns := []) rfl hr ht

/-- R176: a refusal that changes nothing. -/
theorem respond_refuse {s : State} {h : Header} {k : Kind} {r : Result} (hr : s.ready) :
    Host.Outcome.next (respond h k.code s (refuse r s)) = refused h k r s := by
  rw [respond_quiet (s := s) (a := refuse r s) hr.1 hr.2 rfl]
  simp [answered, refused, refuse]

/-- R174 to R178: a request whose owner gives an answer that raised no notice. -/
theorem request_answers {s t : State} {h : Header} {k : Kind} {who : Role} {handle : Handler} {r : Result}
    {body : List Field} (hr : s.ready) (hh : s.hears h k who) (hp : permits k who = true)
    (ha : handle ⟨h.client, who⟩ s = ⟨r, body, t⟩) (hq : t.raised = []) (hn : t.port.inReset = false)
    (ht : t.time.clock = s.time.clock) :
    Host.Outcome.next (request h k handle s) = answered h k r body s t := by
  rw [request_heard handle hr hh hp, ha]
  exact respond_quiet (a := ⟨r, body, t⟩) hq hn ht

/-- R174 to R178: a request whose owner refuses it and changes nothing. -/
theorem request_refuses {s : State} {h : Header} {k : Kind} {who : Role} {handle : Handler} {r : Result}
    (hr : s.ready) (hh : s.hears h k who) (hp : permits k who = true)
    (ha : handle ⟨h.client, who⟩ s = refuse r s) :
    Host.Outcome.next (request h k handle s) = refused h k r s := by
  rw [request_heard handle hr hh hp, ha]
  exact respond_refuse hr

/-- R174 to R178: a request whose owner gives an answer that raised the notices `ns`. -/
theorem request_raises {s t : State} {h : Header} {k : Kind} {who : Role} {handle : Handler} {r : Result}
    {body : List Field} {ns : List Notice} (hr : s.ready) (hh : s.hears h k who) (hp : permits k who = true)
    (ha : handle ⟨h.client, who⟩ s = ⟨r, body, { t with raised := ns }⟩) (hq : t.raised = [])
    (hn : t.port.inReset = false) (ht : t.time.clock = s.time.clock) :
    Host.Outcome.next (request h k handle s) =
      answered h k r body s t (ns.filter (! ·.toGateway)) (ns.filter (·.toGateway)) := by
  rw [request_heard handle hr hh hp, ha]
  exact respond_raised hq hn ht

/-- R178: an event that raised the notices `ns` on a state `t`. -/
theorem flush_raised {t : State} {ns : List Notice} (hq : t.raised = []) (hr : t.port.inReset = false) :
    Host.Outcome.next (State.flush { t with raised := ns }) = noticed t ns := by
  obtain ⟨p, ta, su, se, cu, li, mi, zo, ti, ra, pe⟩ := t
  simp only at hq hr
  subst hq
  simp only [State.flush, State.join, State.sent, hr, noticed, State.told]
  rfl

/-- R178: an event that raised no notice. -/
theorem flush_quiet {t : State} (hq : t.raised = []) : t.flush = t := by
  obtain ⟨p, ta, su, se, cu, li, mi, zo, ti, ra, pe⟩ := t
  simp only at hq
  subst hq
  simp [State.flush, State.join]

end Sys2Proof.Machine
end

