-- ==== Sys2Proof/Tests/Slice0.lean ====
section
/-! SUPPORT. Tests: the refusals of WellFormed, frames written out byte by byte from Chapter 11, single steps of the
manual's worked examples, and for each statement put to the provers a state and operands that meet its hypotheses. -/

namespace Sys2Proof.Tests

-- One test after another: run side by side, the package as one text needs more memory than a check may take.
set_option Elab.async false

open Sys2Proof Sys2Proof.Machine

/-! ### Helpers -/

/-- The header of a request frame from client `c`, bound to address 100 + `c`, of body length `n`. -/
def hd (c : Nat) (k : Kind) (n : Nat := k.bodyLength.getD 0) : Header :=
  ⟨BitVec.ofNat 48 (100 + c), 0x88B6, 1, c, 7, n, n⟩

/-- The bytes of some numbers. -/
def bytes (ns : List Nat) : List Byte := ns.map (BitVec.ofNat 8)

/-- A frame from address 105 with a payload, its check sequence not looked at. -/
def frame (ns : List Nat) : Frame := ⟨1, 105, 0x88B6, bytes ns, 0⟩

/-- The header that the frames of these tests carry, of client 5 with tag 7. -/
def got (length carried : Nat) : Header := ⟨105, 0x88B6, 1, 5, 7, length, carried⟩

/-- The state a command leaves. -/
def after (i : Instr) (s : State) : State := match exec i s with | .next t => t | _ => s

/-- The results of the responses, and the kind numbers of the notices, that a command sends, in order. -/
def sends (i : Instr) (s : State) : List (Nat × Result) :=
  (after i s).port.transmit.map fun f => (f.kind.toNat, f.result)

/-- A state at a device time. -/
def at_ (t : Nat) (s : State) : State := { s with time := { s.time with clock := t } }

/-- Section 12.1: partner 31015. -/
def partner0 : Partner :=
  { code := 31015, kind := .homeRoaming, status := .active, barTime := none, barWindow := 0, plan := 4, adjustment := 0,
    exposure := 0, initialStep := 5000000, topUpStep := 2000000, lowWater := 1000000, openTotal := 0, closedTotal := 0,
    closedSub := ⟨0, 0, 0, 0⟩, present := 2, sessions := 3, settleNumber := 0, settled := none }

/-- Section 12.1: partner 99001. -/
def partner1 : Partner :=
  { partner0 with
    code := 99001, kind := .shipPlan, plan := 0, initialStep := 0, topUpStep := 0, lowWater := 0, present := 1,
    sessions := 0 }

/-- Section 12.2: passenger A. -/
def passenger : Context :=
  { identity := 310150123456789, partner := 0, presence := .attached, pinned := false, attachTime := 100000,
    dormancy := none, sessions := [0, 1], folio := 0, sub := ⟨0, 0, 0, 0⟩, granted := 5000000, consumed := 0,
    credit := .funded, ask := none, lastAsk := 1, denied := false, lapsed := 0, ref := 0xA001 }

/-- Section 12.2: passenger B. -/
def passengerB : Context := { passenger with identity := 310150123457298, sessions := [2], ref := 0xA002 }

/-- Section 12.2: the crew's handset. -/
def crewman : Context :=
  { passenger with
    identity := 990010000000042, partner := 1, pinned := true, attachTime := 50000, sessions := [], granted := 1000000,
    lastAsk := 0, ref := 0xA003 }

/-- Section 12.3: a session opened at 200 s on link 0. -/
def opened (subscriber : Nat) (cls : TrafficClass) : Session :=
  { subscriber := subscriber, cls := cls, service := .active, binding := .bound 0, epoch := 7, residue := 0, carry := 0,
    blocks := 0, charge := 0, opened := 200000, lastUsage := 200000, ref := 9, clamped := 0, uncertain := 0 }

/-- Section 12.1: links 0 to 2, with some non-emergency sessions on link 0. -/
def linksOf (bound0 : Nat) : Vector Link 8 :=
  #v[{ Link.powerOn with state := .up, mask := 2, priority := 7, capacity := 2000, quality := 90, bound := bound0 },
    { Link.powerOn with
      kind := .satellite, state := .up, mask := 10, priority := 2, capacity := 600, surcharge := 300, quality := 90 },
    { Link.powerOn with
      kind := .shoreCell, state := .up, mask := 10, priority := 5, capacity := 400, surcharge := 100, quality := 90 },
    Link.powerOn, Link.powerOn, Link.powerOn, Link.powerOn, Link.powerOn]

/-- Sections 12.1 to 12.3: the part at 200 s, with sessions 0, 1 and 2 on link 0. Clients 0 to 5 hold the roles PURSER,
RADIO, METER, ROUTER, NAV and GATEWAY. -/
def harbour : State :=
  { State.reset with
    port := { Port.powerOn 1 with
      clients := [(0, ⟨.purser, some 100⟩), (1, ⟨.radio, some 101⟩), (2, ⟨.meter, some 102⟩), (3, ⟨.router, some 103⟩),
        (4, ⟨.nav, some 104⟩), (5, ⟨.gateway, some 105⟩)] }
    tariff := {
      partners := [(0, partner0), (1, partner1)]
      codes := [31015, 99001]
      cells := [(48, ⟨60, 100000, .whole, 1⟩), (49, ⟨10240, 2000, .prorata, 0⟩), (54, ⟨60, 200000, .whole, 1⟩)]
      revisions := []
      epoch := 7
      previous := none
      planUse := (Vector.replicate 32 0).set 4 3 }
    subs := ⟨[(1456, passenger), (1457, passengerB), (3232, crewman)], 1, .opened⟩
    sess := ⟨[(0, opened 1456 .data), (1, opened 1456 .voice), (2, opened 1457 .data)], 0⟩
    links := linksOf 3
    mig := ⟨[], none, 11⟩
    zone := { ZoneTracker.powerOn false with
      zones := ((Vector.replicate 32 Zone.powerOn).set 1 ⟨true, .port, .full, 0⟩).set 3 ⟨true, .openSea, .limited, 120⟩
      tracking := .placed
      effective := some 1
      lastFix := some 190000 }
    time := { TimeBase.powerOn with
      clock := 200000
      passStart := 200000
      settings := { Settings.defaults with idle := 1800 } } }

/-- The same part with its passengers aboard and no session open. -/
def boarded : State :=
  { harbour with
    tariff := { harbour.tariff with
      partners := [(0, { partner0 with sessions := 0 }), (1, partner1)], planUse := Vector.replicate 32 0 }
    subs := { harbour.subs with
      contexts := [(1456, { passenger with sessions := [] }), (1457, { passengerB with sessions := [] }),
        (3232, crewman)] }
    sess := ⟨[], 0⟩
    links := linksOf 0 }

/-- Section 12.4: link 0 is DEGRADED and its order is RUNNING. -/
def degraded : State :=
  { at_ 300000 harbour with
    links := harbour.links.set 0 { harbour.links[0] with state := .degraded, quality := 20 }
    mig := ⟨[⟨.link 0, .auto, .all, .degraded, [], 0, 0⟩], none, 11⟩ }

/-- Section 12.4: batch 12 is in flight, with the residues that the entries of Section 12.3 left. -/
def inFlight : State :=
  let moves (x : Session) (residue : Nat) : Session := { x with binding := .moving (.link 0) 2 12, residue := residue }
  { degraded with
    sess := ⟨[(0, moves (opened 1456 .data) 4520), (1, moves (opened 1456 .voice) 30), (2, moves (opened 1457 .data) 0)], 0⟩
    links := degraded.links.set 2 { degraded.links[2] with reserved := 3 }
    mig := ⟨[⟨.link 0, .auto, .all, .degraded, [], 1, 0⟩], some ⟨12, .link 0, 2, [0, 1, 2], 300000, 302000⟩, 12⟩ }

/-- Section 12.6: the cut pass after the crossing into zone 3, with the sessions on link 2. -/
def cutting : State :=
  let sails (x : Session) (residue carry : Nat) : Session :=
    { x with binding := .bound 2, residue := residue, carry := carry }
  { at_ 1030000 harbour with
    tariff := { harbour.tariff with
      cells := [(48, ⟨60, 100000, .whole, 1⟩), (49, ⟨10240, 2000, .prorata, 0⟩), (54, ⟨60, 240000, .whole, 1⟩)]
      revisions := [.cell 54 ⟨60, 240000, .whole, 1⟩ (some ⟨60, 200000, .whole, 1⟩)]
      epoch := 8
      previous := some ⟨7, .port⟩ }
    sess := ⟨[(0, sails (opened 1456 .data) 9760 812), (1, sails (opened 1456 .voice) 40 0),
      (2, sails (opened 1457 .data) 0 0)], 0⟩
    cutPos := some 0
    links := (linksOf 0).set 2 { (linksOf 0)[2] with bound := 3 }
    zone := { harbour.zone with effective := some 3, since := 1030000, lastFix := some 1030000 } }

/-- The part in radio silence, its passengers DORMANT. -/
def quiet : State :=
  let sleeps (c : Context) : Context := { c with presence := .dormant, dormancy := some 4800000 }
  { at_ 3000000 boarded with
    subs := { boarded.subs with contexts := boarded.subs.contexts.map fun p => (p.1, sleeps p.2) }
    zone := { boarded.zone with line := true } }

/-! ### WellFormed refuses what no frame can spell -/

theorem test_refuses_wide_header :
    ([⟨100, 0x88B6, 256, 0, 7, 0, 0⟩, ⟨100, 0x88B6, 1, 256, 7, 0, 0⟩, ⟨100, 0x88B6, 1, 0, 7, 65536, 65536⟩] : List Header).all
      (fun h => !(Instr.status h).wellFormed) = true := by decide

theorem test_refuses_short_frame : (Instr.lookup ⟨100, 0x88B6, 1, 0, 7, 8, 7⟩ 5).wellFormed = false := by decide

theorem test_refuses_headless_frame :
    (Instr.notClient (frame [1, 5, 0])).wellFormed = false ∧ (Instr.unknownKind (frame [1, 5, 0])).wellFormed = false := by
  decide

theorem test_refuses_wide_setup_operands :
    ([.clientSet (hd 0 .clientSet) 256 none none none,
      .generalSet (hd 0 .generalSet) 0 ⟨256, 0, 0, 0, 0, 0, 0, 0, 0, 0, 0, 0⟩,
      .generalSet (hd 0 .generalSet) 0 ⟨0, 256, 0, 0, 0, 0, 0, 0, 0, 0, 0, 0⟩,
      .generalSet (hd 0 .generalSet) 0 ⟨0, 0, 256 ^ 4, 0, 0, 0, 0, 0, 0, 0, 0, 0⟩,
      .generalSet (hd 0 .generalSet) 0 ⟨0, 0, 0, 256 ^ 4, 0, 0, 0, 0, 0, 0, 0, 0⟩,
      .generalSet (hd 0 .generalSet) 0 ⟨0, 0, 0, 0, 256, 0, 0, 0, 0, 0, 0, 0⟩,
      .generalSet (hd 0 .generalSet) 0 ⟨0, 0, 0, 0, 0, 256, 0, 0, 0, 0, 0, 0⟩,
      .generalSet (hd 0 .generalSet) 0 ⟨0, 0, 0, 0, 0, 0, 65536, 0, 0, 0, 0, 0⟩,
      .generalSet (hd 0 .generalSet) 0 ⟨0, 0, 0, 0, 0, 0, 0, 256, 0, 0, 0, 0⟩,
      .generalSet (hd 0 .generalSet) 0 ⟨0, 0, 0, 0, 0, 0, 0, 0, 65536, 0, 0, 0⟩,
      .generalSet (hd 0 .generalSet) 0 ⟨0, 0, 0, 0, 0, 0, 0, 0, 0, 256 ^ 4, 0, 0⟩,
      .generalSet (hd 0 .generalSet) 0 ⟨0, 0, 0, 0, 0, 0, 0, 0, 0, 0, 256, 0⟩] : List Instr).all
      (fun i => !i.wellFormed) = true := by decide

theorem test_refuses_wide_tariff_operands :
    ([.partnerSet (hd 0 .partnerSet) ⟨256 ^ 4, none, 0, 0, 0, 0, 0, 0, 0⟩,
      .partnerSet (hd 0 .partnerSet) ⟨0, none, 65536, 0, 0, 0, 0, 0, 0⟩,
      .partnerSet (hd 0 .partnerSet) ⟨0, none, 0, 256, 0, 0, 0, 0, 0⟩,
      .partnerSet (hd 0 .partnerSet) ⟨0, none, 0, 0, 32768, 0, 0, 0, 0⟩,
      .partnerSet (hd 0 .partnerSet) ⟨0, none, 0, 0, -32769, 0, 0, 0, 0⟩,
      .partnerSet (hd 0 .partnerSet) ⟨0, none, 0, 0, 0, 256 ^ 8, 0, 0, 0⟩,
      .partnerSet (hd 0 .partnerSet) ⟨0, none, 0, 0, 0, 0, 256 ^ 8, 0, 0⟩,
      .partnerSet (hd 0 .partnerSet) ⟨0, none, 0, 0, 0, 0, 0, 256 ^ 8, 0⟩,
      .partnerSet (hd 0 .partnerSet) ⟨0, none, 0, 0, 0, 0, 0, 0, 256 ^ 8⟩,
      .partnerStatus (hd 0 .partnerStatus) (256 ^ 4) none, .partnerRemove (hd 0 .partnerRemove) (256 ^ 4),
      .rateSet (hd 0 .rateSet) ⟨256, none, none, 0, 0, none, 0⟩,
      .rateSet (hd 0 .rateSet) ⟨0, none, none, 256 ^ 4, 0, none, 0⟩,
      .rateSet (hd 0 .rateSet) ⟨0, none, none, 0, 256 ^ 4, none, 0⟩,
      .rateSet (hd 0 .rateSet) ⟨0, none, none, 0, 0, none, 256⟩,
      .readPartner (hd 0 .readPartner) (some (256 ^ 4)), .readPartnerList (hd 0 .readPartner) (256 ^ 4) false,
      .settlement (hd 0 .readPartner) (256 ^ 4)] : List Instr).all (fun i => !i.wellFormed) = true := by decide

theorem test_refuses_wide_subscriber_operands :
    ([.pin (hd 0 .pin) 65536 0, .pin (hd 0 .pin) 0 (256 ^ 8), .unpin (hd 0 .unpin) 65536 0,
      .unpin (hd 0 .unpin) 0 (256 ^ 8), .retire (hd 0 .retire) 65536 0, .retire (hd 0 .retire) 0 (256 ^ 8),
      .grant (hd 0 .grant) 65536 0 0 0, .grant (hd 0 .grant) 0 (256 ^ 8) 0 0, .grant (hd 0 .grant) 0 0 256 0,
      .grant (hd 0 .grant) 0 0 0 (256 ^ 8), .attach (hd 1 .attach) (256 ^ 8) 0, .detach (hd 1 .detach) 65536,
      .lookup (hd 1 .lookup) (256 ^ 8), .readContext (hd 1 .readContext) (some (.byHandle 65536)),
      .readContext (hd 1 .readContext) (some (.byIdentity (256 ^ 8))),
      .readFolio (hd 1 .readFolio) (some (.byHandle 65536))] : List Instr).all (fun i => !i.wellFormed) = true := by decide

theorem test_refuses_wide_session_operands :
    ([.sessionOpen (hd 1 .sessionOpen) 65536 none 0, .sessionClose (hd 1 .sessionClose) 65536 0,
      .sessionClose (hd 1 .sessionClose) 0 65536, .readSession (hd 1 .readSession) 65536,
      .usage (hd 2 .usage 2) 65536 [], .usage (hd 2 .usage 2) 1 [],
      .usage (hd 2 .usage 14) 1 [⟨65536, false, 0, 0⟩], .usage (hd 2 .usage 14) 1 [⟨0, false, 256 ^ 4, 0⟩],
      .usage (hd 2 .usage 14) 1 [⟨0, false, 0, 256 ^ 4⟩]] : List Instr).all (fun i => !i.wellFormed) = true := by decide

theorem test_refuses_wide_link_operands :
    ([.linkSet (hd 0 .linkSet) 256 none ⟨none, 0, 0, 0, 0, 0, 0, 0, 0⟩,
      .linkSet (hd 0 .linkSet) 0 none ⟨none, 0, 256, 0, 0, 0, 0, 0, 0⟩,
      .linkSet (hd 0 .linkSet) 0 none ⟨none, 0, 0, 65536, 0, 0, 0, 0, 0⟩,
      .linkSet (hd 0 .linkSet) 0 none ⟨none, 0, 0, 0, 65536, 0, 0, 0, 0⟩,
      .linkSet (hd 0 .linkSet) 0 none ⟨none, 0, 0, 0, 0, 256, 0, 0, 0⟩,
      .linkSet (hd 0 .linkSet) 0 none ⟨none, 0, 0, 0, 0, 0, 256, 0, 0⟩,
      .linkSet (hd 0 .linkSet) 0 none ⟨none, 0, 0, 0, 0, 0, 0, 256, 0⟩,
      .linkSet (hd 0 .linkSet) 0 none ⟨none, 0, 0, 0, 0, 0, 0, 0, 256⟩,
      .linkReport (hd 3 .linkReport) 256 none 0, .linkReport (hd 3 .linkReport) 0 none 256,
      .reconcile (hd 3 .reconcile) 256 0, .reconcile (hd 3 .reconcile) 0 (256 ^ 8),
      .batchAnswer (hd 3 .batchAnswer) 65536 none, .readLink (hd 3 .readLink) (.one 255)] : List Instr).all
      (fun i => !i.wellFormed) = true := by decide

theorem test_refuses_wide_zone_operands :
    ([.zoneSet (hd 0 .zoneSet) 256 none none 0, .zoneSet (hd 0 .zoneSet) 0 none none 65536, .fix (hd 4 .fix) 256,
      .readZone (hd 4 .readZone) (.one 255)] : List Instr).all (fun i => !i.wellFormed) = true := by decide

theorem test_accepts_well_formed :
    ([.status (hd 0 .status), .notClient (frame (List.replicate 16 0)), .grant (hd 0 .grant) 4071 (10 ^ 15) 255 0,
      .fix (hd 4 .fix) 255, .usage (hd 2 .usage 14) 1 [⟨8191, true, 5, 6⟩]] : List Instr).all Instr.wellFormed = true := by
  decide

/-! ### Frames written out from Chapter 11 -/

/-- The 32-bit frame check sequence of the nine digits 1 to 9, as every account of the code gives it. -/
theorem test_check_sequence : fcsOf (bytes [0x31, 0x32, 0x33, 0x34, 0x35, 0x36, 0x37, 0x38, 0x39]) = 0xCBF43926 := by
  decide +kernel

theorem test_frame_client_set :
    requestOf (frame [1, 5, 0, 1, 0, 0, 0, 7, 0, 12, 0, 0, 0, 0, 0, 0, 3, 0, 2, 1, 0x12, 0x34, 0x56, 0x78, 0x9A, 0xBC, 0, 0])
      = some (.clientSet (got 12 12) 3 (some .define) (some .meter) (some 0x123456789ABC)) := by decide

theorem test_frame_partner_set :
    requestOf (frame ([1, 5, 0, 3, 0, 0, 0, 7, 0, 44, 0, 0, 0, 0, 0, 0] ++ [0, 0, 0x79, 0x27, 1, 0, 120, 4, 0xFF, 0x9C]
        ++ [0, 0, 0, 0, 0, 0, 0, 1] ++ [0, 0, 0, 0, 0, 0, 0, 2] ++ [0, 0, 0, 0, 0, 0, 0, 3] ++ [0, 0, 0, 0, 0, 0, 1, 0] ++ [0, 0]))
      = some (.partnerSet (got 44 44) ⟨31015, some .shipPlan, 120, 4, -100, 1, 2, 3, 256⟩) := by decide

theorem test_frame_rate_set :
    requestOf (frame [1, 5, 0, 6, 0, 0, 0, 7, 0, 16, 0, 0, 0, 0, 0, 0, 7, 2, 1, 0, 0, 0x50, 0, 0, 0, 0x0F, 0xA0, 1, 0, 0, 0, 0])
      = some (.rateSet (got 16 16) ⟨7, some .openSea, some .data, 20480, 4000, some .prorata, 0⟩) := by decide

theorem test_frame_zone_set :
    requestOf (frame [1, 5, 0, 7, 0, 0, 0, 7, 0, 8, 0, 0, 0, 0, 0, 0, 3, 2, 1, 0, 120, 0, 0, 0])
      = some (.zoneSet (got 8 8) 3 (some .openSea) (some .limited) 120) := by decide

theorem test_frame_link_set :
    requestOf (frame [1, 5, 0, 8, 0, 0, 0, 7, 0, 16, 0, 0, 0, 0, 0, 0, 1, 1, 3, 0, 0, 0, 10, 2, 2, 88, 1, 44, 30, 50, 2, 3])
      = some (.linkSet (got 16 16) 1 (some .adminOn) ⟨some .satellite, 10, 2, 600, 300, 30, 50, 2, 3⟩) := by decide

theorem test_frame_grant :
    requestOf (frame ([1, 5, 0, 13, 0, 0, 0, 7, 0, 20, 0, 0, 0, 0, 0, 0] ++ [5, 0xB0, 0, 0x01, 0x1A, 0x14, 0x73, 0xEF, 0x89, 0x15, 2]
        ++ [0, 0, 0, 0, 0, 0x1E, 0x84, 0x80, 0]))
      = some (.grant (got 20 20) 1456 310150123456789 2 2000000) := by decide

theorem test_frame_attach :
    requestOf (frame [1, 5, 0, 0x11, 0, 0, 0, 7, 0, 12, 0, 0, 0, 0, 0, 0, 0, 0, 0, 0, 0, 0, 1, 2, 0, 0, 0xA0, 1])
      = some (.attach (got 12 12) 258 0xA001) := by decide

/-- Table 11-3. -/
theorem test_frame_usage :
    requestOf (frame [1, 5, 0, 0x21, 0, 0, 0, 7, 0, 26, 0, 0, 0, 0, 0, 0, 0, 2, 0, 3, 1, 0, 0, 0, 0x61, 0xA8, 0, 0, 0, 9,
        0x1F, 0xFF, 0xFE, 0xFF, 0, 0, 0, 90, 0, 0, 0, 0, 0, 0, 0, 0])
      = some (.usage (got 26 30) 2 [⟨3, true, 25000, 9⟩, ⟨8191, false, 90, 0⟩]) := by decide

theorem test_frame_move_order :
    requestOf (frame [1, 5, 0, 0x32, 0, 0, 0, 7, 0, 4, 0, 0, 0, 0, 0, 0, 4, 255, 1, 0])
      = some (.moveOrder (got 4 4) (some (.link 4)) (some .auto) (some .nonEmergency)) := by decide

/-- Table 11-5. -/
theorem test_frame_batch_answer :
    requestOf (frame [1, 5, 0, 0x33, 0, 0, 0, 7, 0, 4, 0, 0, 0, 0, 0, 0, 0, 58, 1, 0])
      = some (.batchAnswer (got 4 4) 58 (some .refuse)) := by decide

/-- Table 11-4 and Section 11.4: a FIX padded to 46 bytes. -/
theorem test_frame_fix :
    requestOf (frame ([1, 5, 0, 0x41, 0, 0, 0, 7, 0, 4, 0, 0, 0, 0, 0, 0, 3, 0, 0, 0] ++ List.replicate 26 0))
      = some (.fix (got 4 30) 3) := by decide

theorem test_frame_settlement :
    requestOf (frame [1, 5, 0, 0x55, 0, 0, 0, 7, 0, 8, 0, 0, 0, 0, 0, 0, 0, 0, 0, 0x79, 0x27, 1, 0, 0])
      = some (.settlement (got 8 8) 31015) := by decide

theorem test_frame_read_folio :
    requestOf (frame [1, 5, 0, 0x54, 0, 0, 0, 7, 0, 12, 0, 0, 0, 0, 0, 0, 0, 5, 0xB0, 0, 0, 0, 0, 0, 0, 0, 0, 0])
      = some (.readFolio (got 12 12) (some (.byHandle 1456))) := by decide

theorem test_frame_of_response_kind :
    requestOf (frame [1, 5, 0x80, 0x51, 0, 0, 0, 7, 0, 0, 0, 0, 0, 0, 0, 0]) = none := by decide

/-- Section 11.4 and Table 11-6: the MOVE_BATCH notice of batch 58 carries 22 handles in 50 bytes. -/
theorem test_move_batch_body :
    let body := ((Notice.moveBatch 58 (.link 4) 2 (List.range 22)).body.flatMap Field.bytes)
    body.length = 50 ∧ body.take 8 = bytes [0, 58, 4, 2, 22, 0, 0, 0] := by decide

/-! ### Single steps of the worked examples -/

/-- Section 12.2: the crew attaches into bucket 404, way 0, and no ask is issued. -/
theorem test_attach_ship_plan :
    let s := { boarded with subs := ⟨[(1456, passenger)], 0, .opened⟩ }
    let t := after (.attach (hd 1 .attach) 990010000000042 0xA003) s
    (t.ctx 3232).any (fun c => c.presence == .attached && c.partner == 1 && c.ask == none) = true
      ∧ sends (.attach (hd 1 .attach) 990010000000042 0xA003) s = [(0x8011, .ok)] := by decide +kernel

/-- Section 12.2: a passenger takes way 0 of bucket 182 with ask 1 for 5,000,000, which GATEWAY is sent after the
response. -/
theorem test_attach_home_roaming :
    let s := { at_ 100000 boarded with subs := ⟨[], 0, .opened⟩ }
    let t := after (.attach (hd 1 .attach) 310150123456789 0xA001) s
    (t.ctx 1456).any (fun c => c.ask == some ⟨1, 120000⟩ && c.credit == .unfunded) = true
      ∧ sends (.attach (hd 1 .attach) 310150123456789 0xA001) s = [(0x8011, .ok), (0x400C, .ok)] := by decide +kernel

/-- Section 12.3: the first session takes handle 0 on link 0. -/
theorem test_session_open :
    let t := after (.sessionOpen (hd 1 .sessionOpen) 1456 (some .data) 9) boarded
    t.ses 0 = some (opened 1456 .data) ∧ (t.link 0).bound = 1 ∧ t.tariff.planUse[4] = 1 := by decide +kernel

/-- Section 12.3: the three entries of one USAGE. -/
theorem test_usage_three_entries :
    let t := after (.usage (hd 2 .usage 38) 3 [⟨0, false, 25000, 0⟩, ⟨1, false, 90, 0⟩, ⟨2, false, 51200, 0⟩]) harbour
    (t.ses 0).any (fun x => x.residue == 4520 && x.charge == 4000) = true
      ∧ (t.ses 1).any (fun x => x.residue == 30 && x.charge == 100000) = true
      ∧ (t.ctx 1456).map Context.folio = some 104000 ∧ (t.par 0).map Partner.openTotal = some 114000
      ∧ (t.link 0).accumulator = 76200 := by decide +kernel

/-- Section 12.4: the second low report takes link 0 to DEGRADED and raises its order. -/
theorem test_link_degrades :
    let s := { harbour with links := harbour.links.set 0 { harbour.links[0] with quality := 20, streak := 1 } }
    let t := after (.linkReport (hd 3 .linkReport) 0 (some .up) 20) s
    (t.link 0).state = .degraded ∧ t.mig.queue = [⟨.link 0, .auto, .all, .degraded, [], 0, 0⟩]
      ∧ sends (.linkReport (hd 3 .linkReport) 0 (some .up) 20) s
          = [(0x400B, .ok), (0x400B, .ok), (0x8031, .ok)] := by decide +kernel

/-- Section 12.4: batch 12 takes the three sessions to link 2, until 302.000 s. -/
theorem test_batch_step :
    let t := after .batchStep degraded
    t.mig.batch = some ⟨12, .link 0, 2, [0, 1, 2], 300000, 302000⟩ ∧ (t.link 2).reserved = 3
      ∧ (t.ses 1).map Session.binding = some (.moving (.link 0) 2 12) := by decide +kernel

/-- Section 12.4: ACCEPT cuts handle 0 to 882 and handle 1 to 50,000 at link 0's surcharge and binds them to link 2. -/
theorem test_batch_accept :
    let t := after (.batchAnswer (hd 3 .batchAnswer) 12 (some .accept)) (at_ 300800 inFlight)
    (t.ses 0).any (fun x => x.charge == 882 && x.carry == 812 && x.binding == .bound 2) = true
      ∧ (t.ses 1).any (fun x => x.charge == 50000 && x.carry == 0 && x.blocks == 0) = true
      ∧ (t.link 0).bound = 0 ∧ (t.link 2).bound = 3 ∧ (t.link 2).reserved = 0 := by decide +kernel

/-- Section 12.5: RATE_SET for cell 54 is staged at list length 1; the live cell keeps its price. -/
theorem test_rate_set_staged :
    let r : RateDef := ⟨4, some .openSea, some .voice, 60, 240000, some .whole, 1⟩
    let t := after (.rateSet (hd 0 .rateSet) r) harbour
    t.tariff.revisions = [.cell 54 ⟨60, 240000, .whole, 1⟩ none] ∧ t.tariff.cells = harbour.tariff.cells
      ∧ t.port.transmit.map (·.body) = [[.u16 54, .u8 1, .u8 1]] := by decide +kernel

/-- Section 12.6: the fourth fix of zone 3, 30 s after the first, crosses, opens epoch 8 and starts the cut pass. -/
theorem test_fix_crosses :
    let s := { at_ 1030000 harbour with zone := { harbour.zone with candidate := some ⟨3, 3, 1000000⟩ } }
    let t := after (.fix (hd 4 .fix) 3) s
    t.zone.effective = some 3 ∧ t.zone.since = 1030000 ∧ t.tariff.epoch = 8
      ∧ t.tariff.previous = some ⟨7, .port⟩ ∧ t.cutPos = some 0 ∧ t.windDown = 1150000
      ∧ t.zone.report = some ⟨.confirmed, 8⟩ := by decide +kernel

/-- Section 12.6: the cut of handle 0 charges 2,097 in PORT and leaves a carry of 687. -/
theorem test_cut_pass_data :
    let t := after .cutPassVisit cutting
    (t.ses 0).any (fun x => x.charge == 2097 && x.carry == 687 && x.residue == 0 && x.epoch == 8) = true
      ∧ (t.ctx 1456).map Context.sub = some ⟨2097, 0, 0, 0⟩ ∧ t.cutPos = some 1 := by decide +kernel

/-- Section 12.6: the cut of handle 1 is pro rata although its cell rounds WHOLE: 73,333 and a carry of 333. -/
theorem test_cut_pass_voice :
    (((after .cutPassVisit { cutting with cutPos := some 1 }).ses 1).any fun x => x.charge == 73333 && x.carry == 333) = true := by
  decide +kernel

/-- Section 12.7: 1,080 s on handle 1 charge 4,752,000, which exhausts the credit: BLOCKED and ask 2. -/
theorem test_usage_exhausts :
    let a := { passenger with folio := 342513, sub := ⟨342512, 0, 1, 0⟩, consumed := 342513, sessions := [1] }
    let x := { opened 1456 .voice with binding := .bound 2, epoch := 8, carry := 333 }
    let s := { at_ 2400000 cutting with
      tariff := { cutting.tariff with revisions := [], previous := none }
      cutPos := none, subs := ⟨[(1456, a)], 0, .opened⟩, sess := ⟨[(1, x)], 0⟩ }
    let t := after (.usage (hd 2 .usage 14) 1 [⟨1, false, 1080, 0⟩]) s
    (t.ctx 1456).any (fun c => c.folio == 5094513 && c.credit == .exhausted && c.ask == some ⟨2, 2420000⟩) = true
      ∧ (t.ses 1).any (fun x => x.service == .blocked && x.carry == 333 && x.blocks == 18) = true
      ∧ sends (.usage (hd 2 .usage 14) 1 [⟨1, false, 1080, 0⟩]) s
          = [(0x4001, .ok), (0x8021, .ok), (0x400C, .ok)] := by decide +kernel

/-- Section 12.7: the grant of ask 2 makes G 7,000,000, and the session ACTIVE again. -/
theorem test_grant_unblocks :
    let a := { passenger with consumed := 5094513, credit := .exhausted, ask := some ⟨2, 2420000⟩, lastAsk := 2, sessions := [1] }
    let s := { boarded with
      subs := ⟨[(1456, a)], 0, .opened⟩, sess := ⟨[(1, { opened 1456 .voice with service := .blocked })], 0⟩ }
    let t := after (.grant (hd 5 .grant) 1456 310150123456789 2 2000000) s
    (t.ctx 1456).any (fun c => c.granted == 7000000 && c.credit == .funded && c.ask == none) = true
      ∧ (t.ses 1).map Session.service = some .active := by decide +kernel

/-- Section 12.8: the entry into silence makes all DORMANT, closes the sessions and tells RADIO of each before the
SILENCE notice. -/
theorem test_silence_entry :
    let t := after (.silenceLineChange true) harbour
    t.subs.contexts.all (fun p => p.2.presence == .dormant && p.2.dormancy == some 2000000) = true
      ∧ t.sess.records = [] ∧ (t.link 0).bound = 0
      ∧ t.port.transmit.map (·.kind.toNat) = [0x4003, 0x4003, 0x4003, 0x4007] := by decide +kernel

/-- Section 12.9: the visit retires handle 1,456, folds its folio and returns 1,905,487. -/
theorem test_visit_retires :
    let a := { passenger with
      presence := .dormant, dormancy := some 4800000, sessions := [], folio := 5094513
      sub := ⟨342512, 0, 4752001, 0⟩, granted := 7000000, consumed := 5094513 }
    let s := { boarded with
      subs := ⟨[(1456, a)], 0, .opened⟩
      tariff := { boarded.tariff with
        partners := [(0, { partner0 with present := 1, sessions := 0, openTotal := 5094513 })] }
      time := { boarded.time with clock := 4800715, passPos := 1456, passElapsed := 715 } }
    let t := after .passVisit s
    t.ctx 1456 = none ∧ (t.par 0).map Partner.closedSub = some ⟨342512, 0, 4752001, 0⟩
      ∧ (t.par 0).map Partner.closedTotal = some 5094513
      ∧ t.port.transmit.map (fun f => f.body.drop 3) = [[.u64 1905487]] := by decide +kernel

/-- Section 9.4: handle 3,000 is not visited at 1,472 ms into the pass, and is at 1,473 ms. -/
theorem test_visit_instant :
    let s (e : Nat) := { boarded with time := { boarded.time with passPos := 3000, passElapsed := e } }
    (after .passVisit (s 1472)).time.passPos = 3000 ∧ (after .passVisit (s 1473)).time.passPos = 3001 := by
  decide +kernel

/-- Section 6.6: the two reconciliations: WITHIN at 20,000 of 25,100, and OUTSIDE at 400,000 of 6,000. -/
theorem test_reconcile :
    let s (a : Nat) := { harbour with links := harbour.links.set 1 { harbour.links[1] with accumulator := a } }
    let first := Instr.reconcile (hd 3 .reconcile) 1 5020000
    let second := Instr.reconcile (hd 3 .reconcile) 1 1200000
    ((after first (s 5000000)).link 1).discrepancy = 0 ∧ ((after second (s 800000)).link 1).discrepancy = 1
      ∧ (after first (s 5000000)).port.transmit.map (fun f => f.body.drop 3)
          = [[.u64 25100, .u64 20000, .u8 0, .u8 0, .u8 2]]
      ∧ (after second (s 800000)).port.transmit.map (fun f => f.body.drop 3)
          = [[.u64 6000, .u64 400000, .u8 1, .u8 1, .u8 2]] := by decide +kernel

/-- The part just after a cut pass that held the expiry of 254,000 ms, with the confirm-deferred flag as given. -/
def held (flag : Bool) : State :=
  { at_ 254000 harbour with
    zone := { harbour.zone with releaseDue := true, expiryHeld := true, deferred := flag, candidate := some ⟨3, 3, 200000⟩ } }

/-- R152: a held expiry waits for the release of a deferred confirmation pending with it, and for no other release. -/
theorem test_held_expiry :
    (after .staleExpiry (held true)).zone.tracking = .placed ∧ (after .staleExpiry (held false)).zone.tracking = .stale := by
  decide +kernel

/-- Section 10.8 and R174: the first frame from client 0 binds it. -/
theorem test_first_frame_binds :
    Table.get (after (.status (hd 0 .status)) State.reset).port.clients 0 = some ⟨.purser, some 100⟩ := by decide +kernel

/-! ### A state and operands for each statement's hypotheses -/

theorem knows_of {s : State} {h : Header} {r : Role}
    (t : (h.etherType == s.settings.etherType && h.version == 1 && decide (h.client ≤ 7)
      && Table.get s.port.clients h.client == some ⟨r, some h.src⟩) = true) : s.knows h r := by
  simpa [State.knows, and_assoc] using t

theorem hears_of {s : State} {h : Header} {k : Kind} {r : Role}
    (t : (h.etherType == s.settings.etherType && h.version == 1 && decide (h.client ≤ 7)
      && Table.get s.port.clients h.client == some ⟨r, some h.src⟩ && decide (h.length ≤ 1440)
      && decide (h.length ≤ h.carried) && k.bodyLength.all (· == h.length)) = true) : s.hears h k r := by
  simp only [Bool.and_eq_true, decide_eq_true_eq, beq_iff_eq, Option.all_eq_true] at t
  obtain ⟨⟨⟨⟨⟨⟨a, b⟩, c⟩, d⟩, e⟩, f⟩, g⟩ := t
  exact ⟨⟨a, b, c, d⟩, e, f, fun n hn => (g n hn).symm⟩

theorem harbour_books : Books harbour := by
  unfold Books State.accountsOf Context.balanced Subtotals.sum; decide +kernel

theorem harbour_listed : Listed harbour := by
  unfold Listed State.listOk State.isListed Quiet; decide +kernel

theorem harbour_counts : Counts harbour := by
  unfold Counts State.linkCounted Link.withinCapacity
  refine ⟨by decide +kernel, by decide +kernel, by decide +kernel, by decide +kernel, ?_⟩
  show ∀ p ∈ harbour.sess.records, p.2.binding.isMoving = false
  decide +kernel

theorem inFlight_books : Books inFlight := by
  unfold Books State.accountsOf Context.balanced Subtotals.sum; decide +kernel

theorem inFlight_listed : Listed inFlight := by
  unfold Listed State.listOk State.isListed Quiet; decide +kernel

theorem inFlight_counts : Counts inFlight := by
  unfold Counts State.linkCounted Link.withinCapacity
  refine ⟨by decide +kernel, by decide +kernel, by decide +kernel, by decide +kernel, ?_⟩
  show [0, 1, 2].Nodup ∧ (inFlight.link 2).state = .up
    ∧ (∀ n ∈ [0, 1, 2], (inFlight.ses n).any (fun x => x.binding == .moving (.link 0) 2 12) = true)
    ∧ ∀ p ∈ inFlight.sess.records, p.2.binding.isMoving = true → p.1 ∈ [0, 1, 2]
  decide +kernel

/-! The queue, the part's time and the port. -/

/-- With nothing due, before the instant of a visit and between passes; the second at the clock's ceiling. -/
theorem witness_IdleMillisecond :
    let a := { State.reset with time := { TimeBase.powerOn with passPos := 3 } }
    let b := { State.reset with time := { TimeBase.powerOn with clock := 1099511627775, passPos := 4072, passElapsed := 1999 } }
    ∀ s ∈ [a, b], s.pending = [] ∧ s.port.inReset = false ∧ s.port.transmit = [] ∧ s.port.inputQueue = []
      ∧ s.zone.releaseDue = false ∧ s.zone.tracking ≠ .placed ∧ s.mig.queue = [] ∧ s.mig.batch = none ∧ s.cutPos = none
      ∧ (s.time.passPos < 4072 → s.time.passElapsed < s.time.passPos * (s.time.passPeriod * 1000) / 4072)
      ∧ (s.time.passPos = 4072 → s.time.passElapsed < s.time.passPeriod * 1000) := by decide +kernel

/-- The frame of 16 bytes that a client 1 sends; its check sequence is worked out, not given. -/
def statusFrame : Frame :=
  let payload := bytes [1, 1, 0, 0x51, 0, 0, 0, 9, 0, 0, 0, 0, 0, 0, 0, 0]
  ⟨1, 101, 0x88B6, payload, fcsOf (beBytes 6 1 ++ beBytes 6 101 ++ beBytes 2 0x88B6 ++ payload)⟩

theorem witness_FrameArrivalAdmission :
    harbour.ready
      ∧ (fcsOf (beBytes 6 statusFrame.dst.toNat ++ beBytes 6 statusFrame.src.toNat
            ++ beBytes 2 statusFrame.etherType.toNat ++ statusFrame.payload) = statusFrame.fcs
          ∧ (statusFrame.dst = harbour.port.station ∨ statusFrame.dst = 0xFFFFFFFFFFFF)
          ∧ statusFrame.etherType = harbour.settings.etherType ∧ 16 ≤ statusFrame.payload.length
          ∧ harbour.port.inputQueue.length < 64)
      ∧ ¬ ({ statusFrame with dst := 2 } : Frame).dst = harbour.port.station :=
  ⟨⟨rfl, rfl⟩, by decide +kernel, by decide +kernel⟩

theorem witness_FrameTransmitSendsFirst :
    let f : OutFrame := reply (hd 1 .status) .status .ok [.u8 1] harbour
    harbour.ready ∧ harbour.port.transmit = [] ∧ (harbour.sent [f]).ready ∧ (harbour.sent [f]).port.transmit = [f] :=
  ⟨⟨rfl, rfl⟩, rfl, ⟨rfl, rfl⟩, rfl⟩

/-- A request with every operand at an end of its field's range. -/
theorem witness_FrameOfRequestReadsBack :
    let i := Instr.partnerSet (hd 0 .partnerSet) ⟨256 ^ 4 - 1, none, 65535, 255, -32768, 256 ^ 8 - 1, 0, 0, 0⟩
    i.wellFormed = true ∧ (i.frame 1 0).isSome = true := by decide

theorem witness_FramesTakenInOrder :
    requestOf statusFrame = some (.status ⟨101, 0x88B6, 1, 1, 9, 0, 0⟩)
      ∧ (let s := { harbour with port := { harbour.port with inputQueue := [statusFrame, statusFrame] } }
         s.pending = [] ∧ s.ready ∧ s.port.transmit = [] ∧ s.port.inputQueue = [statusFrame, statusFrame]) :=
  ⟨by decide, rfl, ⟨rfl, rfl⟩, rfl, rfl⟩

/-- A header of an ignored EtherType and one of an ignored version; three that no client in use has, each with the
largest request number; and a bound client's number that is a response's and one that is unlisted. -/
theorem witness_StrayFramesAnswered :
    let frame_ (payload : List Nat) : Frame := ⟨1, 101, 0x88B6, bytes payload, 0⟩
    let rest := [0x7F, 0xFF, 0, 0, 0, 9, 0, 0, 0, 0, 0, 0, 0, 0]
    harbour.ready
      ∧ (headerOf { frame_ ([1, 1] ++ rest) with etherType := 0x0800 }).1.etherType ≠ harbour.settings.etherType
      ∧ (headerOf (frame_ ([2, 1] ++ rest))).1.version ≠ 1
      ∧ (let h := headerOf (frame_ ([1, 8] ++ rest))
         h.1.etherType = harbour.settings.etherType ∧ h.1.version = 1 ∧ h.2 < 0x8000 ∧ 7 < h.1.client)
      ∧ (let h := headerOf (frame_ ([1, 7] ++ rest))
         h.1.version = 1 ∧ h.1.client ≤ 7 ∧ Table.get harbour.port.clients h.1.client = none)
      ∧ (let h := headerOf (frame_ ([1, 0] ++ rest))
         h.1.version = 1 ∧ Table.get harbour.port.clients h.1.client = some ⟨.purser, some 100⟩ ∧ 100 ≠ h.1.src)
      ∧ harbour.knows (headerOf (frame_ [1, 1, 0, 0x50, 0, 0, 0, 9, 0, 0, 0, 0, 0, 0, 0, 0])).1 .radio
      ∧ (∀ k : Kind, k.code ≠ (headerOf (frame_ [1, 1, 0, 0x50, 0, 0, 0, 9, 0, 0, 0, 0, 0, 0, 0, 0])).2)
      ∧ harbour.knows (headerOf (frame_ [1, 1, 0x80, 0, 0, 0, 0, 9, 0, 0, 0, 0, 0, 0, 0, 0])).1 .radio
      ∧ ∀ k : Kind, k.code ≠ (headerOf (frame_ [1, 1, 0x80, 0, 0, 0, 0, 9, 0, 0, 0, 0, 0, 0, 0, 0])).2 := by
  and_intros <;> first | exact ⟨rfl, rfl⟩ | exact knows_of (by decide) | decide | (intro k; cases k <;> decide)

theorem witness_FirstFrameBindsClient :
    (Instr.status (hd 0 .status)).header? = some (hd 0 .status) ∧ State.reset.port.inReset = false
      ∧ (hd 0 .status).etherType = State.reset.settings.etherType ∧ (hd 0 .status).version = 1
      ∧ (hd 0 .status).client ≤ 7 ∧ Table.get State.reset.port.clients 0 = some ⟨.purser, none⟩ := by decide

/-- One barred sender for each row of Table 10-1, GATEWAY's GRANT permitted, and the three faults of a length. -/
theorem witness_RolesAndLengthsEnforced :
    harbour.ready ∧ harbour.knows (hd 1 .serviceReset) .radio ∧ Kind.serviceReset.code ≤ 0x000F
      ∧ harbour.knows (hd 5 .grant) .gateway ∧ harbour.knows (hd 2 .attach) .meter ∧ harbour.knows (hd 2 .silenceSet) .meter
      ∧ (0x0011 ≤ Kind.attach.code ∧ Kind.silenceSet.code ≤ 0x0016)
      ∧ harbour.knows (hd 1 .usage 14) .radio ∧ harbour.knows (hd 4 .linkReport) .nav
      ∧ (0x0031 ≤ Kind.linkReport.code ∧ Kind.reconcile.code ≤ 0x0034) ∧ harbour.knows (hd 3 .fix) .router
      ∧ harbour.knows (hd 4 .fix 1) .nav ∧ Kind.fix.bodyLength = some 4 ∧ (hd 4 .fix 1).length ≠ 4
      ∧ harbour.knows { hd 2 .usage 14 with length := 1441, carried := 1441 } .meter
      ∧ harbour.knows { hd 2 .usage 14 with carried := 13 } .meter := by
  and_intros <;> first | exact ⟨rfl, rfl⟩ | exact knows_of (by decide) | decide

theorem witness_ClientSetActions :
    harbour.ready ∧ harbour.hears (hd 0 .clientSet) .clientSet .purser
      ∧ Table.get harbour.port.clients 7 = none ∧ (Table.get harbour.port.clients 1).isSome = true
      ∧ (Table.get harbour.port.clients 0).isSome = true := by
  and_intros <;> first | exact ⟨rfl, rfl⟩ | exact hears_of (by decide) | decide

/-- Every setting clamped from below or from above, none selected, and one found as it is. -/
theorem witness_GeneralSetWritesSettings :
    harbour.ready ∧ harbour.hears (hd 0 .generalSet) .generalSet .purser
      ∧ ((0x0008 : BitVec 16).getLsbD 3 = true ∧ harbour.settings.idle = 1800)
      ∧ ((0x0100 : BitVec 16).getLsbD 8 = true ∧ (100 : Nat) ≤ 25499) := by
  and_intros <;> first | exact ⟨rfl, rfl⟩ | exact hears_of (by decide) | decide

theorem witness_NresetSilencesPort : harbour.ready ∧ (Instr.status (hd 1 .status)).header? = some (hd 1 .status) :=
  ⟨⟨rfl, rfl⟩, rfl⟩

theorem witness_ServiceResetEmptiesVoyage :
    harbour.ready ∧ harbour.hears (hd 0 .serviceReset) .serviceReset .purser ∧ Books harbour
      ∧ harbour.par 0 = some partner0 :=
  ⟨⟨rfl, rfl⟩, hears_of (by decide), harbour_books, rfl⟩

/-! Partners, rate plans and epochs. -/

/-- A table that lists every number below `n`. -/
def full {α : Type} (n : Nat) (a : α) : Table α := (List.range n).map fun i => (i, a)

theorem get_mapped_range {α : Type} (a : α) (n k j : Nat) (h : j ≤ k) (hk : k < j + n) :
    Table.get ((List.range' j n).map fun i => (i, a)) k = some a := by
  induction n generalizing j with
  | zero => omega
  | succ n ih =>
    simp only [List.range'_succ, List.map_cons, Table.get]
    by_cases e : j = k
    · simp [e]
    · simp only [e, if_false]; exact ih (j + 1) (by omega) (by omega)

theorem get_full {α : Type} (a : α) (n k : Nat) (hk : k < n) : Table.get (full n a) k = some a := by
  unfold full; rw [List.range_eq_range']; exact get_mapped_range a n k 0 (by omega) (by omega)

/-- A definition at the top of its ranges, for a code that no partner holds. -/
def widest : PartnerDef :=
  ⟨99999, some .homeRoaming, 600, 31, 1000, 9999999999999999, 999999999999, 999999999999, 999999999999⟩

/-- A part whose 256 partner slots are taken. -/
def crowded : State := { harbour with tariff := { harbour.tariff with partners := full 256 partner0 } }

theorem witness_PartnerSetCreates :
    harbour.ready ∧ harbour.hears (hd 0 .partnerSet) .partnerSet .purser ∧ widest.kind = some .homeRoaming
      ∧ widest.plan = (31 : PlanId).val ∧ (∀ p ∈ harbour.tariff.partners, p.2.code ≠ widest.code)
      ∧ harbour.par 2 = none ∧ (∀ j, j < 2 → harbour.par j ≠ none)
      ∧ crowded.ready ∧ crowded.hears (hd 0 .partnerSet) .partnerSet .purser
      ∧ (∀ p ∈ crowded.tariff.partners, p.2.code ≠ widest.code) ∧ ∀ i, i < 256 → crowded.par i ≠ none := by
  and_intros <;> first
    | exact ⟨rfl, rfl⟩ | exact hears_of (by decide)
    | exact fun i hi => by rw [State.par, crowded, get_full _ _ _ hi]; simp
    | decide +kernel

/-- Partner 31015 defined anew at the bottom of its ranges, in the plan and adjustment given. -/
def again (plan : Nat) (adjustment : Int) : PartnerDef := ⟨31015, some .homeRoaming, 0, plan, adjustment, 0, 0, 0, 0⟩

/-- A part in which partner 31015 has a staged entry, and one whose revision list is full. -/
def staging : State := { harbour with tariff := { harbour.tariff with revisions := [.partner 0 7 0 none] } }
def listFull : State :=
  { harbour with
    tariff := { harbour.tariff with revisions := (List.range 16).map fun i => .cell i ⟨1, 0, .whole, 0⟩ none } }

/-- The kind guarded; an entry there, with and without the cut pass; the live values; no session open; and the change
that is staged, or is turned away by the cut pass or a full list. -/
theorem witness_PartnerSetRedefines :
    (∀ s ∈ [harbour, boarded, staging, cutting, listFull], s.ready ∧ s.hears (hd 0 .partnerSet) .partnerSet .purser
        ∧ (s.partnerByCode 31015).map Prod.fst = some 0)
      ∧ (PartnerKind.shipPlan ≠ partner0.kind ∧ 0 < partner0.present)
      ∧ staging.cutPos = none ∧ { staging with cutPos := some 0 }.cutPos.isSome = true
      ∧ ((again 4 0).plan = partner0.plan.val ∧ (again 4 0).adjustment = partner0.adjustment)
      ∧ ((boarded.partnerByCode 31015).map fun p => p.2.sessions) = some 0
      ∧ ((again 31 (-500)).plan ≠ partner0.plan.val ∧ 0 < partner0.sessions ∧ harbour.cutPos = none)
      ∧ cutting.cutPos.isSome = true ∧ listFull.tariff.revisions.length = 16 := by
  and_intros <;> first
    | (intro s hs; fin_cases hs <;>
        exact ⟨⟨rfl, rfl⟩, hears_of (by decide), by decide +kernel⟩)
    | decide +kernel

/-- Each range passed by one, on either side. -/
theorem witness_TariffRangesEnforced :
    harbour.ready ∧ harbour.hears (hd 0 .partnerSet) .partnerSet .purser ∧ harbour.hears (hd 0 .rateSet) .rateSet .purser
      ∧ (99999 < 100000 ∧ 600 < 601 ∧ 31 < 32 ∧ (-501 : Int) < -500 ∧ (1000 : Int) < 1001
        ∧ 9999999999999999 < 10000000000000000 ∧ 999999999999 < 1000000000000)
      ∧ (0 < 1 ∧ 3600 < 3601 ∧ 1023 < 1024 ∧ 1048576 < 1049600 ∧ 1536 % 1024 ≠ 0 ∧ 10000000 < 10000001 ∧ 15 < 16) := by
  and_intros <;> first | exact ⟨rfl, rfl⟩ | exact hears_of (by decide) | decide

/-- Another status and the one held, a partner with subscribers and one without, and a code that no partner holds. -/
theorem witness_PartnerStatusAndRemove :
    let empty := { harbour with tariff := { harbour.tariff with partners := [(0, { partner0 with present := 0 })] } }
    harbour.ready ∧ harbour.hears (hd 0 .partnerStatus) .partnerStatus .purser
      ∧ harbour.hears (hd 0 .partnerRemove) .partnerRemove .purser ∧ harbour.partnerByCode 31015 = some (0, partner0)
      ∧ PartnerStatus.barred ≠ partner0.status ∧ PartnerStatus.active = partner0.status ∧ 0 < partner0.present
      ∧ empty.ready ∧ empty.hears (hd 0 .partnerRemove) .partnerRemove .purser
      ∧ empty.partnerByCode 31015 = some (0, { partner0 with present := 0 }) ∧ partner0.closedTotal = 0
      ∧ (∀ p ∈ harbour.tariff.partners, p.2.code ≠ 99999) ∧ 99999 < 100000 := by
  and_intros <;> first | exact ⟨rfl, rfl⟩ | exact hears_of (by decide) | decide +kernel

/-- The ends of the block ranges; the five dispositions. -/
theorem witness_RateSetDisposition :
    let entered := { harbour with
      tariff := { harbour.tariff with revisions := [.cell 49 ⟨1024, 0, .whole, 0⟩ none] } }
    (∀ s ∈ [harbour, entered, cutting, listFull], s.ready ∧ s.hears (hd 0 .rateSet) .rateSet .purser)
      ∧ ((1 : Nat) ≤ 3600 ∧ 1024 ≤ 1048576 ∧ 1048576 % 1024 = 0 ∧ 1024 % 1024 = 0) ∧ 4 * 12 + 0 * 3 + 1 = 49
      ∧ cutting.cutPos.isSome = true ∧ (entered.cutPos = none ∧ Revision.cell 49 ⟨1024, 0, .whole, 0⟩ none ∈ entered.tariff.revisions)
      ∧ (harbour.cutPos = none ∧ harbour.tariff.revisions = [] ∧ harbour.tariff.planUse[7] = 0)
      ∧ (0 < harbour.tariff.planUse[4] ∧ harbour.tariff.revisions.length < 16)
      ∧ (0 < listFull.tariff.planUse[4] ∧ listFull.tariff.revisions.length = 16) := by
  and_intros <;> first
    | (intro s hs; fin_cases hs <;> exact ⟨⟨rfl, rfl⟩, hears_of (by decide)⟩)
    | decide +kernel

/-- A part with a staged cell and a staged partner, and one whose cut pass runs. -/
theorem witness_EpochCutOpensEpoch :
    let s := { harbour with
      tariff := { harbour.tariff with revisions := [.cell 54 ⟨60, 240000, .whole, 1⟩ none, .partner 1 7 (-100) none] } }
    s.ready ∧ s.hears (hd 0 .epochCut) .epochCut .purser ∧ s.cutPos = none
      ∧ (s.tariff.revisions.map Revision.target).Nodup ∧ cutting.ready
      ∧ cutting.hears (hd 0 .epochCut) .epochCut .purser ∧ cutting.cutPos.isSome = true := by
  and_intros <;> first | exact ⟨rfl, rfl⟩ | exact hears_of (by decide) | decide +kernel

theorem witness_ReadPartnerAndSettlement :
    harbour.hears (hd 0 .readPartner) .readPartner .purser ∧ harbour.hears (hd 1 .readPartner) .readPartner .radio
      ∧ harbour.ready ∧ 31015 ≤ 99999 ∧ harbour.partnerByCode 31015 = some (0, partner0) := by
  and_intros <;> first | exact ⟨rfl, rfl⟩ | exact hears_of (by decide) | decide +kernel

theorem witness_ReadPartnerListWalk :
    harbour.ready ∧ harbour.hears (hd 1 .readPartner) .readPartner .radio ∧ 31016 ≤ 99999 ∧ 99999 < 100000
      ∧ (∀ p ∈ harbour.tariff.partners, p.2.code ≠ 31016)
      ∧ (let s := { harbour with tariff := { harbour.tariff with codes := List.range 17 } }
         s.hears (hd 1 .readPartner) .readPartner .radio
           ∧ s.tariff.codes.filter (fun c => decide (0 ≤ c)) = List.range 16 ++ [16]) := by
  and_intros <;> first | exact ⟨rfl, rfl⟩ | exact hears_of (by decide) | decide +kernel

/-! Subscriber contexts and credit. -/

/-- Bucket 182 with its first way taken, and with all eight. -/
def bucketFull : State :=
  { boarded with subs := ⟨(List.range 8).map fun w => (1456 + w, { passenger with identity := w, sessions := [] }), 0, .opened⟩ }

theorem witness_AttachCreatesContext :
    boarded.ready ∧ boarded.hears (hd 1 .attach) .attach .radio ∧ boarded.zone.line = false ∧ boarded.zone.flag = false
      ∧ 310150123457807 < 1000000000000000 ∧ (∀ q ∈ boarded.subs.contexts, q.2.identity ≠ 310150123457807)
      ∧ boarded.subs.gate = .opened
      ∧ (boarded.partnerByCode (310150123457807 / 10000000000)).map (fun p => (p.2.status, p.2.exposure)) = some (.active, 0)
      ∧ 310150123457807 % 509 * 8 + 2 = 1458 ∧ boarded.ctx 1458 = none
      ∧ ∀ v, v < 2 → boarded.ctx (310150123457807 % 509 * 8 + v) ≠ none := by
  and_intros <;> first | exact ⟨rfl, rfl⟩ | exact hears_of (by decide) | decide +kernel

/-- A present identity in silence, ATTACHED, and DORMANT under a BARRED partner and under another; and the refusals:
the largest identity but one, the gate, each status, the exposure limit met exactly, and a full bucket. -/
theorem witness_AttachFindsOrRefuses :
    let barred (s : State) := { s with tariff := { s.tariff with partners := [(0, { partner0 with status := .barred })] } }
    let limited := { boarded with
      tariff := { boarded.tariff with partners := [(0, { partner0 with exposure := 5, openTotal := 5 })] } }
    let awake := { quiet with zone := boarded.zone }
    let held := { boarded with subs := { boarded.subs with gate := .held } }
    (∀ s ∈ [boarded, quiet, awake, barred awake, limited, held, bucketFull], s.ready ∧ s.hears (hd 1 .attach) .attach .radio)
      ∧ (∀ s ∈ [boarded, quiet, awake, barred awake], s.findIdentity 310150123456789 = some 1456
          ∧ (s.ctx 1456).any (fun c => c.identity == 310150123456789 && c.partner == 0) = true)
      ∧ quiet.silent = true ∧ boarded.silent = false ∧ awake.silent = false
      ∧ (boarded.ctx 1456).map Context.presence = some .attached ∧ (awake.ctx 1456).map Context.presence = some .dormant
      ∧ ((barred awake).par 0).map Partner.status = some .barred
      ∧ 310150123457807 < 1000000000000000 ∧ (∀ q ∈ boarded.subs.contexts, q.2.identity ≠ 310150123457807)
      ∧ (∀ p ∈ boarded.tariff.partners, p.2.code ≠ 999999999999999 / 10000000000)
      ∧ limited.partnerByCode 31015 = some (0, { partner0 with exposure := 5, openTotal := 5 })
      ∧ (∀ v, v < 8 → bucketFull.ctx (310150123457807 % 509 * 8 + v) ≠ none)
      ∧ ∀ q ∈ bucketFull.subs.contexts, q.2.identity ≠ 310150123457807 := by
  and_intros <;> first
    | (intro s hs; fin_cases hs <;> exact ⟨⟨rfl, rfl⟩, hears_of (by decide)⟩)
    | decide +kernel

theorem witness_DetachClosesSessions :
    harbour.ready ∧ harbour.hears (hd 1 .detach) .detach .radio ∧ harbour.ctx 4071 = none ∧ 4071 < 4072
      ∧ harbour.ctx 1456 = some passenger ∧ passenger.presence = .attached ∧ Listed harbour
      ∧ quiet.ready ∧ quiet.hears (hd 1 .detach) .detach .radio ∧ (quiet.ctx 1456).map Context.presence = some .dormant :=
  ⟨⟨rfl, rfl⟩, hears_of (by decide), rfl, by decide, rfl, rfl, harbour_listed, ⟨rfl, rfl⟩, hears_of (by decide), rfl⟩

theorem witness_GateAndPins :
    harbour.ready ∧ harbour.hears (hd 0 .gateSet) .gateSet .purser ∧ harbour.subs.gate = .opened
      ∧ harbour.hears (hd 0 .pin) .pin .purser ∧ harbour.hears (hd 0 .unpin) .unpin .purser
      ∧ harbour.ctx 3232 = some crewman ∧ crewman.pinned = true ∧ harbour.ctx 1456 = some passenger
      ∧ passenger.pinned = false ∧ harbour.subs.pinned < 64 ∧ passenger.identity ≠ crewman.identity
      ∧ (let s := { harbour with subs := { harbour.subs with pinned := 64 } }
         s.ready ∧ s.hears (hd 0 .pin) .pin .purser ∧ s.hears (hd 0 .unpin) .unpin .purser ∧ 64 ≤ s.subs.pinned) := by
  and_intros <;> first | exact ⟨rfl, rfl⟩ | exact hears_of (by decide) | decide +kernel

theorem witness_RetireFoldsContext :
    harbour.ready ∧ harbour.hears (hd 0 .retire) .retire .purser ∧ boarded.ready
      ∧ boarded.hears (hd 0 .retire) .retire .purser ∧ 999999999999999 < 1000000000000000
      ∧ (∀ c, harbour.ctx 1456 = some c → c.identity ≠ 999999999999999)
      ∧ (harbour.ctx 3232 = some crewman ∧ crewman.pinned = true)
      ∧ (harbour.ctx 1456 = some passenger ∧ passenger.pinned = false ∧ passenger.sessions ≠ [])
      ∧ (boarded.ctx 1456).any (fun c => !c.pinned && c.sessions.isEmpty) = true ∧ (boarded.par 0).isSome = true := by
  and_intros <;> first | exact ⟨rfl, rfl⟩ | exact hears_of (by decide) | decide +kernel

/-- A context whose credit is spent, with an ask and two BLOCKED sessions. -/
def spent : Context :=
  { passenger with
    folio := 5000000, consumed := 5000000, sub := ⟨5000000, 0, 0, 0⟩, credit := .exhausted, ask := some ⟨2, 220000⟩
    lastAsk := 2 }

def exhausted : State := { harbour with subs := { harbour.subs with contexts := [(1456, spent), (3232, crewman)] } }

theorem witness_GrantAddsCredit :
    exhausted.hears (hd 5 .grant) .grant .gateway ∧ exhausted.hears (hd 0 .grant) .grant .purser ∧ exhausted.ready
      ∧ exhausted.ctx 1456 = some spent ∧ spent.identity < 1000000000000000 ∧ exhausted.par spent.partner = some partner0
      ∧ partner0.kind = .homeRoaming ∧ spent.ask = some ⟨2, 220000⟩ ∧ spent.sessions.Nodup
      ∧ exhausted.ctx 3232 = some crewman ∧ exhausted.par 1 = some partner1 ∧ 999999999999 ≤ 999999999999 := by
  and_intros <;> first | exact ⟨rfl, rfl⟩ | exact hears_of (by decide) | decide +kernel

theorem witness_GrantDenialsAndRefusals :
    exhausted.hears (hd 5 .grant) .grant .gateway ∧ exhausted.hears (hd 0 .grant) .grant .purser ∧ exhausted.ready
      ∧ 4071 < 4072 ∧ exhausted.ctx 4071 = none ∧ (∀ c, exhausted.ctx 1456 = some c → c.identity ≠ 990010000000042)
      ∧ (exhausted.ctx 3232 = some crewman ∧ exhausted.par crewman.partner = some partner1 ∧ partner1.kind = .shipPlan)
      ∧ (exhausted.ctx 1456 = some spent ∧ exhausted.par spent.partner = some partner0 ∧ ∀ d, spent.ask ≠ some ⟨1, d⟩)
      ∧ spent.granted ≤ 999999999999 := by
  and_intros <;> first
    | exact ⟨rfl, rfl⟩ | exact hears_of (by decide) | decide +kernel | (intro _ h; cases h)

theorem witness_LookupFindsIdentity :
    harbour.ready ∧ harbour.hears (hd 1 .lookup) .lookup .radio ∧ harbour.knows (hd 0 .lookup) .purser
      ∧ (∀ q ∈ harbour.subs.contexts, q.2.identity ≠ 999999999999999) ∧ harbour.ctx 1457 = some passengerB
      ∧ 1457 / 8 = passengerB.identity % 509
      ∧ ∀ j c, harbour.ctx j = some c → c.identity = passengerB.identity → j = 1457 := by
  have one : ∀ p ∈ harbour.subs.contexts, p.2.identity = passengerB.identity → p.1 = 1457 := by decide +kernel
  and_intros <;> first
    | exact fun j c h => one (j, c) (Table.mem_of_get h) | exact ⟨rfl, rfl⟩ | exact hears_of (by decide) | exact knows_of (by decide) | decide +kernel

theorem witness_ContextReads :
    harbour.ready ∧ harbour.hears (hd 4 .readContext) .readContext .nav ∧ harbour.hears (hd 4 .readFolio) .readFolio .nav
      ∧ harbour.ctx 4071 = none ∧ (∀ q ∈ harbour.subs.contexts, q.2.identity ≠ 999999999999999)
      ∧ harbour.ctx 1456 = some passenger ∧ harbour.par passenger.partner = some partner0
      ∧ 1456 / 8 = passenger.identity % 509
      ∧ ∀ j c, harbour.ctx j = some c → c.identity = passenger.identity → j = 1456 := by
  have one : ∀ p ∈ harbour.subs.contexts, p.2.identity = passenger.identity → p.1 = 1456 := by decide +kernel
  and_intros <;> first
    | exact fun j c h => one (j, c) (Table.mem_of_get h) | exact ⟨rfl, rfl⟩ | exact hears_of (by decide) | decide +kernel

/-! Rating. -/

theorem witness_UsageRatesEntry :
    harbour.ready ∧ harbour.hears (hd 2 .usage 14) .usage .meter ∧ harbour.ses 1 = some (opened 1456 .voice)
      ∧ harbour.inPrevious (opened 1456 .voice) = false ∧ harbour.ctx 1456 = some passenger
      ∧ harbour.par passenger.partner = some partner0
      ∧ (let x := { opened 1456 .message with binding := .stranded }
         let s := { harbour with sess := ⟨[(8191, x)], 1⟩ }
         s.ready ∧ s.hears (hd 2 .usage 14) .usage .meter ∧ s.ses 8191 = some x ∧ s.inPrevious x = false) := by
  and_intros <;> first | exact ⟨rfl, rfl⟩ | exact hears_of (by decide) | decide +kernel

theorem witness_UsageFreeAndInTurn :
    let s := { harbour with sess := ⟨[(8191, opened 1456 .emergency)], 0⟩ }
    s.ready ∧ s.hears (hd 2 .usage 14) .usage .meter ∧ s.hears (hd 2 .usage 1) .usage .meter
      ∧ s.hears (hd 2 .usage 2) .usage .meter ∧ s.hears (hd 2 .usage 386) .usage .meter
      ∧ s.hears (hd 2 .usage 374) .usage .meter ∧ 14 + 12 * 31 = 386 ∧ 2 + 12 * 31 = 374
      ∧ s.ses 8190 = none ∧ 8191 < 8192
      ∧ s.ses 8191 = some (opened 1456 .emergency) ∧ s.inPrevious (opened 1456 .emergency) = false
      ∧ s.ctx 1456 = some passenger ∧ s.par passenger.partner = some partner0 := by
  and_intros <;> first | exact ⟨rfl, rfl⟩ | exact hears_of (by decide) | decide +kernel

/-- A free record at the pass's last position; a session already cut; one without a residue; and a residue cut at the old
values of a partner and of a cell, and at the live ones. -/
theorem witness_CutPassVisitCuts :
    let revised := { cutting with
      tariff := { cutting.tariff with revisions := [.partner 0 7 0 (some (4, 0)), .cell 49 ⟨1024, 1, .whole, 0⟩ (some ⟨10240, 2000, .prorata, 0⟩)] } }
    (∀ s ∈ [cutting, revised], s.ready ∧ s.cutPos = some 0 ∧ s.tariff.previous = some ⟨7, .port⟩
        ∧ (s.tariff.revisions.map Revision.target).Nodup
        ∧ (s.ses 0).any (fun x => x.epoch == 7 && x.residue == 9760 && x.cls == .data && x.subscriber == 1456) = true
        ∧ s.ctx 1456 = some passenger ∧ s.par passenger.partner = some partner0)
      ∧ (Revision.partner 0 7 0 (some (4, 0)) ∈ revised.tariff.revisions
        ∧ Revision.cell 49 ⟨1024, 1, .whole, 0⟩ (some ⟨10240, 2000, .prorata, 0⟩) ∈ revised.tariff.revisions)
      ∧ cutting.tariff.revisions.map Revision.target = [(false, 54)]
      ∧ (cutting.ses 2).any (fun x => x.epoch == 7 && x.residue == 0) = true
      ∧ { cutting with cutPos := some 8191 }.ses 8191 = none
      ∧ ({ cutting with sess := harbour.sess }.ses 0).map Session.epoch = some 7
      ∧ cutting.inPrevious { opened 1456 .data with epoch := 8 } = false := by
  and_intros <;> first
    | (intro s hs; fin_cases hs <;> exact ⟨⟨rfl, rfl⟩, by decide +kernel⟩)
    | decide +kernel

/-- The cut pass at the session's handle and before it; a session of the previous epoch, and the batch of that session. -/
theorem witness_UsageAndCutPassCommute :
    let moving : State := { cutting with
      mig := ⟨[⟨.link 2, .auto, .all, .router, [], 1, 0⟩], some ⟨12, .link 2, 1, [1], 1030000, 1032000⟩, 12⟩ }
    (∀ s ∈ [cutting, moving], s.ready ∧ s.hears (hd 2 .usage 14) .usage .meter
        ∧ s.hears (hd 1 .sessionClose) .sessionClose .radio ∧ s.hears (hd 3 .batchAnswer) .batchAnswer .router
        ∧ s.cutPos = some 0 ∧ Books s ∧ Listed s)
      ∧ (∀ prev, cutting.tariff.previous = some prev → prev.epoch ≠ cutting.tariff.epoch)
      ∧ (moving.ses 1).any moving.inPrevious = true ∧ moving.mig.batch.map Batch.sessions = some [1] := by
  have hb : Books cutting := by unfold Books State.accountsOf Context.balanced Subtotals.sum; decide +kernel
  have hl : Listed cutting := by unfold Listed State.listOk State.isListed Quiet; decide +kernel
  refine ⟨?_, by decide +kernel, by decide +kernel, rfl⟩
  intro s hs
  fin_cases hs
  · exact ⟨⟨rfl, rfl⟩, hears_of (by decide), hears_of (by decide), hears_of (by decide), rfl, hb, hl⟩
  · exact ⟨⟨rfl, rfl⟩, hears_of (by decide), hears_of (by decide), hears_of (by decide), rfl, hb,
      hl.1, hl.2.1, hl.2.2.1, hl.2.2.2.1, nofun⟩

/-! Sessions. -/

/-- Links 1 and 2 hold the same priority, so that the lower number wins; and a list of seven sessions. -/
theorem witness_SessionOpenBinds :
    let s := { boarded with
      links := (boarded.links.set 0 { boarded.links[0] with bound := 2000 }).set 1 { boarded.links[1] with priority := 5 } }
    let fits (l : LinkId) := (s.link l).state = .up ∧ (s.link l).permits s.zone.effective = true
      ∧ (s.link l).bound + (s.link l).reserved < (s.link l).capacity
    s.ready ∧ s.hears (hd 1 .sessionOpen) .sessionOpen .radio ∧ s.zone.line = false ∧ s.zone.flag = false
      ∧ (s.ctx 1456).any (fun c => c.presence == .attached && decide (c.sessions.length < 8) && c.credit == .funded) = true
      ∧ s.ses 0 = none ∧ (s.par 0).any (fun p => p.status == .active && p.plan == 4) = true ∧ s.effectiveLevel = .full
      ∧ 4 * 12 + s.effectiveClass.code * 3 + TrafficClass.code .data = 49 ∧ (Table.get s.tariff.cells 49).isSome = true
      ∧ fits 1 ∧ ∀ m, fits m → m ≠ 1 → (s.link m).priority < (s.link 1).priority
          ∨ ((s.link m).priority = (s.link 1).priority ∧ 1 < m) := by
  and_intros <;> first | exact ⟨rfl, rfl⟩ | exact hears_of (by decide) | decide +kernel

/-- An UP link of the highest priority, DEGRADED links alone, and neither. -/
theorem witness_SessionOpenEmergency :
    let with_ (st : LinkState) : State := { boarded with links := boarded.links.map fun k => { k with state := st } }
    (∀ s ∈ [boarded, with_ .degraded, with_ .suspect], s.ready ∧ s.hears (hd 1 .sessionOpen) .sessionOpen .radio
        ∧ s.zone.line = false ∧ s.zone.flag = false ∧ (s.ctx 3232) = some crewman ∧ s.ses 0 = none)
      ∧ crewman.presence = .attached ∧ crewman.sessions.length < 8
      ∧ ((boarded.link 0).state = .up ∧ ∀ m, (boarded.link m).state = .up → m ≠ 0 → (boarded.link m).priority < 7)
      ∧ (∀ m, ((with_ .degraded).link m).state = .degraded)
      ∧ ((with_ .degraded).link 0).priority = 7 ∧ (∀ m, m ≠ 0 → ((with_ .degraded).link m).priority < 7)
      ∧ ∀ m, ((with_ .suspect).link m).state ≠ .up ∧ ((with_ .suspect).link m).state ≠ .degraded := by
  and_intros <;> first
    | (intro s hs; fin_cases hs <;> exact ⟨⟨rfl, rfl⟩, hears_of (by decide), by decide +kernel⟩)
    | decide +kernel

/-- The refusals of SESSION_OPEN in the order of the checks. -/
theorem witness_SessionRefusals :
    let listing (n : Nat) := { boarded with subs := ⟨[(1456, { passenger with sessions := List.range n })], 0, .opened⟩ }
    let under (st : PartnerStatus) := { boarded with tariff := { boarded.tariff with partners := [(0, { partner0 with status := st })] } }
    let offshore := { boarded with zone := { boarded.zone with effective := some 3 } }
    let penniless := { boarded with subs := ⟨[(1456, { passenger with sessions := [], credit := .unfunded })], 0, .opened⟩ }
    let linkless := { boarded with links := Vector.replicate 8 Link.powerOn }
    let table := { boarded with sess := ⟨full 8192 (opened 1456 .data), 0⟩ }
    (∀ s ∈ [quiet, boarded, listing 8, under .suspended, under .barred, offshore, penniless, linkless, table],
        s.ready ∧ s.hears (hd 1 .sessionOpen) .sessionOpen .radio)
      ∧ quiet.silent = true ∧ boarded.silent = false ∧ boarded.ctx 4071 = none ∧ 4071 < 4072
      ∧ ({ quiet with zone := boarded.zone }.ctx 1456).map Context.presence = some .dormant
      ∧ ((listing 8).ctx 1456).map (fun c => c.sessions.length) = some 8
      ∧ (∀ n, n ≤ 8191 → table.ses n ≠ none)
      ∧ (boarded.ctx 1456).any (fun c => c.presence == .attached && decide (c.sessions.length < 8)) = true
      ∧ boarded.ses 8191 = none ∧ ((under .suspended).par 0).map Partner.status = some .suspended
      ∧ ((under .barred).par 0).map Partner.status = some .barred
      ∧ (offshore.effectiveLevel = .limited) ∧ boarded.effectiveLevel = .full
      ∧ Table.get boarded.tariff.cells (4 * 12 + boarded.effectiveClass.code * 3 + TrafficClass.code .message) = none
      ∧ (penniless.ctx 1456).map Context.credit = some .unfunded
      ∧ (∀ l, ¬ (linkless.link l).state = .up)
      ∧ harbour.ready ∧ harbour.hears (hd 1 .sessionClose) .sessionClose .radio
      ∧ (∀ x, harbour.ses 0 = some x → x.subscriber ≠ 1457) ∧ harbour.ses 8191 = none := by
  and_intros <;> first
    | (intro s hs; fin_cases hs <;> exact ⟨⟨rfl, rfl⟩, hears_of (by decide)⟩)
    | exact fun n hn => by rw [State.ses, get_full _ _ _ (by omega)]; simp
    | exact ⟨rfl, rfl⟩ | exact hears_of (by decide) | (intro c hc; cases hc; decide) | decide +kernel

theorem witness_SessionCloseFinalRating :
    inFlight.ready ∧ inFlight.hears (hd 1 .sessionClose) .sessionClose .radio
      ∧ (inFlight.ses 0).any (fun x => x.binding.isMoving && !inFlight.inPrevious x && x.residue == 4520 && x.subscriber == 1456) = true
      ∧ (harbour.ready ∧ harbour.ses 1 = some (opened 1456 .voice) ∧ (opened 1456 .voice).binding.isMoving = false)
      ∧ inFlight.ctx 1456 = some passenger ∧ inFlight.par 0 = some partner0 ∧ passenger.folio ≤ 999999999999
      ∧ inFlight.mig.batch.isSome = true :=
  ⟨⟨rfl, rfl⟩, hears_of (by decide), by decide, ⟨⟨rfl, rfl⟩, rfl, rfl⟩, rfl, rfl, by decide, rfl⟩

/-! Reads. -/

theorem witness_StatusAndOrdersRead :
    inFlight.ready ∧ inFlight.hears (hd 4 .status) .status .nav ∧ inFlight.hears (hd 4 .readOrders) .readOrders .nav :=
  ⟨⟨rfl, rfl⟩, hears_of (by decide), hears_of (by decide)⟩

theorem witness_ReadSessionFields :
    cutting.ready ∧ cutting.hears (hd 4 .readSession) .readSession .nav ∧ cutting.ses 8191 = none ∧ 8191 < 8192
      ∧ (cutting.ses 0).map Session.subscriber = some 1456 ∧ cutting.ctx 1456 = some passenger
      ∧ cutting.par passenger.partner = some partner0 :=
  ⟨⟨rfl, rfl⟩, hears_of (by decide), rfl, by decide, rfl, rfl, rfl⟩

theorem witness_ReadLinkAndZoneFields :
    inFlight.ready ∧ inFlight.hears (hd 4 .readLink) .readLink .nav ∧ inFlight.hears (hd 4 .readZone) .readZone .nav
      ∧ 7 < 8 ∧ 31 < 32
      ∧ (inFlight.hears (hd 0 .zoneSet) .zoneSet .purser ∧ inFlight.zone.effective = some 1
        ∧ (inFlight.zoneAt 1).defined = true ∧ 600 ≤ 600 ∧ 600 ≠ (inFlight.zoneAt 1).window) :=
  ⟨⟨rfl, rfl⟩, hears_of (by decide), hears_of (by decide), by decide, by decide, hears_of (by decide), by decide +kernel⟩

/-! Backhaul links. -/

/-- The profile of link 1 as it stands, and one at the top of its ranges. -/
def profile1 : ProfileDef := ⟨some .satellite, 10, 2, 600, 300, 30, 50, 2, 3⟩
def profileMost : ProfileDef := ⟨some .harbourFixed, 0xFFFFFFFF, 7, 8192, 2000, 99, 100, 8, 7⟩

/-- A guarded change of a latched link; a change of state of one that is not; a profile found as it is; and every range
passed by one. -/
theorem witness_LinkSetActions :
    harbour.ready ∧ harbour.hears (hd 0 .linkSet) .linkSet .purser
      ∧ (0 < (harbour.link 0).bound ∧ profileMost.capacity ≠ (harbour.link 0).capacity)
      ∧ ((harbour.link 3).state = .offline ∧ (harbour.link 3).bound = 0 ∧ harbour.mig.queue = [] ∧ harbour.mig.batch = none)
      ∧ ((harbour.link 1).mask = profile1.mask ∧ (harbour.link 1).capacity = profile1.capacity)
      ∧ (profileMost.priority ≤ 7 ∧ profileMost.capacity ≤ 8192 ∧ profileMost.surcharge ≤ 2000 ∧ profileMost.degrade ≤ 99
        ∧ profileMost.recover ≤ 100 ∧ profileMost.degrade < profileMost.recover ∧ profileMost.hold = 8
        ∧ 1 ≤ profileMost.limit ∧ profileMost.limit ≤ 7)
      ∧ (7 < 8 ∧ 8192 < 8193 ∧ 2000 < 2001 ∧ 99 < 100 ∧ 100 < 101 ∧ 50 ≤ 50) := by
  and_intros <;> first | exact ⟨rfl, rfl⟩ | exact hears_of (by decide) | decide +kernel

/-- Reports that leave a link where it stands, at the threshold, and that take it through each row of R109. -/
theorem witness_LinkReportJudgement :
    let set (l : LinkId) (k : Link) : State := { harbour with links := harbour.links.set l k }
    let ready1 := { harbour.link 1 with state := .degraded, streak := 1 }
    (∀ s ∈ [harbour, set 1 ready1, set 1 { ready1 with state := .down }, inFlight],
        s.ready ∧ s.hears (hd 3 .linkReport) .linkReport .router)
      ∧ harbour.mig.batch = none ∧ ((harbour.link 1).state = .up ∧ ¬ 30 < (harbour.link 1).degrade)
      ∧ ((set 1 ready1).link 1).recover ≤ 50 ∧ ((set 1 ready1).link 1).hold ≤ 2
      ∧ ((set 1 { ready1 with state := .down }).link 1).state = .down
      ∧ (inFlight.mig.batch.map Batch.dest = some 2 ∧ (inFlight.link 2).state = .up ∧ ¬ 30 < (inFlight.link 2).degrade)
      ∧ 7 < 8 := by
  and_intros <;> first
    | (intro s hs; fin_cases hs <;> exact ⟨⟨rfl, rfl⟩, hears_of (by decide)⟩)
    | decide +kernel

/-- The link in the batch; the tolerance met exactly and passed by one; the streak below its limit and at it. -/
theorem witness_ReconcileVerdict :
    let s := { harbour with links := harbour.links.set 1 { harbour.link 1 with accumulator := 10000, discrepancy := 2 } }
    let tolerance := max s.settings.reconcileFloor (max 10000 14096 * s.settings.reconcileTolerance / 1000)
    s.ready ∧ s.hears (hd 3 .reconcile) .reconcile .router ∧ inFlight.ready
      ∧ inFlight.hears (hd 3 .reconcile) .reconcile .router ∧ inFlight.mig.batch.map Batch.source = some (.link 0)
      ∧ s.mig.batch = none ∧ (tolerance = 4096 ∧ 14096 - 10000 ≤ tolerance ∧ tolerance < 14097 - 10000)
      ∧ (s.link 1).state = .up ∧ (s.link 1).limit ≤ (s.link 1).discrepancy + 1
      ∧ (harbour.link 1).discrepancy + 1 < (harbour.link 1).limit ∧ 7 < 8 := by
  and_intros <;> first | exact ⟨rfl, rfl⟩ | exact hears_of (by decide) | decide +kernel

/-! Link migration. -/

/-- Silence; the operands refused; the order RUNNING, one QUEUED behind it, and a source without an order. -/
theorem witness_MoveOrderDisposition :
    let queued : Order := ⟨.link 1, .auto, .all, .zone, [], 0, 0⟩
    let s := { degraded with mig := { degraded.mig with queue := degraded.mig.queue ++ [queued] } }
    quiet.ready ∧ quiet.hears (hd 3 .moveOrder) .moveOrder .router ∧ quiet.silent = true
      ∧ s.ready ∧ s.hears (hd 3 .moveOrder) .moveOrder .router ∧ s.silent = false
      ∧ (s.link 7).state = .offline ∧ (s.link 2).state ≠ .offline
      ∧ s.mig.queue = degraded.mig.queue ++ queued :: [] ∧ degraded.mig.queue ≠ []
      ∧ (∀ p ∈ degraded.mig.queue, p.source ≠ .link 1) ∧ s.mig.queue.head?.map Order.source = some (.link 0)
      ∧ ∀ o ∈ s.mig.queue, o.source ≠ .rescue := by
  and_intros <;> first | exact ⟨rfl, rfl⟩ | exact hears_of (by decide) | decide +kernel

/-- The part with link 0 in a state, and the same with an order RUNNING. -/
def docked (st : LinkState) : State :=
  { harbour with links := harbour.links.set 0 { harbour.links[0] with state := st } }
def running (o : Order) (st : LinkState) : State := { docked st with mig := ⟨[o], none, 65535⟩ }

theorem docked_counts (st : LinkState) : Counts (docked st) := by
  unfold Counts State.linkCounted Link.withinCapacity
  refine ⟨harbour_counts.1, by cases st <;> decide +kernel, by cases st <;> decide +kernel, harbour_counts.2.2.2.1, ?_⟩
  show ∀ p ∈ harbour.sess.records, p.2.binding.isMoving = false
  decide +kernel

theorem running_holds (o : Order) (st : LinkState) :
    Books (running o st) ∧ Listed (running o st) ∧ Counts (running o st) := by
  obtain ⟨a, b, c, d, e⟩ := docked_counts st
  exact ⟨harbour_books, ⟨harbour_listed.1, harbour_listed.2.1, harbour_listed.2.2.1, harbour_listed.2.2.2.1, nofun⟩,
    a, b, c, d, e⟩

/-- The part with one session, of class EMERGENCY, and link 2 without capacity, and the same with an order RUNNING. -/
def adrift : State :=
  { harbour with
    sess := ⟨[(1, opened 1456 .emergency)], 0⟩
    subs := ⟨[(1456, { passenger with sessions := [1] }), (1457, { passengerB with sessions := [] }), (3232, crewman)], 1, .opened⟩
    links := (harbour.links.set 0 { harbour.links[0] with bound := 0, emergency := 1 }).set 2 { harbour.links[2] with capacity := 0 } }
def calling (o : Order) : State := { adrift with mig := ⟨[o], none, 65535⟩ }

theorem adrift_books : Books adrift := by
  unfold Books State.accountsOf Context.balanced Subtotals.sum; decide +kernel

theorem adrift_listed : Listed adrift := by
  unfold Listed State.listOk State.isListed Quiet; decide +kernel

theorem adrift_counts : Counts adrift := by
  unfold Counts State.linkCounted Link.withinCapacity
  refine ⟨by decide +kernel, by decide +kernel, by decide +kernel, by decide +kernel, ?_⟩
  show ∀ p ∈ adrift.sess.records, p.2.binding.isMoving = false
  decide +kernel

theorem calling_holds (o : Order) : Books (calling o) ∧ Listed (calling o) ∧ Counts (calling o) := by
  obtain ⟨a, b, c, d, _⟩ := adrift_listed
  exact ⟨adrift_books, ⟨a, b, c, d, nofun⟩, adrift_counts⟩

theorem witness_BatchStepAdvancesOrder :
    let from0 (d : Dest) (c : OrderCause) : Order := ⟨.link 0, d, .all, c, [], 0, 0⟩
    harbour.mig.queue = [] ∧ inFlight.mig.batch.isSome = true
      ∧ (running ⟨.link 1, .auto, .all, .router, [], 0, 0⟩ .up).scopeHandles ⟨.link 1, .auto, .all, .router, [], 0, 0⟩ = []
      ∧ (running (from0 .auto .zone) .up).scopeHandles (from0 .auto .zone) = [0, 1, 2]
      ∧ (((running (from0 .auto .zone) .up).link 0).state = .up
        ∧ ((running (from0 .auto .zone) .up).link 0).permits (running (from0 .auto .zone) .up).zone.effective = true)
      ∧ ((running (from0 (.fixed 7) .router) .down).link 7).state ≠ .up
      ∧ ((running (from0 (.fixed 2) .router) .up).link 2).state = .up
      ∧ ((running (from0 (.fixed 2) .router) .up).link 2).bound + ((running (from0 (.fixed 2) .router) .up).link 2).reserved
          < ((running (from0 (.fixed 2) .router) .up).link 2).capacity
      ∧ (running (from0 .auto .router) .up).nonEmergencyAmong [0, 1, 2] = 3
      ∧ ((calling (from0 (.fixed 2) .router)).link 2).capacity = 0
      ∧ (calling (from0 .auto .router)).nonEmergencyAmong ((calling (from0 .auto .router)).scopeHandles (from0 .auto .router)) = 0
      ∧ (running ⟨.link 0, .auto, .all, .failed, [1, 2], 0, 0⟩ .down).strands ⟨.link 0, .auto, .all, .failed, [1, 2], 0, 0⟩
      ∧ ∀ m : LinkId, ((running (from0 .auto .failed) .down).link m).state = .up → m = 1 ∨ m = 2 := by
  and_intros <;> first | exact ⟨0, rfl, .inl rfl⟩ | decide +kernel

/-- A batch of one session. -/
def inFlightOne : State :=
  { inFlight with
    sess := ⟨[(0, { opened 1456 .data with binding := .moving (.link 0) 2 12, residue := 4520 })], 0⟩
    subs := ⟨[(1456, { passenger with sessions := [0] }), (1457, { passengerB with sessions := [] }), (3232, crewman)], 1, .opened⟩
    links := ((linksOf 1).set 0 { (linksOf 1)[0] with state := .degraded }).set 2 { (linksOf 1)[2] with reserved := 1 }
    mig := ⟨[⟨.link 0, .auto, .all, .degraded, [], 1, 0⟩], some ⟨12, .link 0, 2, [0], 300000, 302000⟩, 12⟩ }

theorem inFlightOne_holds : Books inFlightOne ∧ Listed inFlightOne ∧ Counts inFlightOne := by
  refine ⟨?_, ?_, ?_⟩
  · unfold Books State.accountsOf Context.balanced Subtotals.sum; decide +kernel
  · unfold Listed State.listOk State.isListed Quiet; decide +kernel
  · unfold Counts State.linkCounted Link.withinCapacity
    refine ⟨by decide +kernel, by decide +kernel, by decide +kernel, by decide +kernel, ?_⟩
    show [0].Nodup ∧ (inFlightOne.link 2).state = .up
      ∧ (∀ n ∈ [0], (inFlightOne.ses n).any (fun x => x.binding == .moving (.link 0) 2 12) = true)
      ∧ ∀ p ∈ inFlightOne.sess.records, p.2.binding.isMoving = true → p.1 ∈ [0]
    decide +kernel

theorem witness_BatchAcceptRebinds :
    inFlight.ready ∧ inFlight.hears (hd 3 .batchAnswer) .batchAnswer .router
      ∧ inFlight.mig.batch = some ⟨12, .link 0, 2, [0, 1, 2], 300000, 302000⟩
      ∧ inFlight.mig.queue = [⟨.link 0, .auto, .all, .degraded, [], 1, 0⟩] ∧ Source.link 0 ≠ .link 2
      ∧ (Books inFlight ∧ Listed inFlight ∧ Counts inFlight) ∧ inFlightOne.ready
      ∧ inFlightOne.hears (hd 3 .batchAnswer) .batchAnswer .router ∧ inFlightOne.mig.batch.map Batch.sessions = some [0]
      ∧ (Books inFlightOne ∧ Listed inFlightOne ∧ Counts inFlightOne)
      ∧ (inFlightOne.ses 0).any (fun x => !inFlightOne.inPrevious x && x.residue == 4520 && x.cls == .data) = true
      ∧ inFlightOne.ctx 1456 = some { passenger with sessions := [0] } ∧ inFlightOne.par 0 = some partner0 :=
  ⟨⟨rfl, rfl⟩, hears_of (by decide), rfl, rfl, by decide, ⟨inFlight_books, inFlight_listed, inFlight_counts⟩, ⟨rfl, rfl⟩,
    hears_of (by decide), rfl, inFlightOne_holds, by decide, rfl, rfl⟩

/-- Batch 12 under an order with a fixed destination, with link 0 in a state. -/
def fixedFlight (st : LinkState) : State :=
  { inFlight with
    links := inFlight.links.set 0 { inFlight.links[0] with state := st }
    mig := { inFlight.mig with queue := [⟨.link 0, .fixed 2, .all, .router, [], 1, 0⟩] } }

theorem fixedFlight_holds (st : LinkState) :
    Books (fixedFlight st) ∧ Listed (fixedFlight st) ∧ Counts (fixedFlight st) := by
  refine ⟨inFlight_books, ⟨inFlight_listed.1, inFlight_listed.2.1, inFlight_listed.2.2.1, inFlight_listed.2.2.2.1, nofun⟩,
    inFlight_counts.1, ?_, ?_, inFlight_counts.2.2.2.1, inFlight_counts.2.2.2.2⟩
  · unfold State.linkCounted; cases st <;> decide +kernel
  · unfold Link.withinCapacity; cases st <;> decide +kernel

/-- The batch whose destination is one bad report from DEGRADED. -/
def shaky : State := { inFlight with links := inFlight.links.set 2 { inFlight.links[2] with hold := 2, streak := 1 } }

theorem shaky_counts : Counts shaky := by
  refine ⟨inFlight_counts.1, ?_, ?_, inFlight_counts.2.2.2.1, inFlight_counts.2.2.2.2⟩
  · unfold State.linkCounted; decide +kernel
  · unfold Link.withinCapacity; decide +kernel

/-- The batch of an AUTO order, one of an order with a fixed destination, and one whose source is DOWN; the deadline's
last millisecond and the deadline; and a destination at its hold count, for a report just below its threshold. -/
theorem witness_BatchFailureReturns :
    harbour.ready ∧ harbour.hears (hd 3 .batchAnswer) .batchAnswer .router ∧ harbour.mig.batch = none
      ∧ (∀ s ∈ [inFlight, fixedFlight .degraded, fixedFlight .down],
          s.ready ∧ s.hears (hd 3 .batchAnswer) .batchAnswer .router
          ∧ s.mig.batch = some ⟨12, .link 0, 2, [0, 1, 2], 300000, 302000⟩ ∧ Books s ∧ Listed s ∧ Counts s)
      ∧ (inFlight.mig.queue.map Order.dest = [.auto] ∧ inFlight.silent = false
        ∧ inFlight.hears (hd 3 .linkReport) .linkReport .router)
      ∧ ((fixedFlight .degraded).link 0).state = .degraded ∧ ((fixedFlight .down).link 0).state = .down
      ∧ (fixedFlight .down).hears (hd 3 .linkReport) .linkReport .router
      ∧ (shaky.ready ∧ shaky.mig.batch = inFlight.mig.batch ∧ Books shaky ∧ Listed shaky ∧ Counts shaky
        ∧ (0 < 29 ∧ 29 < (shaky.link 2).degrade) ∧ (shaky.link 2).hold ≤ (shaky.link 2).streak + 1)
      ∧ (at_ 301999 inFlight).time.clock < 302000 ∧ 302000 ≤ (at_ 302000 inFlight).time.clock := by
  refine ⟨⟨rfl, rfl⟩, hears_of (by decide), rfl, ?_, ⟨rfl, rfl, hears_of (by decide)⟩, rfl, rfl, hears_of (by decide),
    ⟨⟨rfl, rfl⟩, rfl, inFlight_books, inFlight_listed, shaky_counts, by decide, by decide⟩, by decide, by decide⟩
  intro s hs
  fin_cases hs
  · exact ⟨⟨rfl, rfl⟩, hears_of (by decide), rfl, inFlight_books, inFlight_listed, inFlight_counts⟩
  · exact ⟨⟨rfl, rfl⟩, hears_of (by decide), rfl, fixedFlight_holds .degraded⟩
  · exact ⟨⟨rfl, rfl⟩, hears_of (by decide), rfl, fixedFlight_holds .down⟩

/-! Zones, silence and the subscriber pass. -/

theorem witness_ZoneSetRecord :
    harbour.ready ∧ harbour.hears (hd 0 .zoneSet) .zoneSet .purser ∧ 600 ≤ 600 ∧ 600 < 601 ∧ 31 < 32
      ∧ (harbour.zoneAt 31).defined = false ∧ ((harbour.zoneAt 3).defined = true ∧ harbour.zone.effective ≠ some 3)
      ∧ harbour.zoneAt 1 = ⟨true, .port, .full, 0⟩ ∧ harbour.zone.effective = some 1 := by
  and_intros <;> first | exact ⟨rfl, rfl⟩ | exact hears_of (by decide) | decide +kernel

/-- An undefined zone, the effective zone, a candidate that is new, one counted to just under and at its count and hold,
one deferred by the cut pass, one that waits, and a return in STALE. -/
theorem witness_FixOutcomes :
    let with_ (c : Candidate) (s : State) : State := { s with zone := { s.zone with candidate := some c } }
    let s := with_ ⟨3, 2, 170000⟩ harbour
    let late := with_ ⟨3, 2, 170001⟩ harbour
    let c := with_ ⟨1, 2, 1000000⟩ cutting
    let waits := { c with zone := { c.zone with deferred := true } }
    let stale := with_ ⟨1, 15, 0⟩ { harbour with zone := { harbour.zone with tracking := .stale } }
    (∀ t ∈ [harbour, s, late, c, waits, stale], t.ready ∧ t.hears (hd 4 .fix) .fix .nav)
      ∧ 31 < 32 ∧ (harbour.zoneAt 2).defined = false ∧ harbour.zone.tracking = .placed ∧ harbour.zone.effective = some 1
      ∧ harbour.zone.candidate = none ∧ (harbour.zoneAt 3).defined = true
      ∧ (s.settings.confirmCount = 3 ∧ s.settings.confirmHold * 1000 ≤ s.time.clock - 170000)
      ∧ ¬ late.settings.confirmHold * 1000 ≤ late.time.clock - 170001
      ∧ c.cutPos.isSome = true ∧ c.zone.effective = some 3 ∧ waits.zone.deferred = true
      ∧ stale.zone.tracking = .stale ∧ stale.zone.effective = some 1 ∧ min (15 + 1) 15 = 15 := by
  and_intros <;> first
    | (intro t ht; fin_cases ht <;> exact ⟨⟨rfl, rfl⟩, hears_of (by decide)⟩)
    | decide +kernel

/-- The stale instant's last millisecond and the instant; the cut pass; a release due, of a crossing and of a return; an
expiry held with a deferred confirmation pending, and one held without. -/
theorem witness_StaleExpiryAndRelease :
    let due (c : Option Candidate) : State := { harbour with
      zone := { harbour.zone with releaseDue := true, deferred := true, candidate := c } }
    let home : State := { due (some ⟨1, 3, 0⟩) with zone := { (due (some ⟨1, 3, 0⟩)).zone with tracking := .stale } }
    (∀ s ∈ [harbour, at_ 253999 harbour, at_ 254000 harbour, cutting, due none, due (some ⟨3, 3, 0⟩), home, held true, held false],
        s.ready)
      ∧ (harbour.zone.tracking = .placed ∧ harbour.zone.lastFix = some 190000 ∧ 2 ^ harbour.settings.staleExponent * 1000 = 64000)
      ∧ ¬ 190000 + 64000 ≤ (at_ 253999 harbour).time.clock ∧ 190000 + 64000 ≤ (at_ 254000 harbour).time.clock
      ∧ cutting.cutPos.isSome = true ∧ harbour.zone.releaseDue = false
      ∧ (due (some ⟨3, 3, 0⟩)).zone.effective ≠ some 3 ∧ (due (some ⟨3, 3, 0⟩)).cutPos = none
      ∧ home.zone.effective = some 1 ∧ home.zone.tracking = .stale ∧ home.zone.releaseDue = true
      ∧ { due none with cutPos := some 0 }.cutPos.isSome = true
      ∧ ((held true).zone.expiryHeld = true ∧ (held true).zone.releaseDue = true ∧ (held true).zone.deferred = true)
      ∧ ((held false).zone.expiryHeld = true ∧ (held false).zone.releaseDue = true ∧ (held false).zone.deferred = false
        ∧ (held false).cutPos = none ∧ 190000 + 64000 ≤ (held false).time.clock) := by
  and_intros <;> first
    | (intro t ht; fin_cases ht <;> exact ⟨rfl, rfl⟩)
    | decide +kernel

theorem witness_SilenceEnteredAndLeft :
    let s (line flag : Bool) : State := { boarded with zone := { boarded.zone with line := line, flag := flag } }
    (∀ a b : Bool, (s a b).ready ∧ (s a b).hears (hd 1 .silenceSet) .silenceSet .radio
        ∧ (s a b).zone.line = a ∧ (s a b).zone.flag = b)
      ∧ harbour.ready ∧ harbour.hears (hd 1 .silenceSet) .silenceSet .radio
      ∧ (harbour.zone.flag = false ∧ harbour.zone.line = false) ∧ Books harbour ∧ Listed harbour ∧ Counts harbour :=
  ⟨fun a b => by cases a <;> cases b <;> exact ⟨⟨rfl, rfl⟩, hears_of (by decide), rfl, rfl⟩, ⟨rfl, rfl⟩, hears_of (by decide),
    ⟨rfl, rfl⟩, harbour_books, harbour_listed, harbour_counts⟩

/-- Just before the instants and at them, for the start of a pass and for the last handle's visit. -/
theorem witness_PassInstants :
    let s (pos elapsed : Nat) : State := { boarded with time := { boarded.time with passPos := pos, passElapsed := elapsed } }
    (∀ t ∈ [s 4072 1999, s 4072 2000, s 4071 1998, s 4071 1999], t.ready)
      ∧ ((s 4072 2000).time.passPeriod * 1000 ≤ 2000 ∧ 1999 < (s 4072 1999).time.passPeriod * 1000)
      ∧ (4071 * ((s 4071 1999).time.passPeriod * 1000) / 4072 ≤ 1999 ∧ 1998 < 4071 * ((s 4071 1998).time.passPeriod * 1000) / 4072)
      ∧ (s 4071 1999).ctx 4071 = none := by
  and_intros <;> first
    | (intro t ht; fin_cases ht <;> exact ⟨rfl, rfl⟩)
    | decide +kernel

/-- An ATTACHED context with a passed ask and an idle session, a DORMANT one before its deadline and at it. -/
theorem witness_PassVisitTakesDeadlines :
    let visited (t : Nat) (s : State) : State := { s with time := { s.time with clock := t, passPos := 1456, passElapsed := 715 } }
    let asked := visited 2000000 { harbour with
      subs := { harbour.subs with
        contexts := [(1456, { passenger with ask := some ⟨1, 2000000⟩, granted := 0 }), (1457, passengerB), (3232, crewman)] } }
    (∀ s ∈ [asked, visited 4799999 quiet, visited 4800000 quiet], s.ready ∧ s.time.passPos = 1456
        ∧ 1456 * (s.time.passPeriod * 1000) / 4072 ≤ s.time.passElapsed ∧ (s.par 0).isSome = true
        ∧ Table.wf s.subs.contexts = true)
      ∧ Listed asked
      ∧ (asked.ctx 1456).any (fun c => c.presence == .attached && c.ask == some ⟨1, asked.time.clock⟩) = true
      ∧ (asked.ses 0).any (fun x => decide (asked.settings.idle * 1000 ≤ asked.time.clock - x.lastUsage)) = true
      ∧ (quiet.ctx 1456).any (fun c => !c.pinned && c.dormancy == some 4800000) = true := by
  refine ⟨?_, ?_, by decide +kernel, by decide +kernel, by decide +kernel⟩
  · intro s hs; fin_cases hs <;> exact ⟨⟨rfl, rfl⟩, rfl, by decide, rfl, by decide⟩
  · unfold Listed State.listOk State.isListed Quiet; decide +kernel

/-! The invariants, in a state with sessions and in one with a batch in flight; a step there answers a next state. -/

theorem witness_StepKeepsBooks : Books harbour ∧ Books inFlight ∧ ∃ t, step inFlight = .next t :=
  ⟨harbour_books, inFlight_books, _, rfl⟩

theorem witness_StepKeepsListed : Listed harbour ∧ Listed inFlight ∧ ∃ t, step inFlight = .next t :=
  ⟨harbour_listed, inFlight_listed, _, rfl⟩

theorem witness_StepKeepsCounts : Counts harbour ∧ Counts inFlight ∧ ∃ t, step inFlight = .next t :=
  ⟨harbour_counts, inFlight_counts, _, rfl⟩

theorem witness_InvariantsAtPowerOn : ∃ t, exec (.powerOn true) harbour = .next t := ⟨_, rfl⟩

end Sys2Proof.Tests
end

section
/-! Chapter 1, first part: the requests of the Tariff Unit; the creation of a partner and the range checks. -/

namespace Sys2Proof.Machine

/-! ### The commands, and the partner or plan they name -/

theorem exec_partnerSet (h : Header) (d : PartnerDef) (s : State) :
    exec (.partnerSet h d) s = .next (request h .partnerSet (partnerSetAnswer d) s) := rfl

theorem exec_partnerStatus (h : Header) (code : Nat) (status : Option PartnerStatus) (s : State) :
    exec (.partnerStatus h code status) s = .next (request h .partnerStatus (partnerStatusAnswer code status) s) := rfl

/-- R174 to R178: a request whose owner gives an answer that raised notices, none of them addressed to GATEWAY. -/
theorem request_tells {s t : State} {h : Header} {k : Kind} {who : Role} {handle : Handler} {r : Result}
    {body : List Field} {ns : List Notice} (hr : s.ready) (hh : s.hears h k who) (hp : permits k who = true)
    (ha : handle ⟨h.client, who⟩ s = ⟨r, body, { t with raised := ns }⟩) (hq : t.raised = [])
    (hn : t.port.inReset = false) (ht : t.time.clock = s.time.clock) (hg : ∀ n ∈ ns, n.toGateway = false) :
    Host.Outcome.next (request h k handle s) = answered h k r body s t ns := by
  have before : ns.filter (! ·.toGateway) = ns := List.filter_eq_self.2 fun n hn => by simp [hg n hn]
  have after : ns.filter (·.toGateway) = [] := List.filter_eq_nil_iff.2 fun n hn => by simp [hg n hn]
  rw [request_raises hr hh hp ha hq hn ht, before, after]

/-- R2: a code that no partner holds is not found. -/
theorem partnerByCode_unheld {s : State} {code : Nat} (hn : ∀ p ∈ s.tariff.partners, p.2.code ≠ code) :
    s.partnerByCode code = none :=
  List.find?_eq_none.2 fun p hp => by simpa using hn p hp

@[simp] theorem planOf_val (plan : PlanId) : planOf plan.val = some plan := by simp [planOf]

/-- R4, Table 1-1: what the range check of a PARTNER_SET admits. -/
theorem partnerRangesOk_iff (d : PartnerDef) :
    partnerRangesOk d = true ↔ d.barWindow ≤ 600 ∧ d.plan < 32 ∧ -500 ≤ d.adjustment ∧ d.adjustment ≤ 1000
      ∧ d.exposure ≤ 9999999999999999 ∧ d.initialStep ≤ 999999999999 ∧ d.topUpStep ≤ 999999999999
      ∧ d.lowWater ≤ 999999999999 := by
  simp only [partnerRangesOk, Bool.and_eq_true, decide_eq_true_eq, and_assoc]
  rfl

/-! ### PARTNER_SET: its three ways (R4, R5) -/

/-- R4: a PARTNER_SET without a kind, with a code above the largest or with a field out of range is refused. -/
theorem partnerSetAnswer_badValue {d : PartnerDef} (who : Sender) (s : State)
    (hd : d.kind = none ∨ 99999 < d.code ∨ partnerRangesOk d = false) :
    partnerSetAnswer d who s = refuse .badValue s := by
  unfold partnerSetAnswer
  split
  · next kind plan hk hp =>
    have : codeMax < d.code ∨ partnerRangesOk d = false := by simpa [hk, codeMax] using hd
    exact if_pos (by simpa using this)
  · rfl

/-- R4: a PARTNER_SET in range for a code that no partner holds creates one. -/
theorem partnerSetAnswer_unheld {d : PartnerDef} {kind : PartnerKind} {plan : PlanId} (who : Sender) {s : State}
    (hk : d.kind = some kind) (hp : d.plan = plan.val) (hc : d.code ≤ 99999) (hr : partnerRangesOk d = true)
    (hn : s.partnerByCode d.code = none) : partnerSetAnswer d who s = createPartner d kind plan s := by
  simp [partnerSetAnswer, hk, hp, hr, hn, codeMax, Nat.not_lt.2 hc]

/-- R5: a PARTNER_SET in range for a code that a partner holds redefines it. -/
theorem partnerSetAnswer_held {d : PartnerDef} {kind : PartnerKind} {plan : PlanId} (who : Sender) {s : State} {i : Nat}
    {p : Partner} (hk : d.kind = some kind) (hp : d.plan = plan.val) (hc : d.code ≤ 99999)
    (hr : partnerRangesOk d = true) (hs : s.partnerByCode d.code = some (i, p)) :
    partnerSetAnswer d who s = redefinePartner i p d kind plan s := by
  simp [partnerSetAnswer, hk, hp, hr, hs, codeMax, Nat.not_lt.2 hc]

/-! ### Creation (R1, R4) -/

/-- The first free number is the number that is free while every lower one in the range is listed. -/
theorem Table.firstFree_eq_some {α : Type} (t : Table α) {b n k : Nat} (hb : b ≤ k) (hk : k < b + n)
    (hf : Table.has t k = false) (hl : ∀ j, b ≤ j → j < k → Table.has t j = true) : Table.firstFree t b n = some k := by
  induction n generalizing b with
  | zero => omega
  | succ n ih =>
    unfold Table.firstFree
    by_cases e : b = k
    · subst e; simp [hf]
    · rw [if_pos (hl b (Nat.le_refl b) (by omega))]
      exact ih (by omega) (by omega) fun j hj => hl j (by omega)

/-- A range whose every number is listed has no free number. -/
theorem Table.firstFree_eq_none {α : Type} (t : Table α) {b n : Nat}
    (hl : ∀ j, b ≤ j → j < b + n → Table.has t j = true) : Table.firstFree t b n = none := by
  cases hf : Table.firstFree t b n with
  | none => rfl
  | some k =>
    obtain ⟨free, hb, hk, -⟩ := Table.firstFree_spec t b n k hf
    simp [hl k hb hk] at free

theorem has_partner_iff (s : State) (i : Nat) : Table.has s.tariff.partners i = true ↔ s.par i ≠ none :=
  Option.isSome_iff_ne_none

/-- Settles O16: the lowest free slot is the first free number of the partner table, and a full table has none. -/
theorem partnerSetCreates : Obligations.PartnerSetCreates := by
  intro h d kind plan s hr hh hk hp hc hw ha1 ha2 he hi ht hl hn
  have ranges : partnerRangesOk d = true :=
    (partnerRangesOk_iff d).2 ⟨hw, hp ▸ plan.isLt, ha1, ha2, he, hi, ht, hl⟩
  have answer := partnerSetAnswer_unheld ⟨h.client, .purser⟩ hk hp hc ranges (partnerByCode_unheld hn)
  rw [exec_partnerSet]
  constructor
  · intro i hi256 free taken
    have slot : Table.firstFree s.tariff.partners 0 partnerSlots = some i :=
      Table.firstFree_eq_some _ (Nat.zero_le i) (by simpa [partnerSlots] using hi256)
        (Option.isSome_eq_false_iff.2 (Option.isNone_iff_eq_none.2 free))
        fun j _ hj => (has_partner_iff s j).2 (taken j hj)
    exact request_answers hr hh rfl (answer.trans (by simp only [createPartner, slot]; rfl)) hr.1 hr.2 rfl
  · intro taken
    have slot : Table.firstFree s.tariff.partners 0 partnerSlots = none :=
      Table.firstFree_eq_none _ fun j _ hj =>
        (has_partner_iff s j).2 (taken j (by simpa [partnerSlots] using hj))
    exact request_refuses hr hh rfl (answer.trans (by simp only [createPartner, slot]))

/-! ### Ranges (R4, R11) -/

/-- R11: an unset or out-of-range value of a RATE_SET names no cell. -/
theorem rateTarget_eq_none {r : RateDef}
    (hr : 31 < r.plan ∨ r.zoneClass = none ∨ r.cls = none ∨ r.cls = some .emergency ∨ r.rounding = none
      ∨ (r.cls = some .voice ∧ (r.blockSize < 1 ∨ 3600 < r.blockSize))
      ∨ (r.cls = some .data ∧ (r.blockSize < 1024 ∨ 1048576 < r.blockSize ∨ r.blockSize % 1024 ≠ 0))
      ∨ (r.cls = some .message ∧ (r.blockSize ≠ 1 ∨ r.rounding = some .prorata ∨ 0 < r.minimum))
      ∨ 10000000 < r.price ∨ 15 < r.minimum) : rateTarget r = none := by
  unfold rateTarget
  split
  · next z c rd hz hc hrd =>
    simp only [hz, hc, hrd, Option.some.injEq, reduceCtorEq, false_or] at hr
    split
    · rfl
    · split
      · refine if_neg fun ok => ?_
        simp only [Bool.and_eq_true, decide_eq_true_eq] at ok
        obtain ⟨⟨⟨size, price⟩, minimum⟩, message⟩ := ok
        cases c with
        | voice => simp [blockSizeOk] at size hr; omega
        | data => simp [blockSizeOk] at size hr; omega
        | message =>
          have unit : r.blockSize = 1 := by simpa [blockSizeOk] using size
          obtain ⟨rfl, zero⟩ : rd = .whole ∧ r.minimum = 0 := by simpa using message
          simp [unit, zero] at hr
          omega
        | emergency => simp [blockSizeOk] at size
      · rfl
  · rfl

/-- Settles O18: a value out of range fails the range check of a PARTNER_SET, and leaves a RATE_SET without a cell. -/
theorem tariffRangesEnforced : Obligations.TariffRangesEnforced := by
  constructor
  · intro h d s hr hh hd
    have bad : d.kind = none ∨ 99999 < d.code ∨ partnerRangesOk d = false := by
      rw [← Bool.not_eq_true, partnerRangesOk_iff]
      by_cases hk : d.kind = none
      · exact .inl hk
      · simp only [hk, false_or] at hd ⊢; omega
    exact request_refuses hr hh rfl (partnerSetAnswer_badValue _ s bad)
  · intro h r s hr hh hbad
    refine request_refuses hr hh rfl ?_
    simp only [rateSetAnswer, rateTarget_eq_none hbad]

end Sys2Proof.Machine
end

section
/-! Chapter 1, second part: who gets a notice; a partner's status and removal; the disposition of a RATE_SET. -/

namespace Sys2Proof.Machine

/-! ### The copies of a notice (R177) -/

@[simp] theorem State.told_singleton (s : State) (n : Notice) : s.told [n] = s.copies n := by simp [State.told]

theorem State.told_append (s : State) (ns ms : List Notice) : s.told (ns ++ ms) = s.told ns ++ s.told ms := by
  simp [State.told]

/-- R177: a copy goes to a client in use that has a bound address and an addressed role, and to nobody else. -/
theorem State.mem_copies_iff (s : State) (n : Notice) (f : OutFrame) :
    f ∈ s.copies n ↔ ∃ k c a, (k, c) ∈ s.port.clients ∧ c.address = some a ∧ c.role ∈ n.roles
      ∧ f = { dst := a, etherType := s.settings.etherType, client := k, kind := n.code, tag := 0, result := .ok,
              seconds := s.time.clock / 1000, body := n.body } := by
  simp only [State.copies, List.mem_filterMap, Prod.exists]
  refine exists_congr fun k => exists_congr fun c => ?_
  by_cases hc : c.role ∈ n.roles
  · simp only [List.contains_iff_mem, hc, if_true, Option.map_eq_some_iff, true_and, exists_and_left]
    refine and_congr_right fun _ => exists_congr fun a => and_congr_right fun _ => eq_comm
  · simp [hc]

/-- R177: the copies of a notice go out in the order of the client table, one for a client. -/
theorem State.copies_clients_sublist (s : State) (n : Notice) :
    ((s.copies n).map OutFrame.client).Sublist (s.port.clients.map Prod.fst) := by
  unfold State.copies
  induction s.port.clients with
  | nil => exact .slnil
  | cons q rest ih =>
    obtain ⟨k, c⟩ := q
    rw [List.filterMap_cons]
    split
    · exact ih.cons k
    · next f hf =>
      have hk : f.client = k := by
        simp only [Option.ite_none_right_eq_some, Option.map_eq_some_iff] at hf
        obtain ⟨-, a, -, rfl⟩ := hf
        rfl
      simpa [hk] using ih.cons_cons k

/-! ### PARTNER_STATUS and PARTNER_REMOVE (R7 to R9) -/

/-- R7: a status other than the one held is written with its bar time, and told. -/
theorem partnerStatusAnswer_new {code : Nat} {st : PartnerStatus} (who : Sender) {s : State} {i : Nat} {p : Partner}
    (hc : code ≤ 99999) (hs : s.partnerByCode code = some (i, p)) (hst : st ≠ p.status) :
    partnerStatusAnswer code (some st) who s =
      let q : Partner := { p with status := st, barTime := if st = .barred then some s.time.clock else none }
      ⟨.ok, fStatus i q, (s.setPar i q).raise q.statusNotice⟩ := by
  simp [partnerStatusAnswer, hs, hst, codeMax, Nat.not_lt.2 hc, State.now]

/-- R7: the status held already is only answered. -/
theorem partnerStatusAnswer_held {code : Nat} (who : Sender) {s : State} {i : Nat} {p : Partner}
    (hc : code ≤ 99999) (hs : s.partnerByCode code = some (i, p)) :
    partnerStatusAnswer code (some p.status) who s = ⟨.already, fStatus i p, s⟩ := by
  simp [partnerStatusAnswer, hs, codeMax, Nat.not_lt.2 hc]

/-- R7: the response to a new status carries the bar time when that status is BARRED. -/
theorem fStatus_new (i : Nat) (p : Partner) (st : PartnerStatus) (now : Nat) :
    fStatus i { p with status := st, barTime := if st = .barred then some now else none } =
      [.u8 i, .u8 st.code, .u8 (if st = .barred then 1 else 0),
        .u64 ((if st = .barred then some now else none).getD 0)] := by
  cases st <;> rfl

/-- R8: the notice of a new status carries the release deadline when that status is BARRED. -/
theorem statusNotice_new (p : Partner) (st : PartnerStatus) (now : Nat) :
    ({ p with status := st, barTime := if st = .barred then some now else none } : Partner).statusNotice =
      .partnerStatus p.code st ((if st = .barred then some now else none).map
        fun b => min (b + p.barWindow * 1000) 1099511627775) := by
  cases st <;> rfl

/-- Table 10-3: the notice of a partner is not addressed to GATEWAY. -/
theorem toGateway_statusNotice (p : Partner) : p.statusNotice.toGateway = false := rfl

/-- R9: what a removal takes from the partner table, the ordered list and the revision list. -/
theorem removePartner_eq (i code : Nat) (s : State) :
    removePartner i code s = { s with tariff := { s.tariff with
      partners := Table.erase s.tariff.partners i
      codes := s.tariff.codes.filter (· ≠ code)
      revisions := s.tariff.revisions.filter fun r => match r with
        | .partner j _ _ _ => j ≠ i
        | .cell .. => true } } := by
  have codes : s.tariff.codes.filter (fun c => c != code) = s.tariff.codes.filter (· ≠ code) :=
    List.filter_congr fun c _ => by rw [Bool.eq_iff_iff]; simp
  have entries : s.tariff.revisions.filter (fun r => !r.isPartner i) = s.tariff.revisions.filter fun r => match r with
      | .partner j _ _ _ => j ≠ i
      | .cell .. => true :=
    List.filter_congr fun r _ => by
      cases r with
      | cell j new old => rfl
      | partner j plan a old => simp [Revision.isPartner, Bool.beq_eq_decide_eq, eq_comm]
  simp only [removePartner, codes, entries]

/-- Settles O19: the two requests decide in the order of R7 and R9, and the copies of a notice are those of R177. -/
theorem partnerStatusAndRemove : Obligations.PartnerStatusAndRemove := by
  refine ⟨?status, ?remove, ?copies, fun code st d => ⟨rfl, rfl⟩⟩
  case status =>
    intro h code st s hr hh hc
    have refuses {c : Nat} {o : Option PartnerStatus} {r : Result}
        (ha : partnerStatusAnswer c o ⟨h.client, .purser⟩ s = refuse r s) :
        exec (.partnerStatus h c o) s = refused h .partnerStatus r s := request_refuses hr hh rfl ha
    refine ⟨?_, ?_, fun hn => refuses ?_, refuses rfl, fun big hbig => refuses ?_⟩
    · intro i p hs hst bar
      have answer := partnerStatusAnswer_new ⟨h.client, .purser⟩ hc hs hst
      have notice := statusNotice_new p st s.time.clock
      rw [exec_partnerStatus, ← notice, ← fStatus_new]
      exact request_tells hr hh rfl (answer.trans (by simp only [State.raise, State.setPar, hr.1]; rfl)) hr.1 hr.2 rfl
        (by simp [toGateway_statusNotice])
    · rintro i p hs rfl
      exact request_answers hr hh rfl (partnerStatusAnswer_held _ hc hs) hr.1 hr.2 rfl
    · simp [partnerStatusAnswer, partnerByCode_unheld hn, codeMax, Nat.not_lt.2 hc]
    · simp [partnerStatusAnswer, codeMax, hbig]
  case remove =>
    intro h code s hr hh hc
    have refuses {c : Nat} {r : Result} (ha : partnerRemoveAnswer c ⟨h.client, .purser⟩ s = refuse r s) :
        exec (.partnerRemove h c) s = refused h .partnerRemove r s := request_refuses hr hh rfl ha
    refine ⟨fun i p hs => ⟨fun h0 h1 => ?_, fun hp => refuses ?_⟩, fun hn => refuses ?_, fun big hbig => refuses ?_⟩
    · have answer : partnerRemoveAnswer code ⟨h.client, .purser⟩ s = ⟨.ok, [.u8 i], removePartner i code s⟩ := by
        simp [partnerRemoveAnswer, hs, h0, h1, codeMax, Nat.not_lt.2 hc]
      exact (request_answers hr hh rfl answer hr.1 hr.2 rfl).trans
        (congrArg (answered h .partnerRemove .ok [.u8 i] s) (removePartner_eq i code s))
    · simp [partnerRemoveAnswer, hs, hp, codeMax, Nat.not_lt.2 hc]
    · simp [partnerRemoveAnswer, partnerByCode_unheld hn, codeMax, Nat.not_lt.2 hc]
    · simp [partnerRemoveAnswer, codeMax, hbig]
  case copies =>
    intro n s addressed
    have roles : addressed = n.roles := by cases n <;> rfl
    rw [State.told_singleton, roles]
    exact ⟨s.mem_copies_iff n, s.copies_clients_sublist n, fun before after => by
      rw [State.told_append, ← List.singleton_append, State.told_append, State.told_singleton, List.append_assoc]⟩

/-! ### RATE_SET (R12) -/

/-- R14: whether the revision list holds an entry for a cell. -/
theorem hasCellEntry_iff (s : State) (i : Nat) :
    s.hasCellEntry i = true ↔ ∃ v o, Revision.cell i v o ∈ s.tariff.revisions := by
  simp only [State.hasCellEntry, List.any_eq_true]
  constructor
  · rintro ⟨r, hr, hi⟩
    cases r with
    | cell j v o => obtain rfl : i = j := by simpa [Revision.isCell] using hi
                    exact ⟨v, o, hr⟩
    | partner j q a o => simp [Revision.isCell] at hi
  · rintro ⟨v, o, hr⟩
    exact ⟨_, hr, by simp [Revision.isCell]⟩

/-- R12: what a replacement in place does to an entry. -/
theorem replaceCell_eq (i : Nat) (new : Cell) :
    Revision.replaceCell i new = fun e => match e with
      | .cell j v o => if j = i then .cell i new o else .cell j v o
      | e => e := by
  funext e
  cases e with
  | cell j v o => by_cases hj : i = j <;> simp [Revision.replaceCell, hj, eq_comm]
  | partner j q a o => rfl

/-- R11, R10: a RATE_SET within the ranges of its class names the cell of its plan, zone class and class. -/
theorem rateTarget_eq_some {r : RateDef} {z : ZoneClass} {c : TrafficClass} {rd : Rounding} {plan : PlanId} {col : Nat}
    (hz : r.zoneClass = some z) (hc : r.cls = some c) (hrd : r.rounding = some rd) (hp : r.plan = plan.val)
    (hcol : classColumn c = some col) (hb : blockSizeOk c r.blockSize = true)
    (hm : c = .message → rd = .whole ∧ r.minimum = 0) (hpr : r.price ≤ 10000000) (hmin : r.minimum ≤ 15) :
    rateTarget r = some (plan, plan.val * 12 + z.code * 3 + col, ⟨r.blockSize, r.price, rd, r.minimum⟩) := by
  have message : (c != .message || (rd == .whole && r.minimum == 0)) = true := by
    by_cases e : c = .message
    · obtain ⟨hw, h0⟩ := hm e; simp [hw, h0]
    · simp [e]
  simp [rateTarget, hz, hc, hrd, hcol, hp, hb, hpr, hmin, cellIndex, message]

/-- Settles O20: once the cell is known, RATE_SET decides in the order of R12. -/
theorem rateSetDisposition : Obligations.RateSetDisposition := by
  intro h r z c rd plan col s hr hh hz hc hrd hp hcls hpr hmin i cell entry staged
  have target : rateTarget r = some (plan, i, cell) := by
    rcases hcls with ⟨rfl, rfl, hb⟩ | ⟨rfl, rfl, hb⟩ | ⟨rfl, rfl, hb, hm⟩
    · exact rateTarget_eq_some hz hc hrd hp rfl (by simp [blockSizeOk, hb]) nofun hpr hmin
    · exact rateTarget_eq_some hz hc hrd hp rfl (by simp [blockSizeOk, hb]) nofun hpr hmin
    · exact rateTarget_eq_some hz hc hrd hp rfl (by simp [blockSizeOk, hb]) (fun _ => hm) hpr hmin
  have refuses (ha : rateSetAnswer r ⟨h.client, .purser⟩ s = refuse .busy s) :
      exec (.rateSet h r) s = refused h .rateSet .busy s := request_refuses hr hh rfl ha
  have stages {rs : List Revision} (ha : rateSetAnswer r ⟨h.client, .purser⟩ s =
      ⟨.ok, [.u16 i, .u8 1, .u8 rs.length], s.setRevisions rs⟩) : exec (.rateSet h r) s = staged rs :=
    request_answers hr hh rfl ha hr.1 hr.2 rfl
  have idle (hcut : s.cutPos = none) : s.cutRunning = false := by simp [State.cutRunning, hcut]
  have absent (he : ¬ entry) : s.hasCellEntry i = false := Bool.eq_false_iff.2 fun hc => he ((hasCellEntry_iff s i).1 hc)
  refine ⟨fun hcut => refuses ?_, fun hcut he => ?_, fun hcut he hu => ?_, fun hcut he hu hfull => refuses ?_,
    fun hcut he hu hroom => stages ?_⟩
  · simp [rateSetAnswer, target, State.cutRunning, hcut]
  · refine (stages (rs := s.tariff.revisions.map (Revision.replaceCell i cell)) ?_).trans
      (congrArg (fun f => staged (s.tariff.revisions.map f)) (replaceCell_eq i cell))
    simp only [rateSetAnswer, target, idle hcut, (hasCellEntry_iff s i).2 he]; rfl
  · refine request_answers hr hh rfl (t := s.setCell i cell) ?_ hr.1 hr.2 rfl
    simp only [rateSetAnswer, target, idle hcut, absent he, hu]; rfl
  · simp only [rateSetAnswer, target, idle hcut, absent he, Bool.false_eq_true, if_false, if_neg (Nat.ne_of_gt hu)]
    exact if_pos hfull
  · simp only [rateSetAnswer, target, idle hcut, absent he, Bool.false_eq_true, if_false, if_neg (Nat.ne_of_gt hu)]
    exact if_neg (Nat.not_le.2 hroom)

end Sys2Proof.Machine
end

section
/-! Chapter 1, third part: the redefinition of a partner. -/

namespace Sys2Proof.Machine

/-! ### PARTNER_SET for a held code (R5, R6, R8) -/

/-- A partner just written is changed in place. -/
theorem State.modPar_setPar (s : State) (i : Nat) (p : Partner) (f : Partner → Partner) :
    (s.setPar i p).modPar i f = s.setPar i (f p) := by
  unfold State.modPar
  rw [State.par_setPar]
  simp only [State.setPar, Table.set_set]

/-- R14: whether the revision list holds an entry for a partner. -/
theorem hasPartnerEntry_iff (s : State) (i : Nat) :
    s.hasPartnerEntry i = true ↔ ∃ q a o, Revision.partner i q a o ∈ s.tariff.revisions := by
  simp only [State.hasPartnerEntry, List.any_eq_true]
  constructor
  · rintro ⟨r, hr, hi⟩
    cases r with
    | cell j v o => simp [Revision.isPartner] at hi
    | partner j q a o => obtain rfl : i = j := by simpa [Revision.isPartner] using hi
                         exact ⟨q, a, o, hr⟩
  · rintro ⟨q, a, o, hr⟩
    exact ⟨_, hr, by simp [Revision.isPartner]⟩

/-- R6 case 1: what a replacement in place does to an entry. -/
theorem replacePartner_eq (i : Nat) (plan : PlanId) (adjustment : Int) :
    Revision.replacePartner i plan adjustment = fun r => match r with
      | .partner j q a o => if j = i then .partner i plan adjustment o else .partner j q a o
      | r => r := by
  funext r
  cases r with
  | cell j v o => rfl
  | partner j q a o => by_cases hj : i = j <;> simp [Revision.replacePartner, hj, eq_comm]

/-- R8: the notice of a bar window that a redefinition changes while the partner is BARRED. -/
def Partner.windowNotice (p : Partner) (window : Nat) : List Notice :=
  if p.status = .barred ∧ window ≠ p.barWindow then
    [.partnerStatus p.code .barred (p.barTime.map fun b => min (b + window * 1000) 1099511627775)]
  else []

theorem toGateway_windowNotice (p : Partner) (window : Nat) : ∀ n ∈ p.windowNotice window, n.toGateway = false := by
  intro n hn
  simp only [Partner.windowNotice, List.mem_ite_nil_right, List.mem_singleton] at hn
  rw [hn.2]
  rfl

/-- R5, R8: a redefinition raises the notice of a changed bar window and nothing else. -/
theorem raiseWindow_setImmediate (p : Partner) (d : PartnerDef) (kind : PartnerKind) (s : State) :
    raiseWindow p (p.setImmediate d kind) s = { s with raised := s.raised ++ p.windowNotice d.barWindow } := by
  unfold raiseWindow Partner.windowNotice
  by_cases hw : p.status = .barred ∧ d.barWindow ≠ p.barWindow
  · rw [if_pos ⟨hw.1, hw.2.symm⟩, if_pos hw]
    simp only [State.raise, Partner.statusNotice, Partner.setImmediate, Partner.barDeadline, hw.1]
    rfl
  · rw [if_neg fun hx => hw ⟨hx.1, hx.2.symm⟩, if_neg hw, List.append_nil]

/-- R5: a kind that differs is refused while subscribers are present. -/
theorem redefinePartner_inUse {i : Nat} {p : Partner} {d : PartnerDef} {kind : PartnerKind} {plan : PlanId} {s : State}
    (hk : kind ≠ p.kind) (hp : 0 < p.present) : redefinePartner i p d kind plan s = refuse .inUse s := by
  simp [redefinePartner, hk, hp]

/-- R6: tariff fields that would be staged where nothing can be staged are refused. -/
theorem redefinePartner_busy {i : Nat} {p : Partner} {d : PartnerDef} {kind : PartnerKind} {plan : PlanId} {s : State}
    (hk : kind = p.kind ∨ p.present = 0) (hm : tariffMove i p plan d.adjustment s = .busy) :
    redefinePartner i p d kind plan s = refuse .busy s := by
  have admitted : ¬ (kind ≠ p.kind ∧ 0 < p.present) := by rintro ⟨h1, h2⟩; exact hk.elim h1 (Nat.ne_of_gt h2)
  simp only [redefinePartner, if_neg admitted, hm, if_true]

/-- R5, R6: a redefinition that is not refused writes the immediate fields, and the tariff fields as disposed of. -/
theorem redefinePartner_moves {i : Nat} {p : Partner} {d : PartnerDef} {kind : PartnerKind} {plan : PlanId} {s : State}
    {m : TariffMove} (hk : kind = p.kind ∨ p.present = 0) (hm : tariffMove i p plan d.adjustment s = m) (hb : m ≠ .busy) :
    redefinePartner i p d kind plan s =
      let t := applyMove i plan d.adjustment m (s.setPar i (p.setImmediate d kind))
      ⟨.ok, [.u8 i, fSecond m.staged, fRevisionCount t], { t with raised := t.raised ++ p.windowNotice d.barWindow }⟩ := by
  have admitted : ¬ (kind ≠ p.kind ∧ 0 < p.present) := by rintro ⟨h1, h2⟩; exact hk.elim h1 (Nat.ne_of_gt h2)
  simp only [redefinePartner, if_neg admitted, hm, if_neg hb, raiseWindow_setImmediate]
  rfl

/-- R6: the disposition of a partner's tariff fields, in the order of the rule. -/
theorem tariffMove_entry {i : Nat} {p : Partner} {plan : PlanId} {a : Int} {s : State} (he : s.hasPartnerEntry i = true) :
    tariffMove i p plan a s = if s.cutPos.isSome then .busy else .replaced := by
  simp only [tariffMove, he, if_true]; rfl

theorem tariffMove_same {i : Nat} {p : Partner} {plan : PlanId} {a : Int} {s : State} (he : s.hasPartnerEntry i = false)
    (hs : plan = p.plan ∧ a = p.adjustment) : tariffMove i p plan a s = .same := by
  simp [tariffMove, he, hs]

theorem tariffMove_unused {i : Nat} {p : Partner} {plan : PlanId} {a : Int} {s : State}
    (he : s.hasPartnerEntry i = false) (hs : ¬ (plan = p.plan ∧ a = p.adjustment)) (hn : p.sessions = 0) :
    tariffMove i p plan a s = .written := by
  simp only [tariffMove, he, if_neg hs, hn, Bool.false_eq_true, if_false, if_true]

theorem tariffMove_used {i : Nat} {p : Partner} {plan : PlanId} {a : Int} {s : State}
    (he : s.hasPartnerEntry i = false) (hs : ¬ (plan = p.plan ∧ a = p.adjustment)) (hn : 0 < p.sessions) :
    tariffMove i p plan a s =
      if s.cutPos.isSome = true ∨ 16 ≤ s.tariff.revisions.length then .busy else .appended := by
  simp only [tariffMove, he, if_neg hs, if_neg (Nat.ne_of_gt hn), Bool.false_eq_true, if_false, Bool.or_eq_true,
    decide_eq_true_eq]
  rfl

/-- R5, R6: what an accepted redefinition answers, once the disposition and what it writes are known. -/
theorem partnerSet_redefines {h : Header} {d : PartnerDef} {kind : PartnerKind} {plan : PlanId} {i : Nat} {p q : Partner}
    {s : State} {m : TariffMove} {rs : List Revision} (hr : s.ready) (hh : s.hears h .partnerSet .purser)
    (answer : partnerSetAnswer d ⟨h.client, .purser⟩ s = redefinePartner i p d kind plan s)
    (hk : kind = p.kind ∨ p.present = 0) (hm : tariffMove i p plan d.adjustment s = m) (hb : m ≠ .busy)
    (hw : applyMove i plan d.adjustment m (s.setPar i (p.setImmediate d kind)) =
      { s with tariff := { s.tariff with partners := Table.set s.tariff.partners i q, revisions := rs } }) :
    exec (.partnerSet h d) s = answered h .partnerSet .ok [.u8 i, fSecond m.staged, .u8 rs.length] s
      { s with tariff := { s.tariff with partners := Table.set s.tariff.partners i q, revisions := rs } }
      (p.windowNotice d.barWindow) := by
  refine request_tells hr hh rfl (answer.trans ?_) hr.1 hr.2 rfl (toGateway_windowNotice p d.barWindow)
  rw [redefinePartner_moves hk hm hb, hw]
  simp only [hr.1, List.nil_append]
  rfl

/-- Settles O17: the kind guard first, then the five dispositions of R6. -/
theorem partnerSetRedefines : Obligations.PartnerSetRedefines := by
  intro h d kind plan i p s hr hh hk hp hc hw ha1 ha2 he hi ht hl hs entry immediate windowNotice written same
  have ranges : partnerRangesOk d = true :=
    (partnerRangesOk_iff d).2 ⟨hw, hp ▸ plan.isLt, ha1, ha2, he, hi, ht, hl⟩
  have answer := partnerSetAnswer_held ⟨h.client, .purser⟩ hk hp hc ranges hs
  have refuses {r : Result} (ha : redefinePartner i p d kind plan s = refuse r s) :
      exec (.partnerSet h d) s = refused h .partnerSet r s := request_refuses hr hh rfl (answer.trans ha)
  have absent (hn : ¬ entry) : s.hasPartnerEntry i = false :=
    Bool.eq_false_iff.2 fun hc => hn ((hasPartnerEntry_iff s i).1 hc)
  refine ⟨fun hkind hpres => refuses (redefinePartner_inUse hkind hpres), fun hkind => ?_⟩
  have redefines {m : TariffMove} {q : Partner} {rs : List Revision} (hm : tariffMove i p plan d.adjustment s = m) :=
    partnerSet_redefines (m := m) (q := q) (rs := rs) hr hh answer hkind hm
  refine ⟨fun he hcut => ?cut, fun he hcut => ?replaced, fun hn hsame => ?same, fun hn hsame h0 => ?written,
    fun hn hsame h0 hfull => ?full, fun hn hsame h0 hcut hroom => ?appended⟩
  case cut =>
    exact refuses (redefinePartner_busy hkind ((tariffMove_entry ((hasPartnerEntry_iff s i).2 he)).trans (if_pos hcut)))
  case replaced =>
    have move := (tariffMove_entry (p := p) (plan := plan) (a := d.adjustment) ((hasPartnerEntry_iff s i).2 he)).trans
      (if_neg (by simp [hcut]))
    exact (redefines move nofun rfl).trans
      (congrArg (fun f => written immediate (s.tariff.revisions.map f) 1) (replacePartner_eq i plan d.adjustment))
  case same => exact redefines (tariffMove_same (absent hn) hsame) nofun rfl
  case written =>
    exact redefines (tariffMove_unused (absent hn) hsame h0) nofun (State.modPar_setPar ..)
  case full => exact refuses (redefinePartner_busy hkind ((tariffMove_used (absent hn) hsame h0).trans (if_pos hfull)))
  case appended =>
    exact redefines ((tariffMove_used (absent hn) hsame h0).trans (if_neg (by simp [hcut, hroom]))) nofun rfl

end Sys2Proof.Machine
end

section
/-! Chapter 1, fourth part: the opening of an epoch. -/

namespace Sys2Proof.Machine

/-! ### Applying one revision entry (R15 step 3) -/

/-- What R15 step 3 makes of an entry: the values it replaces, live in `s`, become its old values. -/
def Revision.applied (s : State) : Revision → Revision
  | .cell i new _ => .cell i new (some (s.liveCell (cellClass i) i))
  | .partner i plan adjustment old =>
    .partner i plan adjustment (match s.par i with | some p => some (p.plan, p.adjustment) | none => old)

theorem applyRevision_entry (r : Revision) (s : State) : (applyRevision r s).2 = r.applied s := by
  cases r with
  | cell i new old => rfl
  | partner i plan a old => unfold applyRevision Revision.applied; cases h : s.par i <;> simp [h]

/-- R10: the live values of a cell, those of an unset cell being given by its class. -/
theorem liveCell_eq (s : State) (i : Nat) :
    s.liveCell (cellClass i) i =
      (Table.get s.tariff.cells i).getD ⟨if i % 3 = 1 then 1024 else 1, 0, .whole, 0⟩ := by
  have unset : unsetCell (cellClass i) = ⟨if i % 3 = 1 then 1024 else 1, 0, .whole, 0⟩ := by
    have three : i % 3 = 0 ∨ i % 3 = 1 ∨ i % 3 = 2 := by omega
    rcases three with h | h | h <;> simp [unsetCell, cellClass, h]
  rw [State.liveCell, unset]

/-- R15 step 3, R10: what becomes of an entry, with the values of an unset cell written out. -/
theorem Revision.applied_eq (s : State) :
    Revision.applied s = fun r => match r with
      | .cell i new _ => .cell i new
          (some ((Table.get s.tariff.cells i).getD ⟨if i % 3 = 1 then 1024 else 1, 0, .whole, 0⟩))
      | .partner i plan adjustment old => .partner i plan adjustment
          (match s.par i with | some p => some (p.plan, p.adjustment) | none => old) := by
  funext r
  cases r with
  | cell i new old => exact congrArg (fun c => Revision.cell i new (some c)) (liveCell_eq s i)
  | partner i plan a old => rfl

/-- R13: moving session counts between plans writes the plan use counts and nothing else. -/
theorem movePlanUse_frame (p q : PlanId) (k : Nat) (s : State) :
    movePlanUse p q k s =
      { s with tariff := { s.tariff with planUse := (movePlanUse p q k s).tariff.planUse } } := by
  unfold movePlanUse; split <;> rfl

/-- R15 step 3: an entry writes partners, cells and plan use counts, and nothing else. -/
theorem applyRevision_frame (r : Revision) (s : State) :
    (applyRevision r s).1 = { s with tariff := { s.tariff with
      partners := (applyRevision r s).1.tariff.partners
      cells := (applyRevision r s).1.tariff.cells
      planUse := (applyRevision r s).1.tariff.planUse } } := by
  cases r with
  | cell i new old => rfl
  | partner i plan a old =>
    cases hp : s.par i with
    | none => simp only [applyRevision, hp]
    | some p => simp only [applyRevision, hp]; rw [movePlanUse_frame]; rfl

/-- R15 step 3: an entry for a partner gives it the entry's plan and adjustment. -/
theorem applyRevision_partner {i : Nat} {plan : PlanId} {a : Int} {old : Option (PlanId × Int)} {s : State} {p : Partner}
    (hp : s.par i = some p) :
    (applyRevision (.partner i plan a old) s).1 =
      movePlanUse p.plan plan p.sessions (s.setPar i { p with plan := plan, adjustment := a }) := by
  simp only [applyRevision, hp]

/-- R15 step 3: an entry for a partner that is not there changes nothing. -/
theorem applyRevision_partner_absent {i : Nat} {plan : PlanId} {a : Int} {old : Option (PlanId × Int)} {s : State}
    (hp : s.par i = none) : (applyRevision (.partner i plan a old) s).1 = s := by
  simp only [applyRevision, hp]

@[simp] theorem movePlanUse_par (p q : PlanId) (k : Nat) (s : State) (i : Nat) :
    (movePlanUse p q k s).par i = s.par i := by rw [movePlanUse_frame]; rfl

@[simp] theorem movePlanUse_cells (p q : PlanId) (k : Nat) (s : State) :
    (movePlanUse p q k s).tariff.cells = s.tariff.cells := by rw [movePlanUse_frame]

@[simp] theorem movePlanUse_partners (p q : PlanId) (k : Nat) (s : State) :
    (movePlanUse p q k s).tariff.partners = s.tariff.partners := by rw [movePlanUse_frame]

/-- An entry leaves every partner but its target as it is. -/
theorem applyRevision_par_other {i : Nat} (r : Revision) (s : State) (hr : r.target ≠ (true, i)) :
    (applyRevision r s).1.par i = s.par i := by
  cases r with
  | cell j new old => rfl
  | partner j plan a old =>
    have hij : i ≠ j := fun e => hr (by rw [e]; rfl)
    cases hp : s.par j with
    | none => rw [applyRevision_partner_absent hp]
    | some p => rw [applyRevision_partner hp, movePlanUse_par, State.par_setPar_other _ _ hij]

theorem applyRevision_par_same (i : Nat) (plan : PlanId) (a : Int) (old : Option (PlanId × Int)) (s : State) :
    (applyRevision (.partner i plan a old) s).1.par i =
      (s.par i).map fun p => { p with plan := plan, adjustment := a } := by
  cases hp : s.par i with
  | none => rw [applyRevision_partner_absent hp, hp]; rfl
  | some p => rw [applyRevision_partner hp, movePlanUse_par, State.par_setPar]; rfl

/-- An entry leaves every cell but its target as it is. -/
theorem applyRevision_cell_other {i : Nat} (r : Revision) (s : State) (hr : r.target ≠ (false, i)) :
    Table.get (applyRevision r s).1.tariff.cells i = Table.get s.tariff.cells i := by
  cases r with
  | cell j new old =>
    have hij : i ≠ j := fun e => hr (by rw [e]; rfl)
    exact Table.get_set_other _ _ hij
  | partner j plan a old =>
    cases hp : s.par j with
    | none => rw [applyRevision_partner_absent hp]
    | some p => rw [applyRevision_partner hp, movePlanUse_cells]; rfl

/-- What an entry becomes depends only on the live values of its target. -/
theorem applied_after_other {r q : Revision} (s : State) (hqr : q.target ≠ r.target) :
    r.applied (applyRevision q s).1 = r.applied s := by
  cases r with
  | cell i new old => simp only [Revision.applied, State.liveCell, applyRevision_cell_other q s hqr]
  | partner i plan a old => simp only [Revision.applied, applyRevision_par_other q s hqr]

/-! ### Applying the revision list -/

theorem applyRevisions_cons (r : Revision) (rs : List Revision) (s : State) :
    applyRevisions (r :: rs) s =
      ((applyRevisions rs (applyRevision r s).1).1, (applyRevision r s).2 :: (applyRevisions rs (applyRevision r s).1).2) :=
  rfl

/-- R15 step 3: the list writes partners, cells and plan use counts, and nothing else. -/
theorem applyRevisions_frame (rs : List Revision) (s : State) :
    (applyRevisions rs s).1 = { s with tariff := { s.tariff with
      partners := (applyRevisions rs s).1.tariff.partners
      cells := (applyRevisions rs s).1.tariff.cells
      planUse := (applyRevisions rs s).1.tariff.planUse } } := by
  induction rs generalizing s with
  | nil => rfl
  | cons r rs ih => rw [applyRevisions_cons, ih, applyRevision_frame]

/-- R14, R15: entries of distinct targets get as old values the values that were live before the opening. -/
theorem applyRevisions_entries (rs : List Revision) (s : State) (hd : (rs.map Revision.target).Nodup) :
    (applyRevisions rs s).2 = rs.map (Revision.applied s) := by
  induction rs generalizing s with
  | nil => rfl
  | cons r rs ih =>
    rw [List.map_cons, List.nodup_cons] at hd
    obtain ⟨hr, hd⟩ := hd
    have rest : rs.map (Revision.applied (applyRevision r s).1) = rs.map (Revision.applied s) :=
      List.map_congr_left fun q hq => applied_after_other s fun e => hr (e ▸ List.mem_map_of_mem hq)
    rw [applyRevisions_cons, ih _ hd, rest, applyRevision_entry, List.map_cons]

section Observation

/-! What a target reads after the list: `read` is what is read of the target `k`, which entries of other targets leave
as it is. -/

variable {β : Type} {read : State → β} {k : Bool × Nat}
  (other : ∀ r s, r.target ≠ k → read (applyRevision r s).1 = read s)

include other

theorem applyRevisions_untouched (rs : List Revision) (s : State) (hk : ∀ r ∈ rs, r.target ≠ k) :
    read (applyRevisions rs s).1 = read s := by
  induction rs generalizing s with
  | nil => rfl
  | cons r rs ih =>
    rw [applyRevisions_cons, ih _ fun q hq => hk q (List.mem_cons_of_mem _ hq), other r s (hk r List.mem_cons_self)]

theorem applyRevisions_touched {r : Revision} {f : β → β} (hr : r.target = k)
    (same : ∀ s, read (applyRevision r s).1 = f (read s)) (rs : List Revision) (s : State)
    (hd : (rs.map Revision.target).Nodup) (hm : r ∈ rs) : read (applyRevisions rs s).1 = f (read s) := by
  induction rs generalizing s with
  | nil => cases hm
  | cons q rs ih =>
    rw [List.map_cons, List.nodup_cons] at hd
    obtain ⟨hq, hd⟩ := hd
    rw [applyRevisions_cons]
    rcases List.mem_cons.1 hm with rfl | hm
    · rw [applyRevisions_untouched other rs _ fun p hp e => hq (by rw [hr, ← e]; exact List.mem_map_of_mem hp), same]
    · have hqk : q.target ≠ k := fun e => hq (by rw [e, ← hr]; exact List.mem_map_of_mem hm)
      rw [ih _ hd hm, other q s hqk]

end Observation

/-! ### Plan use counts (R13) -/

/-- A weight summed over a table changes, when a record is replaced, by the weights of the two records. -/
theorem Table.sum_set {α : Type} (w : α → Nat) (t : Table α) {k : Nat} {a : α} (b : α) (ht : t.wf = true)
    (ha : Table.get t k = some a) :
    ((Table.set t k b).map fun p => w p.2).sum + w a = (t.map fun p => w p.2).sum + w b := by
  unfold Table.wf at ht
  generalize (none : Option Nat) = bound at ht
  induction t generalizing bound with
  | nil => simp at ha
  | cons p rest ih =>
    obtain ⟨j, c⟩ := p
    simp only [Table.risingFrom, Bool.and_eq_true] at ht
    rw [Table.get_cons] at ha
    unfold Table.set
    by_cases hj : j = k
    · subst hj
      obtain rfl : c = a := by simpa using ha
      simp only [lt_irrefl, if_false, if_true, List.map_cons, List.sum_cons]
      omega
    · rw [if_neg hj] at ha
      have hjk : j < k := Table.above_of_rising ht.2 _ (Table.mem_of_get ha)
      rw [if_neg (Nat.not_lt.2 hjk.le), if_neg (Ne.symm hj)]
      have := ih ha _ ht.2
      simp only [List.map_cons, List.sum_cons]
      omega

/-- R13: the session count a partner contributes to the use count of a plan. -/
def Partner.useOf (q : PlanId) (p : Partner) : Nat := if p.plan = q then p.sessions else 0

theorem planUse_sum_eq (t : Table Partner) (q : PlanId) :
    ((t.filter fun p => p.2.plan == q).map fun p => p.2.sessions).sum = (t.map fun p => p.2.useOf q).sum := by
  induction t with
  | nil => rfl
  | cons p rest ih => by_cases hp : p.2.plan = q <;> simp [Partner.useOf, hp, ih]

/-- R13: the use count of every plan, as what the partners contribute to it. -/
theorem planUse_iff (s : State) :
    PlanUse s ↔ Table.wf s.tariff.partners = true
      ∧ ∀ q : PlanId, s.tariff.planUse[q] = (s.tariff.partners.map fun p => p.2.useOf q).sum := by
  simp only [PlanUse, planUse_sum_eq]

/-- R13: what a plan's use count reads after a change of one. -/
theorem modPlanUse_planUse (s : State) (p r : PlanId) (f : Nat → Nat) :
    (s.modPlanUse p f).tariff.planUse[r] = if r = p then f s.tariff.planUse[r] else s.tariff.planUse[r] := by
  by_cases h : r = p
  · subst h; simp [State.modPlanUse]
  · have : p.val ≠ r.val := fun e => h (Fin.ext e.symm)
    simp [State.modPlanUse, h, this]

/-- R13: the use counts after a session count moves between two plans. -/
theorem movePlanUse_planUse (p q r : PlanId) (k : Nat) (s : State) :
    (movePlanUse p q k s).tariff.planUse[r] =
      if p = q then s.tariff.planUse[r]
      else if r = q then s.tariff.planUse[r] + k
      else if r = p then s.tariff.planUse[r] - k else s.tariff.planUse[r] := by
  unfold movePlanUse
  by_cases hpq : p = q
  · rw [if_pos hpq, if_pos hpq]
  · rw [if_neg hpq, if_neg hpq, modPlanUse_planUse, modPlanUse_planUse]
    by_cases hq : r = q
    · rw [if_pos hq, if_neg fun hp => hpq (hp.symm.trans hq), if_pos hq]
    · rw [if_neg hq, if_neg hq]

/-- R13: a change of a partner's plan carries its session count to the new plan, so that the use counts go on
agreeing with the partners. -/
theorem applyRevision_planUse (r : Revision) (s : State) (hs : PlanUse s) : PlanUse (applyRevision r s).1 := by
  cases r with
  | cell i new old => exact hs
  | partner i plan a old =>
    cases hp : s.par i with
    | none => rwa [applyRevision_partner_absent hp]
    | some p =>
      obtain ⟨wf, use⟩ := (planUse_iff s).1 hs
      rw [applyRevision_partner hp, planUse_iff, movePlanUse_partners]
      refine ⟨Table.wf_set _ _ _ wf, fun q => ?_⟩
      have before := use q
      -- The use count of `q` and the sum over the partners lose what the partner had in `q` and gain what it now has.
      have sum := Table.sum_set (Partner.useOf q) s.tariff.partners { p with plan := plan, adjustment := a } wf hp
      have left : p.useOf q = if p.plan = q then p.sessions else 0 := rfl
      have joined : Partner.useOf q { p with plan := plan, adjustment := a } = if plan = q then p.sessions else 0 := rfl
      have moved := movePlanUse_planUse p.plan plan q p.sessions (s.setPar i { p with plan := plan, adjustment := a })
      simp only [State.setPar] at moved ⊢
      grind

theorem applyRevisions_planUse (rs : List Revision) (s : State) (hs : PlanUse s) : PlanUse (applyRevisions rs s).1 := by
  induction rs generalizing s with
  | nil => exact hs
  | cons r rs ih => exact ih _ (applyRevision_planUse r s hs)

/-! ### Opening an epoch (R15) -/

/-- R15: what the opening of an epoch leaves: the epoch advanced with the old one and its zone class kept, every entry
applied, and the cut pass at handle 0. -/
theorem openEpoch_eq (z : ZoneClass) (s : State) :
    let t := (applyRevisions s.tariff.revisions (advanceEpoch z s)).1
    openEpoch z s = { s with
      tariff := { s.tariff with
        partners := t.tariff.partners
        cells := t.tariff.cells
        planUse := t.tariff.planUse
        revisions := (applyRevisions s.tariff.revisions (advanceEpoch z s)).2
        epoch := s.tariff.epoch + 1
        previous := some ⟨s.tariff.epoch, z⟩ }
      cutPos := some 0 } := by
  have frame := applyRevisions_frame s.tariff.revisions (advanceEpoch z s)
  unfold openEpoch
  change { (State.setRevisions (applyRevisions s.tariff.revisions (advanceEpoch z s)).1 _) with cutPos := some 0 } = _
  rw [frame]
  rfl

/-- R15 step 3: the entries after an opening carry as old values the values that were live before it. -/
theorem openEpoch_revisions (z : ZoneClass) (s : State) (hd : (s.tariff.revisions.map Revision.target).Nodup) :
    (openEpoch z s).tariff.revisions = s.tariff.revisions.map (Revision.applied s) := by
  rw [openEpoch_eq]
  exact applyRevisions_entries s.tariff.revisions (advanceEpoch z s) hd

/-- R15 step 3: the cell of an entry takes the entry's new values. -/
theorem openEpoch_cell_staged (z : ZoneClass) (s : State) (hd : (s.tariff.revisions.map Revision.target).Nodup)
    {i : Nat} {new : Cell} {old : Option Cell} (hm : .cell i new old ∈ s.tariff.revisions) :
    Table.get (openEpoch z s).tariff.cells i = some new := by
  rw [openEpoch_eq]
  exact applyRevisions_touched (read := fun t => Table.get t.tariff.cells i) (r := .cell i new old)
    (f := fun _ => some new) applyRevision_cell_other rfl (fun t => Table.get_set_same t.tariff.cells i new) _ _ hd hm

/-- A cell without an entry stays as it is. -/
theorem openEpoch_cell_unstaged (z : ZoneClass) (s : State) {i : Nat}
    (hi : ∀ new old, Revision.cell i new old ∉ s.tariff.revisions) :
    Table.get (openEpoch z s).tariff.cells i = Table.get s.tariff.cells i := by
  rw [openEpoch_eq]
  refine applyRevisions_untouched (read := fun t => Table.get t.tariff.cells i) applyRevision_cell_other _
    (advanceEpoch z s) fun r hr e => ?_
  cases r with
  | cell j new old => cases e; exact hi new old hr
  | partner j plan a old => cases e

/-- R15 step 3: the partner of an entry takes the entry's plan and adjustment. -/
theorem openEpoch_par_staged (z : ZoneClass) (s : State) (hd : (s.tariff.revisions.map Revision.target).Nodup)
    {i : Nat} {plan : PlanId} {a : Int} {old : Option (PlanId × Int)}
    (hm : .partner i plan a old ∈ s.tariff.revisions) :
    (openEpoch z s).par i = (s.par i).map fun p => { p with plan := plan, adjustment := a } := by
  rw [openEpoch_eq]
  exact applyRevisions_touched (read := fun t => t.par i) applyRevision_par_other rfl
    (applyRevision_par_same i plan a old) _ (advanceEpoch z s) hd hm

/-- A partner without an entry stays as it is. -/
theorem openEpoch_par_unstaged (z : ZoneClass) (s : State) {i : Nat}
    (hi : ∀ plan a old, Revision.partner i plan a old ∉ s.tariff.revisions) : (openEpoch z s).par i = s.par i := by
  rw [openEpoch_eq]
  refine applyRevisions_untouched (read := fun t => t.par i) applyRevision_par_other _ (advanceEpoch z s) fun r hr e => ?_
  cases r with
  | cell j new old => cases e
  | partner j plan a old => cases e; exact hi plan a old hr

/-- R13: the plan use counts agree with the partners after an opening as they did before. -/
theorem openEpoch_planUse (z : ZoneClass) (s : State) (hs : PlanUse s) : PlanUse (openEpoch z s) := by
  rw [openEpoch_eq]
  exact applyRevisions_planUse s.tariff.revisions (advanceEpoch z s) hs

/-- R15: an EPOCH_CUT while no cut pass runs opens an epoch and answers its number and the entries applied. -/
theorem epochCutAnswer_opens (who : Sender) {s : State} (hc : s.cutPos = none) :
    epochCutAnswer who s = ⟨.ok, [.u16 (s.tariff.epoch + 1).toNat, .u8 s.tariff.revisions.length],
      openEpoch s.effectiveClass s⟩ := by
  have idle : s.cutRunning = false := by simp [State.cutRunning, hc]
  simp only [epochCutAnswer, idle, openEpoch_eq]
  rfl

/-- Settles O21: an opening advances the epoch and applies each entry to its own target. -/
theorem epochCutOpensEpoch : Obligations.EpochCutOpensEpoch := by
  intro h s hr hh
  refine ⟨fun hcut => request_refuses hr hh rfl (by simp [epochCutAnswer, State.cutRunning, hcut]), fun hcut hd => ?_⟩
  have opened := openEpoch_eq s.effectiveClass s
  have entries := (openEpoch_revisions s.effectiveClass s hd).trans
    (congrArg (List.map · s.tariff.revisions) (Revision.applied_eq s))
  exact ⟨openEpoch s.effectiveClass s,
    request_answers hr hh rfl (epochCutAnswer_opens _ hcut) (by rw [opened]; exact hr.1) (by rw [opened]; exact hr.2)
      (by rw [opened]),
    by rw [opened], by rw [opened], by rw [opened], by rw [opened]; rfl, entries,
    fun i new old => openEpoch_cell_staged _ s hd, fun i => openEpoch_cell_unstaged _ s,
    fun i plan a old => openEpoch_par_staged _ s hd, fun i => openEpoch_par_unstaged _ s, openEpoch_planUse _ s⟩

end Sys2Proof.Machine
end

section
/-! Chapter 2, first part: a weight summed over a table, and the books read record by record. -/

namespace Sys2Proof.Machine

/-! ### A weight summed over a table -/

/-- A weight summed over the records of a table. -/
def Table.total {α : Type} (w : α → Nat) (t : Table α) : Nat := (t.map fun p => w p.2).sum

@[simp] theorem Table.total_nil {α : Type} (w : α → Nat) : Table.total w [] = 0 := rfl

@[simp] theorem Table.total_cons {α : Type} (w : α → Nat) (p : Nat × α) (t : Table α) :
    Table.total w (p :: t) = w p.2 + Table.total w t := by simp [Table.total]

/-- A record replaced takes its weight out and puts in that of the new one. -/
theorem Table.total_set {α : Type} (w : α → Nat) {t : Table α} {k : Nat} {a : α} (b : α) (ht : t.wf = true)
    (ha : Table.get t k = some a) : Table.total w (Table.set t k b) + w a = Table.total w t + w b :=
  Table.sum_set w t b ht ha

/-- A record added adds its weight. -/
theorem Table.total_insert {α : Type} (w : α → Nat) {t : Table α} {k : Nat} (b : α) (hk : Table.get t k = none) :
    Table.total w (Table.set t k b) = Table.total w t + w b := by
  induction t with
  | nil => simp [Table.set]
  | cons p rest ih =>
    obtain ⟨j, c⟩ := p
    rw [Table.get_cons] at hk
    have hj : j ≠ k := fun e => by simp [e] at hk
    rw [if_neg hj] at hk
    unfold Table.set
    split
    · simp only [Table.total_cons]; omega
    · rw [if_neg (Ne.symm hj)]
      simp only [Table.total_cons, ih hk]; omega

/-- A number that is not listed is not taken out. -/
theorem Table.erase_absent {α : Type} {t : Table α} {k : Nat} (hk : ∀ p ∈ t, p.1 ≠ k) : Table.erase t k = t :=
  List.filter_eq_self.2 fun p hp => by simpa using hk p hp

/-- A record taken out takes its weight out. -/
theorem Table.total_erase {α : Type} (w : α → Nat) {t : Table α} {k : Nat} {a : α} (ht : t.wf = true)
    (ha : Table.get t k = some a) : Table.total w (Table.erase t k) + w a = Table.total w t := by
  unfold Table.wf at ht
  generalize (none : Option Nat) = bound at ht
  induction t generalizing bound with
  | nil => simp at ha
  | cons p rest ih =>
    obtain ⟨j, c⟩ := p
    simp only [Table.risingFrom, Bool.and_eq_true] at ht
    rw [Table.get_cons] at ha
    by_cases hj : j = k
    · subst hj
      obtain rfl : c = a := by simpa using ha
      have rest_kept : Table.erase ((j, c) :: rest) j = rest := by
        rw [← Table.erase_absent fun p hp => Nat.ne_of_gt (Table.above_of_rising ht.2 p hp)]
        simp [Table.erase]
      simp only [rest_kept, Table.total_cons]; omega
    · rw [if_neg hj] at ha
      have head_kept : Table.erase ((j, c) :: rest) k = (j, c) :: Table.erase rest k := by simp [Table.erase, hj]
      rw [head_kept, Table.total_cons, Table.total_cons]
      have := ih ha _ ht.2
      omega

/-- Erasing keeps a number that is not listed from being listed. -/
theorem Table.get_erase {α : Type} (t : Table α) (k m : Nat) :
    Table.get (Table.erase t k) m = if m = k then none else Table.get t m := by
  by_cases h : m = k
  · subst h; simp
  · simp [h, Table.get_erase_other t h]

/-- In the canonical form the records listed are those read. -/
theorem Table.forall_mem_iff {α : Type} {t : Table α} {P : Nat → α → Prop} (ht : t.wf = true) :
    (∀ p ∈ t, P p.1 p.2) ↔ ∀ k a, Table.get t k = some a → P k a :=
  ⟨fun h _ _ ha => h _ (Table.mem_of_get ha), fun h p hp => h p.1 p.2 (Table.get_of_mem ht hp)⟩

/-! ### The books, record by record (R24, R75, R84, R95) -/

/-- What a context adds to the open total of the partner at an index. -/
def Context.folioFor (i : Nat) (c : Context) : Nat := if c.partner = i then c.folio else 0

/-- What a context adds to the present count of the partner at an index. -/
def Context.countFor (i : Nat) (c : Context) : Nat := if c.partner = i then 1 else 0

theorem foliosOf_sum (s : State) (i : Nat) :
    (s.foliosOf i).sum = Table.total (Context.folioFor i) s.subs.contexts := by
  unfold State.foliosOf
  induction s.subs.contexts with
  | nil => rfl
  | cons p rest ih => by_cases hp : p.2.partner = i <;> simp [Context.folioFor, hp, ih]

theorem foliosOf_length (s : State) (i : Nat) :
    (s.foliosOf i).length = Table.total (Context.countFor i) s.subs.contexts := by
  unfold State.foliosOf
  induction s.subs.contexts with
  | nil => rfl
  | cons p rest ih => by_cases hp : p.2.partner = i <;> simp [Context.countFor, hp, ← ih, Nat.add_comm]

/-- R75, R95, R3: a partner's accounts, as what the contexts add to them. -/
theorem accountsOf_iff (s : State) (i : Nat) (p : Partner) :
    s.accountsOf i p ↔ p.openTotal = Table.total (Context.folioFor i) s.subs.contexts
      ∧ p.present = Table.total (Context.countFor i) s.subs.contexts ∧ p.closedTotal = p.closedSub.sum
      ∧ p.closedTotal ≤ closedMax := by
  rw [State.accountsOf, foliosOf_sum, foliosOf_length]

theorem books_iff (s : State) :
    Books s ↔ Table.wf s.subs.contexts = true ∧ Table.wf s.tariff.partners = true
      ∧ (∀ h c, s.ctx h = some c → c.balanced ∧ (s.par c.partner).isSome = true)
      ∧ ∀ i p, s.par i = some p → s.accountsOf i p := by
  unfold Books
  refine and_congr_right fun wc => and_congr_right fun wp => and_congr ?_ ?_
  · exact Table.forall_mem_iff (P := fun _ c => c.balanced ∧ (s.par c.partner).isSome = true) wc
  · exact Table.forall_mem_iff (P := s.accountsOf) wp

/-- Whether two partner records hold the same accounts. -/
def Partner.sameAccounts (p q : Partner) : Prop :=
  q.openTotal = p.openTotal ∧ q.present = p.present ∧ q.closedTotal = p.closedTotal ∧ q.closedSub = p.closedSub

theorem accountsOf_congr {s t : State} {i : Nat} {p q : Partner} (hc : t.subs.contexts = s.subs.contexts)
    (hq : p.sameAccounts q) : t.accountsOf i q ↔ s.accountsOf i p := by
  obtain ⟨h1, h2, h3, h4⟩ := hq
  simp only [accountsOf_iff, hc, h1, h2, h3, h4]

/-- The books are those of the context table and the partner table. -/
theorem books_congr {s t : State} (hc : t.subs.contexts = s.subs.contexts) (hp : t.tariff.partners = s.tariff.partners)
    (hs : Books s) : Books t := by
  simpa only [Books, State.par, State.accountsOf, State.foliosOf, hc, hp] using hs

/-- A context rewritten with its partner and folio unchanged keeps the books. -/
theorem books_setCtx {s : State} {h : Nat} {c d : Context} (hc : s.ctx h = some c) (hp : d.partner = c.partner)
    (hf : d.folio = c.folio) (hd : c.balanced → d.balanced) (hs : Books s) : Books (s.setCtx h d) := by
  obtain ⟨wc, wp, contexts, partners⟩ := (books_iff s).1 hs
  refine (books_iff _).2 ⟨Table.wf_set _ _ _ wc, wp, fun k e he => ?_, fun i p hi => ?_⟩
  · by_cases hk : k = h
    · subst hk
      obtain rfl : d = e := by simpa using he
      rw [State.par_setCtx, hp]
      exact ⟨hd (contexts k c hc).1, (contexts k c hc).2⟩
    · rw [State.ctx_setCtx_other _ _ hk] at he
      exact contexts k e he
  · have before := (accountsOf_iff s i p).1 (partners i p hi)
    have folio := Table.total_set (Context.folioFor i) d wc hc
    have count := Table.total_set (Context.countFor i) d wc hc
    simp only [Context.folioFor, Context.countFor, hp, hf] at folio count
    refine (accountsOf_iff _ i p).2 ?_
    simp only [State.setCtx]
    exact ⟨by have := before.1; omega, by have := before.2.1; omega, before.2.2⟩

/-- A partner that a code names is the one read at its index. -/
theorem par_of_partnerByCode {s : State} {code i : Nat} {p : Partner} (hw : Table.wf s.tariff.partners = true)
    (hp : s.partnerByCode code = some (i, p)) : s.par i = some p :=
  Table.get_of_mem hw (List.mem_of_find?_eq_some hp)

/-- R75: a charge adds the same amount to the folio, to the consumed credit, to a subtotal and to the partner's open
total. -/
theorem Context.balanced_apply {c : Context} (z : ZoneClass) {k : Nat} (hc : c.balanced)
    (hk : c.folio + k ≤ moneyMax) : (c.apply z k).balanced := by
  obtain ⟨sub, used, -, granted⟩ := hc
  refine ⟨?_, ?_, hk, granted⟩
  · cases z <;> simp only [Context.apply, Subtotals.add, Subtotals.sum] at sub ⊢ <;> omega
  · simp only [Context.apply]; omega

/-- The books after the account of the partner at an index has been rewritten together with contexts of that partner. -/
theorem books_rewrite {s t : State} {j : Nat} {q : Partner} (contexts : Table Context) (hs : Books s)
    (htc : t.subs.contexts = contexts) (htp : t.tariff.partners = Table.set s.tariff.partners j q)
    (hw : contexts.wf = true)
    (hc : ∀ h c, Table.get contexts h = some c → s.ctx h = some c ∨ c.balanced ∧ c.partner = j)
    (ho : ∀ i, i ≠ j → Table.total (Context.folioFor i) contexts = Table.total (Context.folioFor i) s.subs.contexts
      ∧ Table.total (Context.countFor i) contexts = Table.total (Context.countFor i) s.subs.contexts)
    (hq : q.openTotal = Table.total (Context.folioFor j) contexts ∧ q.present = Table.total (Context.countFor j) contexts
      ∧ q.closedTotal = q.closedSub.sum ∧ q.closedTotal ≤ closedMax) : Books t := by
  obtain ⟨-, wp, before, accounts⟩ := (books_iff s).1 hs
  subst htc
  refine (books_iff _).2 ⟨hw, htp ▸ Table.wf_set _ _ _ wp, fun h c hget => ?_, fun i p hp => (accountsOf_iff _ i p).2 ?_⟩
  · simp only [State.par, htp, Table.get_set]
    rcases hc h c hget with same | ⟨balanced, rfl⟩
    · obtain ⟨balanced, there⟩ := before h c same
      refine ⟨balanced, ?_⟩
      split
      · rfl
      · exact there
    · exact ⟨balanced, by simp⟩
  · simp only [State.par, htp, Table.get_set] at hp
    split at hp
    · next hi => subst hi; cases hp; exact hq
    · next hi =>
      rw [(ho i hi).1, (ho i hi).2]
      exact (accountsOf_iff s i p).1 (accounts i p hp)

/-- R100: a partner rewritten with its closed account split over the zone classes keeps the books. -/
theorem books_setClosed {s : State} {i : Nat} {p q : Partner} (hp : s.par i = some p) (ho : q.openTotal = p.openTotal)
    (hn : q.present = p.present) (hq : q.closedTotal = q.closedSub.sum ∧ q.closedTotal ≤ closedMax) (hs : Books s) :
    Books (s.setPar i q) := by
  obtain ⟨wc, -, -, partners⟩ := (books_iff s).1 hs
  obtain ⟨opened, present, -⟩ := (accountsOf_iff s i p).1 (partners i p hp)
  exact books_rewrite s.subs.contexts hs rfl rfl wc (fun _ _ => .inl) (fun _ _ => ⟨rfl, rfl⟩)
    ⟨ho.trans opened, hn.trans present, hq⟩

/-- A partner rewritten with its accounts unchanged keeps the books. -/
theorem books_setPar {s : State} {i : Nat} {p q : Partner} (hp : s.par i = some p) (hq : p.sameAccounts q)
    (hs : Books s) : Books (s.setPar i q) := by
  obtain ⟨opened, present, closed, split⟩ := hq
  have account := ((accountsOf_iff s i p).1 (((books_iff s).1 hs).2.2.2 i p hp)).2.2
  exact books_setClosed hp opened present (by rw [closed, split]; exact account) hs

/-- R75: an amount that the folio takes keeps the books. -/
theorem books_apply {s : State} {h : Nat} {c : Context} {p : Partner} (z : ZoneClass) {k : Nat} (hc : s.ctx h = some c)
    (hp : s.par c.partner = some p) (hk : c.folio + k ≤ moneyMax) (hs : Books s) :
    Books ((s.setCtx h (c.apply z k)).setPar c.partner { p with openTotal := p.openTotal + k }) := by
  obtain ⟨wc, -, contexts, partners⟩ := (books_iff s).1 hs
  obtain ⟨opened, present, closed⟩ := (accountsOf_iff s _ p).1 (partners _ p hp)
  have folio (i : Nat) := Table.total_set (Context.folioFor i) (c.apply z k) wc hc
  have count (i : Nat) := Table.total_set (Context.countFor i) (c.apply z k) wc hc
  have same : (c.apply z k).partner = c.partner ∧ (c.apply z k).folio = c.folio + k := ⟨rfl, rfl⟩
  simp only [Context.folioFor, Context.countFor, same] at folio count
  refine books_rewrite (Table.set s.subs.contexts h (c.apply z k)) hs rfl rfl (Table.wf_set _ h _ wc) (fun m d hd => ?_) (fun i hi => ?_) ⟨?_, ?_, closed⟩
  · rw [Table.get_set] at hd
    split at hd
    · cases hd; exact .inr ⟨Context.balanced_apply z (contexts h c hc).1 hk, rfl⟩
    · exact .inl hd
  · have folio := folio i
    have count := count i
    simp only [if_neg (Ne.symm hi)] at folio count
    exact ⟨by omega, by omega⟩
  · have := folio c.partner; simp only [if_true] at this ⊢; omega
  · have := count c.partner; simp only [if_true] at this ⊢; omega

/-- R29: a context created without money, and counted, keeps the books. -/
theorem books_create {s : State} {h i : Nat} {c : Context} {p : Partner} (hh : s.ctx h = none) (hp : s.par i = some p)
    (hi : c.partner = i) (hf : c.folio = 0) (hc : c.balanced) (hs : Books s) :
    Books ((s.setCtx h c).setPar i { p with present := p.present + 1 }) := by
  obtain ⟨wc, -, -, partners⟩ := (books_iff s).1 hs
  obtain ⟨opened, present, closed⟩ := (accountsOf_iff s _ p).1 (partners _ p hp)
  have folio (i : Nat) := Table.total_insert (Context.folioFor i) c hh
  have count (i : Nat) := Table.total_insert (Context.countFor i) c hh
  simp only [Context.folioFor, Context.countFor, hi, hf, ite_self, Nat.add_zero] at folio count
  refine books_rewrite (Table.set s.subs.contexts h c) hs rfl rfl (Table.wf_set _ h _ wc) (fun m d hd => ?_) (fun k hk => ?_) ⟨?_, ?_, closed⟩
  · rw [Table.get_set] at hd
    split at hd
    · cases hd; exact .inr ⟨hc, hi⟩
    · exact .inl hd
  · exact ⟨folio k, by simpa only [if_neg (Ne.symm hk), Nat.add_zero] using count k⟩
  · exact opened.trans (folio i).symm
  · have := count i; simp only [if_true] at this ⊢; omega

/-- R95: what a fold adds to the closed account is split over the zone classes and fits the headroom. -/
theorem foldAmounts_sum_le (room : Nat) (b : Subtotals) : (foldAmounts room b).sum ≤ room := by
  simp only [foldAmounts, Subtotals.sum]; omega

/-- R36, R95: a folio folded into the closed account, with its slot freed and uncounted, keeps the books. -/
theorem books_fold {s : State} {h : Nat} {c : Context} {p : Partner} (hc : s.ctx h = some c)
    (hp : s.par c.partner = some p) (hs : Books s) :
    Books ((s.setPar c.partner { p.fold c with present := p.present - 1 }).freeSlot h) := by
  obtain ⟨wc, -, contexts, partners⟩ := (books_iff s).1 hs
  obtain ⟨opened, present, closed, most⟩ := (accountsOf_iff s _ p).1 (partners _ p hp)
  have folio (i : Nat) := Table.total_erase (Context.folioFor i) wc hc
  have count (i : Nat) := Table.total_erase (Context.countFor i) wc hc
  simp only [Context.folioFor, Context.countFor] at folio count
  refine books_rewrite (Table.erase s.subs.contexts h) hs rfl rfl (Table.wf_erase _ h wc) (fun m d hd => ?_) (fun i hi => ?_) ⟨?_, ?_, ?_, ?_⟩
  · rw [Table.get_erase] at hd
    split at hd
    · cases hd
    · exact .inl hd
  · have folio := folio i
    have count := count i
    simp only [if_neg (Ne.symm hi)] at folio count
    exact ⟨by omega, by omega⟩
  · have := folio c.partner; simp only [if_true, Partner.fold] at this ⊢; omega
  · have := count c.partner; simp only [if_true] at this ⊢; omega
  · simp only [Partner.fold, Subtotals.sum] at closed ⊢; omega
  · have := foldAmounts_sum_le (closedMax - p.closedTotal) c.sub
    simp only [Partner.fold]; omega

/-- R4: a partner created in a free slot, with empty accounts, keeps the books. -/
theorem books_newPartner {s : State} {i : Nat} {q : Partner} (hi : s.par i = none)
    (hq : q.openTotal = 0 ∧ q.present = 0 ∧ q.closedTotal = 0 ∧ q.closedSub = Subtotals.zero) (hs : Books s) :
    Books (s.setPar i q) := by
  obtain ⟨wc, wp, contexts, -⟩ := (books_iff s).1 hs
  obtain ⟨opened, present, closed, split⟩ := hq
  -- No context names a partner that is not there.
  have other : ∀ h c, s.ctx h = some c → c.partner ≠ i := fun h c hc e => by
    have := (contexts h c hc).2
    rw [e, hi] at this
    cases this
  have none_of_it : ∀ w : Context → Nat, (∀ c, c.partner ≠ i → w c = 0) → Table.total w s.subs.contexts = 0 := by
    intro w hw
    refine List.sum_eq_zero fun n hn => ?_
    obtain ⟨e, he, rfl⟩ := List.mem_map.1 hn
    exact hw e.2 (other e.1 e.2 (Table.get_of_mem wc he))
  refine books_rewrite s.subs.contexts hs rfl rfl wc (fun _ _ => .inl) (fun _ _ => ⟨rfl, rfl⟩) ⟨?_, ?_, ?_, ?_⟩
  · rw [opened, none_of_it]; exact fun c hc => if_neg hc
  · rw [present, none_of_it]; exact fun c hc => if_neg hc
  · rw [closed, split]; rfl
  · rw [closed]; exact Nat.zero_le _

/-- R9: a partner without subscribers that leaves the table leaves the books in agreement. -/
theorem books_removePartner {s : State} {i code : Nat} {p : Partner} (hp : s.par i = some p) (h0 : p.present = 0)
    (hs : Books s) : Books (removePartner i code s) := by
  obtain ⟨wc, wp, contexts, partners⟩ := (books_iff s).1 hs
  have present := ((accountsOf_iff s i p).1 (partners i p hp)).2.1
  have other : ∀ h c, s.ctx h = some c → c.partner ≠ i := fun h c hc e => by
    have counted := Table.total_erase (Context.countFor i) wc hc
    simp only [Context.countFor, e, if_true] at counted
    omega
  refine (books_iff _).2 ⟨wc, Table.wf_erase _ _ wp, fun h c hc => ⟨(contexts h c hc).1, ?_⟩, fun j q hq => ?_⟩
  · simp only [State.par, removePartner, Table.get_erase_other _ (other h c hc)]
    exact (contexts h c hc).2
  · simp only [State.par, removePartner, Table.get_erase] at hq
    split at hq
    · cases hq
    · exact (accountsOf_congr (s := s) rfl ⟨rfl, rfl, rfl, rfl⟩).2 (partners j q hq)

theorem Table.get_map {α : Type} (t : Table α) (f : α → α) (k : Nat) :
    Table.get (t.map fun p => (p.1, f p.2)) k = (Table.get t k).map f := by
  induction t with
  | nil => rfl
  | cons p rest ih => obtain ⟨j, a⟩ := p; by_cases hj : j = k <;> simp [hj, ih]

theorem Table.wf_map {α : Type} (t : Table α) (f : α → α) (ht : t.wf = true) :
    Table.wf (t.map fun p => (p.1, f p.2)) = true := by
  unfold Table.wf at ht ⊢
  generalize (none : Option Nat) = bound at ht
  induction t generalizing bound with
  | nil => rfl
  | cons p rest ih =>
    simp only [Table.risingFrom, List.map_cons, Bool.and_eq_true] at ht ⊢
    exact ⟨ht.1, ih _ ht.2⟩

/-- Every partner rewritten with its accounts unchanged keeps the books. -/
theorem books_mapPartners {s t : State} (f : Partner → Partner) (hf : ∀ p : Partner, p.sameAccounts (f p))
    (hc : t.subs.contexts = s.subs.contexts)
    (hp : t.tariff.partners = s.tariff.partners.map fun p => (p.1, f p.2)) (hs : Books s) : Books t := by
  obtain ⟨wc, wp, contexts, partners⟩ := (books_iff s).1 hs
  refine (books_iff t).2 ⟨hc ▸ wc, hp ▸ Table.wf_map _ f wp, fun h c hget => ?_, fun i q hq => ?_⟩
  · simp only [State.ctx, State.par, hc, hp, Table.get_map, Option.isSome_map] at hget ⊢
    exact contexts h c hget
  · simp only [State.par, hp, Table.get_map, Option.map_eq_some_iff] at hq
    obtain ⟨p, hget, rfl⟩ := hq
    exact (accountsOf_congr hc (hf p)).2 (partners i p hget)

end Sys2Proof.Machine
end

section
/-! Chapter 2, second part: sessions and session lists, and the relation of a state to the one after an operation that
opens and closes no session, attaches and retires no context, and leaves the silence as it is. -/

namespace Sys2Proof.Machine

/-! ### Sessions and session lists (R23) -/

/-- The presence and the session list of the context at a handle. -/
def State.listing (s : State) (h : Nat) : Option (Presence × List Nat) :=
  (s.ctx h).map fun c => (c.presence, c.sessions)

/-- The subscriber handle of the session open at a handle. -/
def State.owner (s : State) (n : Nat) : Option Nat := (s.ses n).map Session.subscriber

/-- R23: sessions and session lists agree: `Listed` without the quiet of a silence. -/
def Paired (s : State) : Prop :=
  Table.wf s.subs.contexts = true ∧ Table.wf s.sess.records = true
    ∧ (∀ h pr ns, s.listing h = some (pr, ns) → ns.Nodup ∧ ns.length ≤ sessionsMax ∧ (pr = .dormant → ns = [])
        ∧ ∀ n ∈ ns, s.owner n = some h)
    ∧ ∀ n h, s.owner n = some h → ∃ pr ns, s.listing h = some (pr, ns) ∧ n ∈ ns

theorem owner_eq_some_iff (s : State) (n h : Nat) : s.owner n = some h ↔ ∃ x, s.ses n = some x ∧ x.subscriber = h :=
  Option.map_eq_some_iff

theorem listing_eq_some_iff (s : State) (h : Nat) (pr : Presence) (ns : List Nat) :
    s.listing h = some (pr, ns) ↔ ∃ c, s.ctx h = some c ∧ c.presence = pr ∧ c.sessions = ns := by
  simp [State.listing]

theorem listing_setCtx (s : State) (h : Nat) (c : Context) (j : Nat) :
    (s.setCtx h c).listing j = if j = h then some (c.presence, c.sessions) else s.listing j := by
  by_cases hj : j = h
  · subst hj; simp [State.listing]
  · simp [State.listing, State.ctx_setCtx_other _ _ hj, hj]

theorem listOk_iff (s : State) (h : Nat) (c : Context) :
    s.listOk h c ↔ c.sessions.Nodup ∧ c.sessions.length ≤ sessionsMax ∧ (c.presence = .dormant → c.sessions = [])
      ∧ ∀ n ∈ c.sessions, s.owner n = some h := by
  simp [State.listOk, owner_eq_some_iff, Option.any_eq_true]

theorem isListed_iff (s : State) (n : Nat) (x : Session) :
    s.isListed n x ↔ ∃ pr ns, s.listing x.subscriber = some (pr, ns) ∧ n ∈ ns := by
  simp [State.isListed, listing_eq_some_iff, Option.any_eq_true]

theorem listed_iff (s : State) : Listed s ↔ Paired s ∧ Quiet s := by
  unfold Listed Paired
  constructor
  · rintro ⟨wc, wr, lists, opened, quiet⟩
    refine ⟨⟨wc, wr, ?_, ?_⟩, quiet⟩
    · intro h pr ns hl
      obtain ⟨c, hc, rfl, rfl⟩ := (listing_eq_some_iff ..).1 hl
      exact (listOk_iff s h c).1 (lists _ (Table.mem_of_get hc))
    · intro n h ho
      obtain ⟨x, hx, rfl⟩ := (owner_eq_some_iff ..).1 ho
      exact (isListed_iff s n x).1 (opened _ (Table.mem_of_get hx))
  · rintro ⟨⟨wc, wr, lists, opened⟩, quiet⟩
    refine ⟨wc, wr, (Table.forall_mem_iff (P := s.listOk) wc).2 ?_, (Table.forall_mem_iff (P := s.isListed) wr).2 ?_,
      quiet⟩
    · exact fun h c hc => (listOk_iff s h c).2 (lists h _ _ ((listing_eq_some_iff ..).2 ⟨c, hc, rfl, rfl⟩))
    · exact fun n x hx => (isListed_iff s n x).2 (opened n _ ((owner_eq_some_iff ..).2 ⟨x, hx, rfl⟩))

/-- R122, R159: the quiet of a silence, handle by handle. -/
theorem quiet_iff {s : State} (hw : Table.wf s.subs.contexts = true) :
    Quiet s ↔ (s.silent = true → (∀ h pr ns, s.listing h = some (pr, ns) → pr = .dormant) ∧ s.mig.queue = []
      ∧ s.mig.batch = none) := by
  unfold Quiet
  refine imp_congr_right fun _ => and_congr_left fun _ => ?_
  rw [Table.forall_mem_iff (P := fun _ c => c.presence = .dormant) hw]
  constructor
  · intro all h pr ns hl
    obtain ⟨c, hc, rfl, -⟩ := (listing_eq_some_iff ..).1 hl
    exact all h c hc
  · exact fun all h c hc => all h _ _ ((listing_eq_some_iff ..).2 ⟨c, hc, rfl, rfl⟩)

theorem quiet_of_not_silent {s : State} (hs : s.silent = false) : Quiet s := fun h => by simp [hs] at h

/-! ### What a step keeps -/

/-- The two invariants go from a state to the one after it. -/
structure Keeps (s t : State) : Prop where
  books : Books s → Books t
  listed : Listed s → Listed t

theorem Keeps.refl (s : State) : Keeps s s := ⟨id, id⟩

theorem Keeps.trans {s t u : State} (h₁ : Keeps s t) (h₂ : Keeps t u) : Keeps s u :=
  ⟨h₂.books ∘ h₁.books, h₂.listed ∘ h₁.listed⟩

/-- `t` is `s` after an operation that opens and closes no session, attaches and retires no context, moves no context
between ATTACHED and DORMANT, leaves the silence as it is and keeps a quiet Migration Engine quiet. -/
structure Steady (s t : State) : Prop where
  books : Books s → Books t
  wf_contexts : Table.wf s.subs.contexts = true → Table.wf t.subs.contexts = true
  wf_sessions : Table.wf s.sess.records = true → Table.wf t.sess.records = true
  listing : ∀ h, t.listing h = s.listing h
  owner : ∀ n, t.owner n = s.owner n
  silent : t.silent = s.silent
  quiet : s.silent = true → s.mig.queue = [] → s.mig.batch = none → t.mig.queue = [] ∧ t.mig.batch = none

theorem Steady.refl (s : State) : Steady s s :=
  ⟨id, id, id, fun _ => rfl, fun _ => rfl, rfl, fun _ hq hb => ⟨hq, hb⟩⟩

theorem Steady.trans {s t u : State} (h₁ : Steady s t) (h₂ : Steady t u) : Steady s u where
  books := h₂.books ∘ h₁.books
  wf_contexts := h₂.wf_contexts ∘ h₁.wf_contexts
  wf_sessions := h₂.wf_sessions ∘ h₁.wf_sessions
  listing h := (h₂.listing h).trans (h₁.listing h)
  owner n := (h₂.owner n).trans (h₁.owner n)
  silent := h₂.silent.trans h₁.silent
  quiet hs hq hb :=
    have ⟨hq, hb⟩ := h₁.quiet hs hq hb
    h₂.quiet (h₁.silent.trans hs) hq hb

theorem Steady.paired {s t : State} (h : Steady s t) (hs : Paired s) : Paired t := by
  obtain ⟨wc, wr, lists, opened⟩ := hs
  refine ⟨h.wf_contexts wc, h.wf_sessions wr, ?_, ?_⟩
  · simpa only [h.listing, h.owner] using lists
  · simpa only [h.listing, h.owner] using opened

theorem Steady.keeps {s t : State} (h : Steady s t) : Keeps s t := by
  refine ⟨h.books, fun hs => ?_⟩
  obtain ⟨paired, quiet⟩ := (listed_iff s).1 hs
  have after := h.paired paired
  refine (listed_iff t).2 ⟨after, (quiet_iff after.1).2 fun hsil => ?_⟩
  have before : s.silent = true := h.silent ▸ hsil
  obtain ⟨dormant, hq, hb⟩ := (quiet_iff paired.1).1 quiet before
  exact ⟨by simpa only [h.listing] using dormant, h.quiet before hq hb⟩

/-- An operation on each element of a list in turn. -/
theorem Steady.foldl {α : Type} {f : State → α → State} (hf : ∀ s a, Steady s (f s a)) (l : List α) (s : State) :
    Steady s (l.foldl f s) := by
  induction l generalizing s with
  | nil => exact .refl s
  | cons a l ih => exact (hf s a).trans (ih _)

theorem Keeps.foldl {α : Type} {f : State → α → State} (hf : ∀ s a, Keeps s (f s a)) (l : List α) (s : State) :
    Keeps s (l.foldl f s) := by
  induction l generalizing s with
  | nil => exact .refl s
  | cons a l ih => exact (hf s a).trans (ih _)

/-! ### Writes that leave the books and the lists -/

/-- An operation that leaves the contexts, the partners and the open sessions. -/
theorem Steady.of_tables {s t : State} (hc : t.subs.contexts = s.subs.contexts)
    (hp : t.tariff.partners = s.tariff.partners) (hr : t.sess.records = s.sess.records) (hs : t.silent = s.silent)
    (hm : s.silent = true → s.mig.queue = [] → s.mig.batch = none → t.mig.queue = [] ∧ t.mig.batch = none) :
    Steady s t where
  books := books_congr hc hp
  wf_contexts h := hc ▸ h
  wf_sessions h := hr ▸ h
  listing h := by simp only [State.listing, State.ctx, hc]
  owner n := by simp only [State.owner, State.ses, hr]
  silent := hs
  quiet := hm

/-- An operation that leaves the contexts, the partners, the open sessions, the silence and the Migration Engine. -/
theorem Steady.of_same {s t : State} (hc : t.subs.contexts = s.subs.contexts := by rfl)
    (hp : t.tariff.partners = s.tariff.partners := by rfl) (hr : t.sess.records = s.sess.records := by rfl)
    (hs : t.silent = s.silent := by rfl) (hm : t.mig = s.mig := by rfl) : Steady s t :=
  .of_tables hc hp hr hs fun _ hq hb => by rw [hm]; exact ⟨hq, hb⟩

theorem steady_raise (n : Notice) (s : State) : Steady s (s.raise n) := .of_same

theorem steady_modLink (l : LinkId) (f : Link → Link) (s : State) : Steady s (s.modLink l f) := .of_same

theorem steady_modStranded (f : Nat → Nat) (s : State) : Steady s (s.modStranded f) := .of_same

theorem steady_modPlanUse (p : PlanId) (f : Nat → Nat) (s : State) : Steady s (s.modPlanUse p f) := .of_same

theorem steady_setRevisions (rs : List Revision) (s : State) : Steady s (s.setRevisions rs) := .of_same

theorem steady_tellZone (c : ZoneCause) (s : State) : Steady s (tellZone c s) := .of_same

theorem steady_modZone (f : ZoneTracker → ZoneTracker) (s : State)
    (hf : ∀ z, (f z).line = z.line ∧ (f z).flag = z.flag := by exact fun _ => ⟨rfl, rfl⟩) : Steady s (s.modZone f) :=
  .of_same (hs := by simp only [State.silent, State.modZone_zone, hf])

theorem steady_setQueue {q : List Order} {s : State} (hq : s.silent = true → s.mig.queue = [] → q = []) :
    Steady s (s.setQueue q) :=
  .of_tables rfl rfl rfl rfl fun hs hq' hb => ⟨hq hs hq', hb⟩

theorem steady_setBatch {b : Option Batch} {s : State} (hb : s.mig.batch = none → b = none) :
    Steady s (s.setBatch b) :=
  .of_tables rfl rfl rfl rfl fun _ hq hb' => ⟨hq, hb hb'⟩

/-- A session rewritten for the same subscriber. -/
theorem steady_setSes {s : State} {n : Nat} {y : Session}
    (hy : s.owner n = some y.subscriber) : Steady s (s.setSes n y) where
  books := books_congr rfl rfl
  wf_contexts := id
  wf_sessions h := Table.wf_set _ _ _ h
  listing _ := rfl
  owner m := by
    by_cases hm : m = n
    · subst hm; rw [hy]; simp [State.owner]
    · simp [State.owner, State.ses_setSes_other _ _ hm]
  silent := rfl
  quiet _ hq hb := ⟨hq, hb⟩

/-- A context rewritten with its presence, its list, its partner and its folio unchanged. -/
theorem steady_setCtx {s : State} {h : Nat} {c d : Context} (hc : s.ctx h = some c) (hpr : d.presence = c.presence)
    (hl : d.sessions = c.sessions) (hp : d.partner = c.partner) (hf : d.folio = c.folio) (hd : c.balanced → d.balanced) :
    Steady s (s.setCtx h d) where
  books := books_setCtx hc hp hf hd
  wf_contexts hw := Table.wf_set _ _ _ hw
  wf_sessions := id
  listing k := by
    rw [listing_setCtx]
    split
    · next hk => subst hk; simp [State.listing, hc, hpr, hl]
    · rfl
  owner _ := rfl
  silent := rfl
  quiet _ hq hb := ⟨hq, hb⟩

/-- A partner rewritten with its accounts unchanged. -/
theorem steady_setPar {s : State} {i : Nat} {q : Partner}
    (hp : Table.wf s.tariff.partners = true → ∃ p, s.par i = some p ∧ p.sameAccounts q) : Steady s (s.setPar i q) where
  books hs :=
    have ⟨_, wp, _⟩ := (books_iff s).1 hs
    have ⟨_, hget, hq⟩ := hp wp
    books_setPar hget hq hs
  wf_contexts := id
  wf_sessions := id
  listing _ := rfl
  owner _ := rfl
  silent := rfl
  quiet _ hq hb := ⟨hq, hb⟩

theorem steady_modPar {f : Partner → Partner} (hf : ∀ p : Partner, p.sameAccounts (f p)) (i : Nat) (s : State) :
    Steady s (s.modPar i f) := by
  unfold State.modPar
  split
  · exact .refl s
  · next p hp => exact steady_setPar fun _ => ⟨p, hp, hf p⟩

end Sys2Proof.Machine
end

section
/-! Chapter 2, third part: what charging and closing the sessions of one subscriber can do, said once. -/

namespace Sys2Proof.Machine

/-! ### The relation -/

/-- `d` is the context `c` after charges to its sessions, with some handles taken off its list: money, credit state and
ask may differ, and a DORMANT context is asked nothing for (R86). -/
def Context.settled (off : List Nat) (c d : Context) : Prop :=
  d = { c with
      sessions := c.sessions.filter fun n => decide (n ∉ off)
      folio := d.folio, sub := d.sub, consumed := d.consumed, credit := d.credit, ask := d.ask, lastAsk := d.lastAsk }
    ∧ (c.presence = .dormant → d.ask = c.ask ∧ d.lastAsk = c.lastAsk)

/-- `t` is `s` after charges to sessions of the subscriber at `k`, with the handles `off` taken off its list and the
sessions `gone` closed. Sessions outside `own` stay as they are, and while the context is DORMANT nothing is asked of
GATEWAY. -/
structure Settles (k : Nat) (off gone own : List Nat) (s t : State) : Prop where
  port : t.port = s.port
  time : t.time = s.time
  zone : t.zone = s.zone
  queue : t.mig.queue = s.mig.queue
  batch : s.mig.batch = none → t.mig.batch = none
  other : ∀ j, j ≠ k → t.ctx j = s.ctx j
  absent : s.ctx k = none → t.ctx k = none
  present : ∀ c, s.ctx k = some c → ∃ d, t.ctx k = some d ∧ c.settled off d
  closed : ∀ n ∈ gone, t.ses n = none
  opened : ∀ n, n ∉ gone → t.owner n = s.owner n
  untouched : ∀ n, n ∉ own → t.ses n = s.ses n
  told : ∃ ns, t.raised = s.raised ++ ns
    ∧ ((∀ c, s.ctx k = some c → c.presence = .dormant) → ∀ n ∈ ns, n.toGateway = false)
  books : Books s → Books t
  wf_contexts : Table.wf s.subs.contexts = true → Table.wf t.subs.contexts = true
  wf_sessions : Table.wf s.sess.records = true → Table.wf t.sess.records = true

theorem Context.settled_self (c : Context) : c.settled [] c := ⟨by simp, fun _ => ⟨rfl, rfl⟩⟩

theorem Context.settled.presence {off : List Nat} {c d : Context} (h : c.settled off d) : d.presence = c.presence := by
  rw [h.1]

theorem Context.settled.sessions {off : List Nat} {c d : Context} (h : c.settled off d) :
    d.sessions = c.sessions.filter fun n => decide (n ∉ off) := by
  rw [h.1]

theorem Context.settled.trans {off₁ off₂ : List Nat} {c d e : Context} (h₁ : c.settled off₁ d) (h₂ : d.settled off₂ e) :
    c.settled (off₁ ++ off₂) e := by
  refine ⟨?_, fun hc => ?_⟩
  · have lists : d.sessions.filter (fun n => decide (n ∉ off₂)) =
        c.sessions.filter fun n => decide (n ∉ off₁ ++ off₂) := by
      rw [h₁.sessions, List.filter_filter]
      exact List.filter_congr fun n _ => by simp [List.mem_append, Bool.and_comm]
    rw [← lists, h₂.1, h₁.1]
  · have hd := h₂.2 (h₁.presence.trans hc)
    have hc := h₁.2 hc
    exact ⟨hd.1.trans hc.1, hd.2.trans hc.2⟩

theorem Settles.refl (k : Nat) (own : List Nat) (s : State) : Settles k [] [] own s s where
  port := rfl
  time := rfl
  zone := rfl
  queue := rfl
  batch := id
  other _ _ := rfl
  absent := id
  present c hc := ⟨c, hc, c.settled_self⟩
  closed := nofun
  opened _ _ := rfl
  untouched _ _ := rfl
  told := ⟨[], by simp⟩
  books := id
  wf_contexts := id
  wf_sessions := id

theorem Settles.trans {k : Nat} {off₁ gone₁ off₂ gone₂ own : List Nat} {s t u : State}
    (h₁ : Settles k off₁ gone₁ own s t) (h₂ : Settles k off₂ gone₂ own t u) :
    Settles k (off₁ ++ off₂) (gone₁ ++ gone₂) own s u where
  port := h₂.port.trans h₁.port
  time := h₂.time.trans h₁.time
  zone := h₂.zone.trans h₁.zone
  queue := h₂.queue.trans h₁.queue
  batch := h₂.batch ∘ h₁.batch
  other j hj := (h₂.other j hj).trans (h₁.other j hj)
  absent := h₂.absent ∘ h₁.absent
  present c hc :=
    have ⟨_, hd, hcd⟩ := h₁.present c hc
    have ⟨e, he, hde⟩ := h₂.present _ hd
    ⟨e, he, hcd.trans hde⟩
  closed n hn := by
    by_cases h : n ∈ gone₂
    · exact h₂.closed n h
    · have gone : t.ses n = none := h₁.closed n ((List.mem_append.1 hn).resolve_right h)
      have same := h₂.opened n h
      rw [State.owner, State.owner, gone] at same
      exact Option.map_eq_none_iff.1 same
  opened n hn := by
    rw [List.mem_append, not_or] at hn
    exact (h₂.opened n hn.2).trans (h₁.opened n hn.1)
  untouched n hn := (h₂.untouched n hn).trans (h₁.untouched n hn)
  told := by
    obtain ⟨ns, raised₁, quiet₁⟩ := h₁.told
    obtain ⟨ms, raised₂, quiet₂⟩ := h₂.told
    refine ⟨ns ++ ms, by rw [raised₂, raised₁, List.append_assoc], fun dormant n hn => ?_⟩
    rcases List.mem_append.1 hn with hn | hn
    · exact quiet₁ dormant n hn
    · refine quiet₂ (fun d hd => ?_) n hn
      cases hc : s.ctx k with
      | none => rw [h₁.absent hc] at hd; cases hd
      | some c =>
        obtain ⟨e, he, hce⟩ := h₁.present c hc
        obtain rfl : e = d := by simpa [he] using hd
        exact hce.presence.trans (dormant c hc)
  books := h₂.books ∘ h₁.books
  wf_contexts := h₂.wf_contexts ∘ h₁.wf_contexts
  wf_sessions := h₂.wf_sessions ∘ h₁.wf_sessions

/-- Charges alone, one after another. -/
theorem Settles.andThen {k : Nat} {own : List Nat} {s t u : State} (h₁ : Settles k [] [] own s t)
    (h₂ : Settles k [] [] own t u) : Settles k [] [] own s u := h₁.trans h₂

theorem Settles.listing_other {k j : Nat} {off gone own : List Nat} {s t : State} (h : Settles k off gone own s t)
    (hj : j ≠ k) : t.listing j = s.listing j := by
  rw [State.listing, h.other j hj]; rfl

theorem Settles.listing_own {k : Nat} {off gone own : List Nat} {s t : State} (h : Settles k off gone own s t) :
    t.listing k = (s.listing k).map fun p => (p.1, p.2.filter fun n => decide (n ∉ off)) := by
  unfold State.listing
  cases hc : s.ctx k with
  | none => rw [h.absent hc]; rfl
  | some c =>
    obtain ⟨d, hd, hcd⟩ := h.present c hc
    simp [hd, hcd.presence, hcd.sessions]

theorem Settles.owner_eq {k : Nat} {off gone own : List Nat} {s t : State} (h : Settles k off gone own s t) (n : Nat) :
    t.owner n = if n ∈ gone then none else s.owner n := by
  split
  · next hn => simp [State.owner, h.closed n hn]
  · next hn => exact h.opened n hn

/-- Charges alone open and close nothing. -/
theorem Settles.steady {k : Nat} {own : List Nat} {s t : State} (h : Settles k [] [] own s t) : Steady s t where
  books := h.books
  wf_contexts := h.wf_contexts
  wf_sessions := h.wf_sessions
  listing j := by
    by_cases hj : j = k
    · subst hj; rw [h.listing_own]; simp
    · exact h.listing_other hj
  owner n := h.opened n (List.not_mem_nil)
  silent := by rw [State.silent, h.zone]; rfl
  quiet _ hq hb := ⟨h.queue.trans hq, h.batch hb⟩

/-! ### Writes for one subscriber -/

/-- The session open at `n`, if any, is one of the subscriber at `k`, and `own` holds it and the sessions that `k` lists. -/
def Within (k : Nat) (own : List Nat) (n : Nat) (s : State) : Prop :=
  n ∈ own ∧ (∀ x, s.ses n = some x → x.subscriber = k) ∧ ∀ c, s.ctx k = some c → ∀ m ∈ c.sessions, m ∈ own

theorem Within.after {k : Nat} {off gone own : List Nat} {n : Nat} {s t : State} (hw : Within k own n s)
    (h : Settles k off gone own s t) : Within k own n t := by
  obtain ⟨hn, owner, lists⟩ := hw
  refine ⟨hn, fun x hx => ?_, fun d hd m hm => ?_⟩
  · have ho : t.owner n = some x.subscriber := (owner_eq_some_iff ..).2 ⟨x, hx, rfl⟩
    rw [h.owner_eq] at ho
    split at ho
    · cases ho
    · obtain ⟨y, hy, hxy⟩ := (owner_eq_some_iff ..).1 ho
      exact hxy.symm.trans (owner y hy)
  · cases hc : s.ctx k with
    | none => rw [h.absent hc] at hd; cases hd
    | some c =>
      obtain ⟨e, he, hce⟩ := h.present c hc
      obtain rfl : e = d := by simpa [he] using hd
      rw [hce.sessions] at hm
      exact lists c hc m (List.mem_of_mem_filter hm)

/-- An operation that leaves contexts, partners and open sessions, and tells GATEWAY nothing. -/
theorem Settles.of_tables {k : Nat} {own : List Nat} {s t : State} (hc : t.subs.contexts = s.subs.contexts)
    (hp : t.tariff.partners = s.tariff.partners) (hr : t.sess.records = s.sess.records)
    (frame : t.port = s.port ∧ t.time = s.time ∧ t.zone = s.zone ∧ t.mig.queue = s.mig.queue)
    (hb : s.mig.batch = none → t.mig.batch = none)
    (told : ∃ ns, t.raised = s.raised ++ ns ∧ ∀ n ∈ ns, n.toGateway = false) : Settles k [] [] own s t where
  port := frame.1
  time := frame.2.1
  zone := frame.2.2.1
  queue := frame.2.2.2
  batch := hb
  other j _ := by simp only [State.ctx, hc]
  absent h := by simpa only [State.ctx, hc] using h
  present c h := ⟨c, by simpa only [State.ctx, hc] using h, c.settled_self⟩
  closed := nofun
  opened n _ := by simp only [State.owner, State.ses, hr]
  untouched n _ := by simp only [State.ses, hr]
  told := have ⟨ns, raised, quiet⟩ := told; ⟨ns, raised, fun _ => quiet⟩
  books := books_congr hc hp
  wf_contexts h := hc ▸ h
  wf_sessions h := hr ▸ h

theorem settles_modLink (k : Nat) (own : List Nat) (l : LinkId) (f : Link → Link) (s : State) :
    Settles k [] [] own s (s.modLink l f) :=
  .of_tables rfl rfl rfl ⟨rfl, rfl, rfl, rfl⟩ id ⟨[], by simp⟩

theorem settles_modStranded (k : Nat) (own : List Nat) (f : Nat → Nat) (s : State) :
    Settles k [] [] own s (s.modStranded f) :=
  .of_tables rfl rfl rfl ⟨rfl, rfl, rfl, rfl⟩ id ⟨[], by simp [State.modStranded]⟩

theorem settles_modPlanUse (k : Nat) (own : List Nat) (p : PlanId) (f : Nat → Nat) (s : State) :
    Settles k [] [] own s (s.modPlanUse p f) :=
  .of_tables rfl rfl rfl ⟨rfl, rfl, rfl, rfl⟩ id ⟨[], by simp [State.modPlanUse]⟩

theorem settles_raise (k : Nat) (own : List Nat) {n : Notice} (hn : n.toGateway = false) (s : State) :
    Settles k [] [] own s (s.raise n) :=
  .of_tables rfl rfl rfl ⟨rfl, rfl, rfl, rfl⟩ id ⟨[n], rfl, by simpa using hn⟩

theorem settles_setBatch (k : Nat) (own : List Nat) {b : Option Batch} {s : State} (hb : s.mig.batch = none → b = none) :
    Settles k [] [] own s (s.setBatch b) :=
  .of_tables rfl rfl rfl ⟨rfl, rfl, rfl, rfl⟩ hb ⟨[], by simp [State.setBatch]⟩

/-- A session of the subscriber rewritten. -/
theorem settles_setSes {k : Nat} {own : List Nat} {s : State} {n : Nat} {x y : Session} (hn : n ∈ own)
    (hx : s.ses n = some x) (hy : y.subscriber = x.subscriber) : Settles k [] [] own s (s.setSes n y) where
  port := rfl
  time := rfl
  zone := rfl
  queue := rfl
  batch := id
  other _ _ := rfl
  absent := id
  present c hc := ⟨c, hc, c.settled_self⟩
  closed := nofun
  opened m _ := by
    by_cases hm : m = n
    · subst hm; simp [State.owner, hx, hy]
    · simp [State.owner, State.ses_setSes_other _ _ hm]
  untouched m hm := State.ses_setSes_other _ _ fun e => hm (e ▸ hn)
  told := ⟨[], by simp⟩
  books := books_congr rfl rfl
  wf_contexts := id
  wf_sessions := Table.wf_set _ _ _

theorem settles_modSes {k : Nat} {own : List Nat} {n : Nat} {f : Session → Session} (hn : n ∈ own)
    (hf : ∀ x, (f x).subscriber = x.subscriber) (s : State) : Settles k [] [] own s (s.modSes n f) := by
  unfold State.modSes
  split
  · exact .refl k own s
  · next x hx => exact settles_setSes hn hx (hf x)

/-- A partner rewritten with its accounts unchanged. -/
theorem settles_setPar {k : Nat} {own : List Nat} {s : State} {i : Nat} {p q : Partner} (hp : s.par i = some p)
    (hq : p.sameAccounts q) : Settles k [] [] own s (s.setPar i q) where
  port := rfl
  time := rfl
  zone := rfl
  queue := rfl
  batch := id
  other _ _ := rfl
  absent := id
  present c hc := ⟨c, hc, c.settled_self⟩
  closed := nofun
  opened _ _ := rfl
  untouched _ _ := rfl
  told := ⟨[], by simp⟩
  books := books_setPar hp hq
  wf_contexts := id
  wf_sessions := id

/-- The context rewritten, together with a partner perhaps, in a way that keeps the books. -/
theorem settles_context {k : Nat} {off own : List Nat} {s t : State} {c d : Context} (hc : s.ctx k = some c)
    (hcd : c.settled off d) (ht : t.subs.contexts = Table.set s.subs.contexts k d) (hr : t.sess.records = s.sess.records)
    (frame : t.port = s.port ∧ t.time = s.time ∧ t.zone = s.zone ∧ t.mig.queue = s.mig.queue)
    (hb : s.mig.batch = none → t.mig.batch = none) (books : Books s → Books t)
    (told : ∃ ns, t.raised = s.raised ++ ns ∧ (c.presence = .dormant → ∀ n ∈ ns, n.toGateway = false)) :
    Settles k off [] own s t where
  port := frame.1
  time := frame.2.1
  zone := frame.2.2.1
  queue := frame.2.2.2
  batch := hb
  other j hj := by simp only [State.ctx, ht, Table.get_set_other _ _ hj]
  absent h := by simp [hc] at h
  present e he := by
    obtain rfl : c = e := by simpa [hc] using he
    exact ⟨d, by simp [State.ctx, ht], hcd⟩
  closed := nofun
  opened n _ := by simp only [State.owner, State.ses, hr]
  untouched n _ := by simp only [State.ses, hr]
  told := have ⟨ns, raised, quiet⟩ := told; ⟨ns, raised, fun dormant => quiet (dormant c hc)⟩
  books := books
  wf_contexts h := ht ▸ Table.wf_set _ _ _ h
  wf_sessions h := hr ▸ h

end Sys2Proof.Machine
end

section
/-! Chapter 2, fourth part: charges, cuts, final rating and closing stay with one subscriber. -/

namespace Sys2Proof.Machine

variable {k : Nat} {own : List Nat}

/-! ### A charge and its evaluation (R75, R76, R86, R93) -/

theorem settles_setService (v : Service) {ns : List Nat} (hns : ∀ n ∈ ns, n ∈ own) (s : State) :
    Settles k [] [] own s (setService v ns s) := by
  unfold setService
  induction ns generalizing s with
  | nil => exact .refl k own s
  | cons n ns ih =>
    rw [List.forall_mem_cons] at hns
    exact (settles_modSes (f := fun x => { x with service := v }) hns.1 (fun _ => rfl) s).andThen (ih hns.2 _)

theorem settles_judgeExhaustion {s : State} (hl : ∀ c, s.ctx k = some c → ∀ m ∈ c.sessions, m ∈ own) :
    Settles k [] [] own s (judgeExhaustion k s) := by
  cases hc : s.ctx k with
  | none => simp only [judgeExhaustion, hc]; exact .refl k own s
  | some c =>
    rw [judgeExhaustion_eq hc]
    split
    · have written : Settles k [] [] own s (s.setCtx k { c with credit := .exhausted }) :=
        settles_context (d := { c with credit := .exhausted }) hc ⟨by simp, fun _ => ⟨rfl, rfl⟩⟩ rfl rfl
          ⟨rfl, rfl, rfl, rfl⟩ id (books_setCtx hc rfl rfl id) ⟨[], by simp⟩
      have blocked := settles_setService (k := k) .blocked
        (fun n hn => hl c hc n (List.mem_of_mem_filter (show n ∈ s.toBlock c from hn)))
        (s.setCtx k { c with credit := .exhausted })
      exact written.andThen (blocked.andThen (settles_raise k own rfl _))
    · exact .refl k own s

theorem settles_judgeAsk (s : State) : Settles k [] [] own s (judgeAsk k s) := by
  cases hc : s.ctx k with
  | none => simp only [judgeAsk, hc]; exact .refl k own s
  | some c =>
    cases hp : s.par c.partner with
    | none => simp only [judgeAsk, hc, hp]; exact .refl k own s
    | some p =>
      rw [judgeAsk_eq hc hp]
      split
      · next asks =>
        have attached : c.presence = .attached := ((askCondition_iff c p).1 asks).1
        have awake : c.presence ≠ .dormant := by simp [attached]
        refine settles_context hc ⟨by simp, fun h => absurd h awake⟩ rfl rfl ⟨rfl, rfl, rfl, rfl⟩ id
          (fun hs => books_congr rfl rfl (books_setCtx hc rfl rfl id hs)) ⟨_, rfl, fun h => absurd h awake⟩
      · exact .refl k own s

theorem settles_evaluateCredit {s : State} (hl : ∀ c, s.ctx k = some c → ∀ m ∈ c.sessions, m ∈ own) :
    Settles k [] [] own s (evaluateCredit k s) :=
  (settles_judgeExhaustion hl).andThen (settles_judgeAsk _)

/-- R75: the folio's ceiling bounds what a charge applies. -/
theorem folio_add_headroom_le {c : Context} (hc : c.folio ≤ moneyMax) (a : Nat) :
    c.folio + headroomOf c a ≤ moneyMax := by
  unfold headroomOf; omega

theorem settles_apply {s : State} {c : Context} (z : ZoneClass) (a : Nat) (hc : s.ctx k = some c) :
    Settles k [] [] own s ((s.setCtx k (c.apply z (headroomOf c a))).modPar c.partner
      fun p => { p with openTotal := p.openTotal + headroomOf c a }) := by
  have settled : c.settled [] (c.apply z (headroomOf c a)) := ⟨by simp [Context.apply], fun _ => ⟨rfl, rfl⟩⟩
  cases hp : s.par c.partner with
  | none =>
    simp only [State.modPar, State.par_setCtx, hp]
    refine settles_context hc settled rfl rfl ⟨rfl, rfl, rfl, rfl⟩ id (fun hs => ?_) ⟨[], by simp⟩
    -- The books give every context its partner.
    have there := (((books_iff s).1 hs).2.2.1 k c hc).2
    simp [hp] at there
  | some p =>
    simp only [State.modPar, State.par_setCtx, hp]
    refine settles_context hc settled rfl rfl ⟨rfl, rfl, rfl, rfl⟩ id (fun hs => ?_) ⟨[], by simp⟩
    have folio := (((books_iff s).1 hs).2.2.1 k c hc).1.2.2.1
    exact books_apply z hc hp (folio_add_headroom_le folio a) hs

theorem settles_applyAmount {n : Nat} {s : State} (z : ZoneClass) (a : Nat) (hw : Within k own n s) :
    Settles k [] [] own s (applyAmount n z a s) := by
  unfold applyAmount
  split
  · exact .refl k own s
  · next x hx =>
    obtain rfl := hw.2.1 x hx
    split
    · exact .refl _ own s
    · next c hc =>
      exact (settles_setSes (y := { x with charge := x.charge + headroomOf c a }) hw.1 hx rfl).andThen
        (settles_apply z a hc)

theorem settles_charge {n : Nat} {s : State} (z : ZoneClass) (a : Nat) (hw : Within k own n s) :
    Settles k [] [] own s (charge n z a s) := by
  unfold charge
  split
  · exact .refl k own s
  · split
    · exact .refl k own s
    · next x hx =>
      have applied := settles_applyAmount z a hw
      rw [hw.2.1 x hx]
      exact applied.andThen (settles_evaluateCredit (hw.after applied).2.2)

theorem settles_chargeThousandths {n : Nat} {s : State} (z : ZoneClass) (a : Nat) (hw : Within k own n s) :
    Settles k [] [] own s (chargeThousandths n z a s) := by
  have written := settles_modSes (k := k) (f := fun x => { x with carry := a % 1000 }) hw.1 (fun _ => rfl) s
  exact written.andThen (settles_charge z _ (hw.after written))

/-- A session of the subscriber rewritten and then charged. -/
theorem settles_setSes_charge {n : Nat} {s : State} {x y : Session} (z : ZoneClass) (a : Nat) (hw : Within k own n s)
    (hx : s.ses n = some x) (hy : y.subscriber = x.subscriber) :
    Settles k [] [] own s (chargeThousandths n z a (s.setSes n y)) := by
  have written := settles_setSes (k := k) hw.1 hx hy
  exact written.andThen (settles_chargeThousandths z a (hw.after written))

/-! ### Cuts (R70 to R72) -/

theorem settles_cutAt {n : Nat} {s : State} (q : Price) (hw : Within k own n s) :
    Settles k [] [] own s (cutAt n q s) := by
  unfold cutAt
  split
  · exact .refl k own s
  · next x hx =>
    split
    · exact settles_setSes_charge _ _ hw hx (y := { x with residue := 0, epoch := s.tariff.epoch }) rfl
    · exact settles_setSes hw.1 hx rfl

theorem settles_epochCutOf {n : Nat} {s : State} (hw : Within k own n s) :
    Settles k [] [] own s (epochCutOf n s) := by
  unfold epochCutOf
  split
  · next x prev hx hprev =>
    split
    · split
      · exact settles_setSes hw.1 hx rfl
      · exact settles_cutAt _ hw
    · exact .refl k own s
  · exact .refl k own s

theorem settles_bindingCutOf {n : Nat} {s : State} (hw : Within k own n s) :
    Settles k [] [] own s (bindingCutOf n s) := by
  have cut := settles_epochCutOf hw
  simp only [bindingCutOf]
  split
  · exact cut
  · split
    · exact cut
    · exact cut.andThen (settles_cutAt _ (hw.after cut))

/-! ### Final rating (R73) -/

theorem settles_closeResidue {n : Nat} {s : State} (q : Price) (hw : Within k own n s) :
    Settles k [] [] own s (closeResidue n q s) := by
  unfold closeResidue
  split
  · exact .refl k own s
  · next x hx =>
    split
    · split
      · exact settles_setSes_charge _ _ hw hx
          (y := { x with residue := 0, blocks := saturate blocksMax (x.blocks + 1) }) rfl
      · exact settles_cutAt q hw
    · exact .refl k own s

theorem settles_closeMinimum {n : Nat} {s : State} (q : Price) (hw : Within k own n s) :
    Settles k [] [] own s (closeMinimum n q s) := by
  unfold closeMinimum
  split
  · exact .refl k own s
  · next x hx =>
    split
    · exact settles_setSes_charge _ _ hw hx (y := { x with blocks := q.cell.minimum }) rfl
    · exact .refl k own s

theorem settles_closeCarry {n : Nat} {s : State} (z : ZoneClass) (hw : Within k own n s) :
    Settles k [] [] own s (closeCarry n z s) := by
  unfold closeCarry
  split
  · exact .refl k own s
  · next x hx =>
    have written := settles_setSes (k := k) (y := { x with carry := 0 }) hw.1 hx rfl
    exact written.andThen (settles_charge z _ (hw.after written))

theorem settles_finalRating {n : Nat} {s : State} (hw : Within k own n s) :
    Settles k [] [] own s (finalRating n s) := by
  have cut := settles_epochCutOf hw
  simp only [finalRating]
  split
  · exact cut
  · next x _ =>
    split
    · exact cut
    · split
      · exact cut
      · next p _ =>
        have residue := cut.andThen (settles_closeResidue ((epochCutOf n s).currentPrice x p) (hw.after cut))
        have minimum := residue.andThen (settles_closeMinimum ((epochCutOf n s).currentPrice x p) (hw.after residue))
        exact minimum.andThen (settles_closeCarry _ (hw.after minimum))

/-! ### Closing (R50) -/

theorem settles_releaseSlot (d : LinkId) (x : Session) (s : State) : Settles k [] [] own s (releaseSlot d x s) := by
  unfold releaseSlot
  split
  · exact settles_modLink k own _ _ s
  · exact .refl k own s

theorem settles_withdraw {n : Nat} {s : State} (hn : n ∈ own) : Settles k [] [] own s (withdraw n s) := by
  unfold withdraw
  split
  · exact .refl k own s
  · next x hx =>
    split
    · next src d _ hb =>
      have home := (settles_setSes (k := k) (y := { x with binding := homeBinding src }) hn hx rfl).andThen
        (settles_releaseSlot d x _)
      dsimp only
      split
      · exact home
      · next b hbatch =>
        split
        · exact home.andThen ((settles_setBatch k own fun _ => rfl).andThen (settles_raise k own rfl _))
        · exact home.andThen (settles_setBatch k own fun h => by simp [hbatch] at h)
    · exact .refl k own s

theorem settles_unlist {n : Nat} {s : State} {x : Session} (hx : s.ses n = some x) (hk : x.subscriber = k) :
    Settles k [n] [] own s (unlist n s) := by
  subst hk
  cases hc : s.ctx x.subscriber with
  | none =>
    have same : unlist n s = s := by simp only [unlist, hx, State.modCtx, hc]
    rw [same]
    exact { Settles.refl x.subscriber own s with present := fun c h => by simp [hc] at h }
  | some c =>
    have lists : (fun m : Nat => m != n) = fun m => decide (m ∉ [n]) := by
      funext m; rw [Bool.eq_iff_iff]; simp
    have written : unlist n s = s.setCtx x.subscriber
        { c with sessions := c.sessions.filter fun m => decide (m ∉ [n]) } := by
      simp only [unlist, hx, State.modCtx, hc, lists]
    rw [written]
    exact settles_context (d := { c with sessions := c.sessions.filter fun m => decide (m ∉ [n]) }) hc
      ⟨rfl, fun _ => ⟨rfl, rfl⟩⟩ rfl rfl ⟨rfl, rfl, rfl, rfl⟩ id (books_setCtx hc rfl rfl id) ⟨[], by simp⟩

theorem settles_loseCount (x : Session) (s : State) : Settles k [] [] own s (loseCount x s) := by
  unfold loseCount
  split
  · exact settles_modLink k own _ _ s
  · exact settles_modStranded k own _ s

theorem partnerEntry_par {s : State} {x : Session} {i : Nat} {p : Partner} (h : s.partnerEntry x = some (i, p)) :
    s.par i = some p := by
  simp only [State.partnerEntry, Option.bind_eq_some_iff, Option.map_eq_some_iff, Prod.mk.injEq] at h
  obtain ⟨c, -, p', hp, rfl, rfl⟩ := h
  exact hp

theorem settles_loseUse (x : Session) (s : State) : Settles k [] [] own s (loseUse x s) := by
  unfold loseUse
  split
  · exact .refl k own s
  · next i p h =>
    exact (settles_setPar (q := { p with sessions := p.sessions - 1 }) (partnerEntry_par h) ⟨rfl, rfl, rfl, rfl⟩).andThen (settles_modPlanUse k own _ _ _)

theorem settles_uncount (n : Nat) (s : State) : Settles k [] [] own s (uncount n s) := by
  unfold uncount
  split
  · exact .refl k own s
  · split
    · exact (settles_loseCount _ s).andThen (settles_loseUse _ _)
    · exact settles_loseCount _ s

theorem settles_notifyClose (n : Nat) (reason : CloseReason) (s : State) :
    Settles k [] [] own s (notifyClose n reason s) := by
  unfold notifyClose
  split
  · exact .refl k own s
  · split
    · exact settles_raise k own rfl s
    · exact .refl k own s

theorem settles_freeSession {n : Nat} (hn : n ∈ own) (s : State) : Settles k [] [n] own s (s.freeSession n) where
  port := rfl
  time := rfl
  zone := rfl
  queue := rfl
  batch := id
  other _ _ := rfl
  absent := id
  present c hc := ⟨c, hc, c.settled_self⟩
  closed m hm := by
    obtain rfl := List.mem_singleton.1 hm
    exact Table.get_erase_same _ _
  opened m hm := congrArg (Option.map Session.subscriber)
    (Table.get_erase_other s.sess.records fun e => hm (List.mem_singleton.2 e))
  untouched m hm := Table.get_erase_other s.sess.records fun e => hm (e ▸ hn)
  told := ⟨[], by simp [State.freeSession]⟩
  books := books_congr rfl rfl
  wf_contexts := id
  wf_sessions := Table.wf_erase _ _

/-- R50: closing a session of a subscriber takes it off the list and out of the table. -/
theorem settles_closeSession {n : Nat} {s : State} {x : Session} (reason : CloseReason) (hw : Within k own n s)
    (hx : s.ses n = some x) : Settles k [n] [n] own s (closeSession n reason s) := by
  have withdrawn : Settles k [] [] own s (withdraw n s) := settles_withdraw hw.1
  have here : (withdraw n s).owner n = some k := by
    rw [withdrawn.owner_eq, if_neg (by simp), owner_eq_some_iff]
    exact ⟨x, hx, hw.2.1 x hx⟩
  obtain ⟨y, hy, hyk⟩ := (owner_eq_some_iff ..).1 here
  have unlisted := withdrawn.trans (settles_unlist (own := own) hy hyk)
  have rated := unlisted.trans (settles_finalRating (hw.after unlisted))
  exact ((rated.trans (settles_uncount n _)).trans (settles_notifyClose n reason _)).trans (settles_freeSession hw.1 _)

/-- R50: closing sessions of a subscriber one after another. -/
theorem settles_closeList {ns : List Nat} {s : State} (reason : CloseReason) (hd : ns.Nodup)
    (ho : ∀ n ∈ ns, s.owner n = some k) (hns : ∀ n ∈ ns, n ∈ own)
    (hl : ∀ c, s.ctx k = some c → ∀ m ∈ c.sessions, m ∈ own) : Settles k ns ns own s (closeList ns reason s) := by
  unfold closeList
  induction ns generalizing s with
  | nil => exact .refl k own s
  | cons n ns ih =>
    rw [List.nodup_cons] at hd
    rw [List.forall_mem_cons] at ho hns
    obtain ⟨x, hx, hxk⟩ := (owner_eq_some_iff ..).1 ho.1
    have within : Within k own n s := ⟨hns.1, fun y hy => by rw [Option.some.inj (hy.symm.trans hx)]; exact hxk, hl⟩
    have head := settles_closeSession reason within hx
    have rest := ih (s := closeSession n reason s) hd.2 (fun m hm => ?_) hns.2 (within.after head).2.2
    · exact head.trans rest
    · rw [head.owner_eq, if_neg fun e => hd.1 (by rwa [← List.mem_singleton.1 e])]
      exact ho.2 m hm

end Sys2Proof.Machine
end

section
/-! Chapter 2, fifth part: closing, detaching and falling silent keep the books and the lists. -/

namespace Sys2Proof.Machine

/-! ### Sessions closed (R50) -/

/-- R23: sessions of one subscriber that leave both the table and the list leave the rest in agreement. -/
theorem paired_closed {s t : State} {k : Nat} {gone : List Nat} (hs : Paired s)
    (hg : ∀ n ∈ gone, s.owner n = some k) (wc : Table.wf t.subs.contexts = true) (wr : Table.wf t.sess.records = true)
    (other : ∀ j, j ≠ k → t.listing j = s.listing j) (absent : s.listing k = none → t.listing k = none)
    (own : ∀ pr ns, s.listing k = some (pr, ns) → ∃ pr', t.listing k = some (pr', ns.filter fun n => decide (n ∉ gone))
      ∧ (pr' = .dormant → pr = .dormant ∨ ns = gone))
    (owner : ∀ n, t.owner n = if n ∈ gone then none else s.owner n) : Paired t := by
  obtain ⟨-, -, lists, opened⟩ := hs
  have kept {n : Nat} (hn : n ∉ gone) : t.owner n = s.owner n := (owner n).trans (if_neg hn)
  refine ⟨wc, wr, fun h pr ns hl => ?_, fun n h ho => ?_⟩
  · by_cases hk : h = k
    · subst hk
      cases hb : s.listing h with
      | none => rw [absent hb] at hl; cases hl
      | some p =>
        obtain ⟨pr₀, ns₀⟩ := p
        obtain ⟨pr', after, dormant⟩ := own pr₀ ns₀ hb
        rw [after] at hl
        cases hl
        obtain ⟨nodup, short, empty, mine⟩ := lists h pr₀ ns₀ hb
        refine ⟨nodup.filter _, (List.length_filter_le _ _).trans short, fun hpr => ?_, fun n hn => ?_⟩
        · rcases dormant hpr with hpr | rfl
          · simp [empty hpr]
          · simp
        · obtain ⟨hn, out⟩ := List.mem_filter.1 hn
          rw [kept (of_decide_eq_true out)]
          exact mine n hn
    · rw [other h hk] at hl
      obtain ⟨nodup, short, empty, mine⟩ := lists h pr ns hl
      refine ⟨nodup, short, empty, fun n hn => ?_⟩
      have out : n ∉ gone := fun hg' => hk (Option.some.inj ((mine n hn).symm.trans (hg n hg')))
      rw [kept out]
      exact mine n hn
  · by_cases hn : n ∈ gone
    · rw [owner, if_pos hn] at ho; cases ho
    · rw [kept hn] at ho
      obtain ⟨pr, ns, hl, hm⟩ := opened n h ho
      by_cases hk : h = k
      · subst hk
        obtain ⟨pr', after, -⟩ := own pr ns hl
        exact ⟨pr', _, after, List.mem_filter.2 ⟨hm, decide_eq_true hn⟩⟩
      · exact ⟨pr, ns, (other h hk).trans hl, hm⟩

theorem Settles.keeps {k : Nat} {gone own : List Nat} {s t : State} (h : Settles k gone gone own s t)
    (hg : ∀ n ∈ gone, s.owner n = some k) : Keeps s t := by
  refine ⟨h.books, fun hs => ?_⟩
  obtain ⟨paired, quiet⟩ := (listed_iff s).1 hs
  have wc := h.wf_contexts paired.1
  have own {pr : Presence} {ns : List Nat} (hl : s.listing k = some (pr, ns)) :
      t.listing k = some (pr, ns.filter fun n => decide (n ∉ gone)) := by rw [h.listing_own, hl]; rfl
  refine (listed_iff t).2 ⟨paired_closed paired hg wc (h.wf_sessions paired.2.1) (fun j hj => h.listing_other hj)
    (fun hl => by rw [h.listing_own, hl]; rfl) (fun pr ns hl => ⟨pr, own hl, .inl⟩) h.owner_eq, (quiet_iff wc).2 ?_⟩
  intro hsil
  rw [State.silent, h.zone] at hsil
  obtain ⟨dormant, hq, hb⟩ := (quiet_iff paired.1).1 quiet hsil
  refine ⟨fun j pr ns hl => ?_, h.queue.trans hq, h.batch hb⟩
  by_cases hj : j = k
  · subst hj
    rw [h.listing_own, Option.map_eq_some_iff] at hl
    obtain ⟨⟨pr', ns'⟩, before, hp⟩ := hl
    cases hp
    exact dormant j pr' ns' before
  · rw [h.listing_other hj] at hl
    exact dormant j pr ns hl

/-- The session open at a handle belongs to its own subscriber. -/
theorem within_self {s : State} {n : Nat} {x : Session} (hx : s.ses n = some x) :
    Within x.subscriber (n :: ((s.ctx x.subscriber).map Context.sessions).getD []) n s :=
  ⟨List.mem_cons_self, fun y hy => by rw [Option.some.inj (hy.symm.trans hx)], fun c hc m hm => List.mem_cons_of_mem _ (by simpa [hc] using hm)⟩

/-- R50: a handle that names no open session has nothing to close. -/
theorem closeSession_absent {s : State} {n : Nat} (reason : CloseReason) (hn : s.ses n = none) :
    closeSession n reason s = s.freeSession n := by
  simp only [closeSession, closeRated, withdraw, unlist, finalRating, epochCutOf, uncount, notifyClose, hn]

theorem steady_freeSession_absent {s : State} {n : Nat} (hn : s.ses n = none) : Steady s (s.freeSession n) where
  books := books_congr rfl rfl
  wf_contexts := id
  wf_sessions := Table.wf_erase _ _
  listing _ := rfl
  owner m := by
    by_cases hm : m = n
    · subst hm
      have gone : (s.freeSession m).ses m = none := Table.get_erase_same _ _
      rw [State.owner, State.owner, gone, hn]
    · exact congrArg (Option.map Session.subscriber) (Table.get_erase_other s.sess.records hm)
  silent := rfl
  quiet _ hq hb := ⟨hq, hb⟩

theorem keeps_closeSession (n : Nat) (reason : CloseReason) (s : State) : Keeps s (closeSession n reason s) := by
  cases hx : s.ses n with
  | none => rw [closeSession_absent reason hx]; exact (steady_freeSession_absent hx).keeps
  | some x =>
    refine (settles_closeSession reason (within_self hx) hx).keeps fun m hm => ?_
    obtain rfl := List.mem_singleton.1 hm
    exact (owner_eq_some_iff ..).2 ⟨x, hx, rfl⟩

theorem keeps_closeList (ns : List Nat) (reason : CloseReason) (s : State) : Keeps s (closeList ns reason s) :=
  .foldl (fun s n => keeps_closeSession n reason s) ns s

/-! ### A context made DORMANT (R32, R33) -/

/-- R33: what DORMANT leaves of a context: its sessions are closed one after another. -/
theorem settles_dropContext {s : State} {h : Nat} {c : Context} (reason : CloseReason) (hs : Paired s)
    (hc : s.ctx h = some c) :
    Settles h c.sessions c.sessions c.sessions (s.setCtx h (c.goDormant s.dormancyDeadline))
      (dropContext h c reason s) := by
  obtain ⟨nodup, -, -, mine⟩ := hs.2.2.1 h _ _ ((listing_eq_some_iff ..).2 ⟨c, hc, rfl, rfl⟩)
  refine settles_closeList reason nodup mine (fun _ => id) fun d hd m hm => ?_
  obtain rfl : c.goDormant s.dormancyDeadline = d := by simpa using hd
  exact hm

/-- R32, R33: the lists after a context was made DORMANT. -/
theorem listing_dropContext {s : State} {h : Nat} {c : Context} (reason : CloseReason) (hs : Paired s)
    (hc : s.ctx h = some c) (j : Nat) :
    (dropContext h c reason s).listing j = if j = h then some (.dormant, []) else s.listing j := by
  have drop := settles_dropContext reason hs hc
  by_cases hj : j = h
  · subst hj; rw [drop.listing_own, listing_setCtx]; simp [Context.goDormant]
  · rw [drop.listing_other hj, listing_setCtx, if_neg hj, if_neg hj]

theorem paired_dropContext {s : State} {h : Nat} {c : Context} (reason : CloseReason) (hs : Paired s)
    (hc : s.ctx h = some c) : Paired (dropContext h c reason s) := by
  have drop := settles_dropContext reason hs hc
  have mine := (hs.2.2.1 h _ _ ((listing_eq_some_iff ..).2 ⟨c, hc, rfl, rfl⟩)).2.2.2
  refine paired_closed hs mine (drop.wf_contexts (Table.wf_set _ _ _ hs.1)) (drop.wf_sessions hs.2.1)
    (fun j hj => (listing_dropContext reason hs hc j).trans (if_neg hj)) (fun hl => ?_) (fun pr ns hl => ?_) drop.owner_eq
  · simp [State.listing, hc] at hl
  · obtain ⟨c', hc', -, rfl⟩ := (listing_eq_some_iff ..).1 hl
    obtain rfl : c = c' := by simpa [hc] using hc'
    exact ⟨.dormant, by rw [listing_dropContext reason hs hc, if_pos rfl]; simp, fun _ => .inr rfl⟩

theorem keeps_dropContext {s : State} {h : Nat} {c : Context} (reason : CloseReason) (hc : s.ctx h = some c) :
    Keeps s (dropContext h c reason s) := by
  refine ⟨(keeps_closeList _ _ _).books ∘ books_setCtx hc rfl rfl id, fun hs => ?_⟩
  obtain ⟨paired, quiet⟩ := (listed_iff s).1 hs
  have drop := settles_dropContext reason paired hc
  have after := paired_dropContext reason paired hc
  refine (listed_iff _).2 ⟨after, (quiet_iff after.1).2 fun hsil => ?_⟩
  rw [State.silent, drop.zone] at hsil
  obtain ⟨dormant, hq, hb⟩ := (quiet_iff paired.1).1 quiet hsil
  refine ⟨fun j pr ns hl => ?_, drop.queue.trans hq, drop.batch hb⟩
  rw [listing_dropContext reason paired hc] at hl
  split at hl
  · cases hl; rfl
  · exact dormant j pr ns hl

end Sys2Proof.Machine
end

section
/-! Chapter 2, sixth part: rating, migration, links, zones and epochs open and close no session and leave every context
where it is. -/

namespace Sys2Proof.Machine

/-! ### Rating (Chapter 4) -/

theorem steady_epochCutOf (n : Nat) (s : State) : Steady s (epochCutOf n s) := by
  cases hx : s.ses n with
  | none => simp only [epochCutOf, hx]; exact .refl s
  | some x => exact (settles_epochCutOf (within_self hx)).steady

theorem steady_bindingCutOf (n : Nat) (s : State) : Steady s (bindingCutOf n s) := by
  cases hx : s.ses n with
  | none => simp only [bindingCutOf, epochCutOf, hx]; exact .refl s
  | some x => exact (settles_bindingCutOf (within_self hx)).steady

/-- A session rewritten for the subscriber it has. -/
theorem steady_rewrite {s : State} {n : Nat} {x y : Session} (hx : s.ses n = some x)
    (hy : y.subscriber = x.subscriber) : Steady s (s.setSes n y) :=
  steady_setSes ((owner_eq_some_iff ..).2 ⟨x, hx, hy.symm⟩)

theorem steady_rateUnits (n u : Nat) (p : Price) (s : State) : Steady s (rateUnits n u p s) := by
  unfold rateUnits
  split
  · exact .refl s
  · next x hx =>
    have charged (z : ZoneClass) (a : Nat) {y : Session} (hy : y.subscriber = x.subscriber) :
        Steady s (chargeThousandths n z a (s.setSes n y)) :=
      (settles_setSes_charge z a (within_self hx) hx hy).steady
    split
    · exact .refl s
    · exact charged _ _ rfl
    · exact charged _ _ rfl

theorem steady_countBytes (x : Session) (u : Nat) (s : State) : Steady s (countBytes x u s) := by
  unfold countBytes
  split
  · split
    · exact .refl s
    · exact steady_modLink _ _ s
  · exact .refl s

@[simp] theorem countBytes_ses (x : Session) (u : Nat) (s : State) (n : Nat) :
    (countBytes x u s).ses n = s.ses n := by
  unfold countBytes
  split
  · split <;> rfl
  · rfl

theorem steady_rateEntry {e : UsageEntry} {x : Session} {s : State} (hx : s.ses e.session = some x) :
    Steady s (rateEntry e x s) := by
  have stamped : Steady s ((countBytes x (unitsOf x.cls e) s).setSes e.session (x.stamp e s.now)) :=
    (steady_countBytes x _ s).trans (steady_rewrite ((countBytes_ses ..).trans hx) rfl)
  simp only [rateEntry]
  split
  · exact stamped
  · exact stamped.trans (steady_rateUnits _ _ _ _)

theorem steady_resolveEntry (e : UsageEntry) (s : State) : Steady s (resolveEntry e s).1 := by
  unfold resolveEntry
  split
  · exact .refl s
  · next s1 x h =>
    unfold entrySession at h
    split at h
    · cases h
    · simp only [Option.map_eq_some_iff, Prod.mk.injEq] at h
      obtain ⟨y, hy, rfl, rfl⟩ := h
      exact (steady_epochCutOf e.session s).trans (steady_rateEntry hy)

theorem steady_resolveEntries (es : List UsageEntry) (s : State) : Steady s (resolveEntries es s).1 := by
  induction es generalizing s with
  | nil => exact .refl s
  | cons e es ih => exact (steady_resolveEntry e s).trans (ih _)

/-! ### Migration (Chapter 7) -/

/-- R123: while the part is silent no order of its own is raised. -/
theorem steady_raiseOrder (src : Source) (sc : Scope) (ca : OrderCause) (s : State) :
    Steady s (raiseOrder src sc ca s) := by
  rw [raiseOrder_eq]
  exact .of_tables rfl rfl rfl rfl fun hs hq hb => ⟨by simp [handedOrder, hs, hq], hb⟩

theorem steady_releaseSlot (d : LinkId) (x : Session) (s : State) : Steady s (releaseSlot d x s) :=
  (settles_releaseSlot (k := 0) (own := []) d x s).steady

theorem steady_returnOne (b : Batch) (n : Nat) (s : State) : Steady s (returnOne b n s) := by
  unfold returnOne
  split
  · exact .refl s
  · next x hx =>
    exact (steady_rewrite (y := { x with binding := homeBinding b.source }) hx rfl).trans (steady_releaseSlot _ _ _)

theorem steady_returnBatch (b : Batch) (s : State) : Steady s (returnBatch b s) :=
  (Steady.foldl (fun s n => steady_returnOne b n s) b.sessions s).trans (steady_setBatch fun _ => rfl)

theorem steady_strandOne (l : LinkId) (n : Nat) (s : State) : Steady s (strandOne l n s) := by
  have cut := steady_bindingCutOf n s
  simp only [strandOne]
  split
  · exact cut
  · next x hx =>
    have lost := steady_modLink l (fun k => k.lose x) (bindingCutOf n s)
    have stranded := lost.trans (steady_rewrite (x := x) (y := { x with binding := .stranded }) hx rfl)
    exact cut.trans ((stranded.trans (steady_modStranded _ _)).trans (steady_raise _ _))

theorem steady_endOrder (outcome : OrderOutcome) (s : State) : Steady s (endOrder outcome s) := by
  unfold endOrder
  split
  · exact .refl s
  · next o rest hq =>
    have stranded : Steady s (strandAll o (strandedBy o outcome s) s) := by
      unfold strandAll
      split
      · exact .refl s
      · exact .foldl (fun s n => steady_strandOne _ n s) _ s
    exact stranded.trans ((steady_raise _ _).trans (steady_setQueue fun _ h => by rw [h]; rfl))

/-- Orders of a queue that is not empty are rewritten. -/
theorem steady_setQueue_cons {s : State} {o : Order} {rest : List Order} (hq : s.mig.queue = o :: rest)
    (q : List Order) : Steady s (s.setQueue q) :=
  steady_setQueue fun _ h => by simp [hq] at h

theorem steady_batchFailed (d : LinkId) (s : State) : Steady s (batchFailed d s) := by
  unfold batchFailed
  split
  · exact .refl s
  · next o rest hq =>
    split
    · exact steady_endOrder _ s
    · exact steady_setQueue_cons hq _

theorem steady_refuseBatch (b : Batch) (s : State) : Steady s (refuseBatch b s) :=
  (steady_returnBatch b s).trans (steady_batchFailed _ _)

theorem steady_abandonBatch (b : Batch) (cause : AbandonCause) (s : State) : Steady s (abandonBatch b cause s) :=
  (steady_returnBatch b s).trans ((steady_raise _ _).trans (steady_batchFailed _ _))

theorem steady_batchTimeoutEffect (s : State) : Steady s (batchTimeoutEffect s) := by
  unfold batchTimeoutEffect
  split
  · exact .refl s
  · split
    · exact steady_abandonBatch _ _ s
    · exact .refl s

/-- R129: a batch takes sessions that are in scope. -/
theorem takeSessions_sublist (l : List (Nat × Session)) (room slots : Nat) : (takeSessions l room slots).Sublist l := by
  fun_induction takeSessions l room slots with
  | case1 => exact List.Sublist.refl _
  | case2 p rest room => exact List.nil_sublist _
  | case3 p rest room slots h ih => exact ih.cons_cons p
  | case4 p rest slots h ih => exact ih.cons p
  | case5 p rest slots h r ih => exact ih.cons_cons p

/-- Sessions rewritten for the subscribers they have. -/
theorem steady_rebind {s : State} {taken : List (Nat × Session)} (b : Binding)
    (ht : ∀ p ∈ taken, s.owner p.1 = some p.2.subscriber) :
    Steady s (taken.foldl (fun s p => s.setSes p.1 { p.2 with binding := b }) s) := by
  induction taken generalizing s with
  | nil => exact .refl s
  | cons p taken ih =>
    rw [List.forall_mem_cons] at ht
    have written : Steady s (s.setSes p.1 { p.2 with binding := b }) := steady_setSes ht.1
    exact written.trans (ih fun q hq => (written.owner q.1).trans (ht.2 q hq))

/-- Writing sessions leaves everything but the session table. -/
theorem rebind_frame (taken : List (Nat × Session)) (b : Binding) (s : State) :
    let t := taken.foldl (fun s p => s.setSes p.1 { p.2 with binding := b }) s
    t = { s with sess := { s.sess with records := t.sess.records } } := by
  induction taken generalizing s with
  | nil => rfl
  | cons p taken ih => rw [List.foldl_cons, ih]; rfl

/-- R129, R130: forming a batch of sessions that are in the session table. -/
theorem keeps_formBatch {s : State} {o : Order} {rest : List Order} {taken : List (Nat × Session)} (d : LinkId)
    (hq : s.mig.queue = o :: rest) (ht : ∀ p ∈ taken, p ∈ s.sess.records) : Keeps s (formBatch o rest d taken s) := by
  have frame := rebind_frame taken (.moving o.source d (nextBatch s.mig.counter)) s
  refine ⟨books_congr ?_ ?_, fun hs => (Steady.keeps ?_).listed hs⟩
  · simp only [formBatch, State.raise_subs, State.modLink_subs]; rw [frame]
  · simp only [formBatch, State.raise_tariff, State.modLink_tariff]; rw [frame]
  · have mine : ∀ p ∈ taken, s.owner p.1 = some p.2.subscriber := fun p hp =>
      (owner_eq_some_iff ..).2 ⟨p.2, Table.get_of_mem hs.2.1 (ht p hp), rfl⟩
    have rebound := (steady_rebind (.moving o.source d (nextBatch s.mig.counter)) mine).trans (steady_modLink d
      (fun k => { k with reserved := k.reserved + (taken.filter fun p => p.2.nonEmergency).length }) _)
    refine rebound.trans (.of_tables rfl rfl rfl rfl fun _ hq' => ?_)
    simp only [State.modLink_mig] at hq'
    rw [frame] at hq'
    simp [hq] at hq'

theorem keeps_batchStepEffect (s : State) : Keeps s (batchStepEffect s) := by
  unfold batchStepEffect
  split
  · next o rest hq _ =>
    split
    · exact (steady_endOrder _ s).keeps
    · exact keeps_formBatch _ hq fun p hp => List.mem_of_mem_filter ((takeSessions_sublist _ _ _).subset hp)
  · exact .refl s

theorem steady_loseFrom (src : Source) (x : Session) (s : State) : Steady s (loseFrom src x s) := by
  unfold loseFrom
  split
  · exact steady_modLink _ _ s
  · exact steady_modStranded _ s

theorem steady_acceptOne (b : Batch) (n : Nat) (s : State) : Steady s (acceptOne b n s) := by
  have cut := steady_bindingCutOf n s
  simp only [acceptOne]
  split
  · exact cut
  · next x hx =>
    have bound := steady_rewrite (y := { x with binding := .bound b.dest }) hx rfl
    exact cut.trans (((bound.trans (steady_loseFrom _ x _)).trans (steady_releaseSlot _ x _)).trans
      (steady_modLink _ _ _))

theorem steady_addMoved (k : Nat) (s : State) : Steady s (addMoved k s) := by
  unfold addMoved
  split
  · exact .refl s
  · next o rest hq => exact steady_setQueue_cons hq _

theorem steady_acceptBatch (b : Batch) (s : State) : Steady s (acceptBatch b s) :=
  ((Steady.foldl (fun s n => steady_acceptOne b n s) b.sessions s).trans (steady_addMoved _ _)).trans
    (steady_setBatch fun _ => rfl)

theorem steady_silenceMigration (s : State) : Steady s (silenceMigration s) := by
  have abandoned : Steady s (match s.mig.batch with
      | none => s
      | some b => (returnBatch b s).raise (abandonNotice b .silence b.sessions.length)) := by
    split
    · exact .refl s
    · exact (steady_returnBatch _ s).trans (steady_raise _ _)
  simp only [silenceMigration]
  exact (abandoned.trans (.foldl (fun s o => steady_raise _ s) _ _)).trans (steady_setQueue fun _ _ => rfl)

/-! ### Links (Chapter 6) -/

theorem steady_loseDestination (l : LinkId) (before after : LinkState) (s : State) :
    Steady s (loseDestination l before after s) := by
  unfold loseDestination
  split
  · exact .refl s
  · split
    · exact steady_abandonBatch _ _ s
    · exact .refl s

theorem steady_raiseForState (l : LinkId) (before after : LinkState) (s : State) :
    Steady s (raiseForState l before after s) := by
  have rescue : Steady s (if 0 < s.sess.stranded then raiseOrder .rescue .all .rescue s else s) := by
    split
    · exact steady_raiseOrder _ _ _ s
    · exact .refl s
  unfold raiseForState
  split
  iterate 7 exact steady_raiseOrder _ _ _ s
  iterate 2 exact rescue
  exact .refl s

theorem steady_changeState (l : LinkId) (after : LinkState) (cause : LinkCause) (s : State) :
    Steady s (changeState l after cause s) :=
  (steady_modLink l _ s).trans ((steady_raise _ _).trans
    ((steady_loseDestination l _ after _).trans (steady_raiseForState l _ after _)))

theorem steady_takeAction (l : LinkId) (a : LinkAction) (s : State) : Steady s (takeAction l a s) := by
  unfold takeAction
  split
  · exact steady_changeState l _ _ s
  · exact .refl s
  · exact (steady_modLink l _ s).trans (steady_changeState l _ _ _)
  · exact (steady_modLink l _ s).trans (steady_changeState l _ _ _)
  · exact .refl s

theorem steady_takeReport (l : LinkId) (i : Indication) (quality : Nat) (s : State) :
    Steady s (takeReport l i quality s) := by
  have stored := steady_modLink l (fun k => { k with quality := quality }) s
  simp only [takeReport]
  split
  · exact stored.trans (steady_changeState l _ _ _)
  · exact stored.trans (steady_modLink l _ _)

theorem steady_reconcile (l : LinkId) (outside : Bool) (s : State) : Steady s (reconcile l outside s) := by
  have zeroed := steady_modLink l (fun k => { k with accumulator := 0 }) s
  simp only [reconcile]
  split
  · exact zeroed
  · split
    · exact zeroed.trans (steady_modLink l _ _)
    · split
      · exact zeroed.trans ((steady_modLink l _ _).trans (steady_changeState l _ _ _))
      · exact zeroed.trans (steady_modLink l _ _)

/-! ### Epochs and zones (Chapters 1 and 8) -/

theorem steady_movePlanUse (p q : PlanId) (k : Nat) (s : State) : Steady s (movePlanUse p q k s) := by
  unfold movePlanUse
  split
  · exact .refl s
  · exact (steady_modPlanUse _ _ s).trans (steady_modPlanUse _ _ _)

theorem steady_applyRevision (r : Revision) (s : State) : Steady s (applyRevision r s).1 := by
  cases r with
  | cell i new old => exact .of_same
  | partner i plan a old =>
    cases hp : s.par i with
    | none => rw [applyRevision_partner_absent hp]; exact .refl s
    | some p =>
      rw [applyRevision_partner hp]
      exact (steady_setPar (q := { p with plan := plan, adjustment := a }) fun _ => ⟨p, hp, rfl, rfl, rfl, rfl⟩).trans
        (steady_movePlanUse _ _ _ _)

theorem steady_applyRevisions (rs : List Revision) (s : State) : Steady s (applyRevisions rs s).1 := by
  induction rs generalizing s with
  | nil => exact .refl s
  | cons r rs ih => exact (steady_applyRevision r s).trans (ih _)

theorem steady_openEpoch (z : ZoneClass) (s : State) : Steady s (openEpoch z s) := by
  have advanced : Steady s (advanceEpoch z s) := .of_same
  exact (advanced.trans (steady_applyRevisions _ _)).trans .of_same

theorem steady_zoneOrders (s : State) : Steady s (zoneOrders s) := by
  refine Steady.foldl (fun s l => ?_) allLinks s
  unfold zoneOrder
  split
  · exact steady_raiseOrder _ _ _ s
  · exact .refl s

theorem steady_crossing (target : Option ZoneId) (confirmed : Bool) (s : State) :
    Steady s (crossing target confirmed s) := by
  have crossed : Steady s (crossZone target confirmed s) :=
    steady_modZone _ s fun z => by dsimp only; split <;> exact ⟨rfl, rfl⟩
  exact ((crossed.trans (steady_openEpoch _ _)).trans (steady_zoneOrders _)).trans (steady_tellZone _ _)

theorem steady_clearCandidate (s : State) : Steady s (s.modZone ZoneTracker.clearCandidate) :=
  steady_modZone _ s

theorem steady_placeAgain (s : State) : Steady s (placeAgain s) :=
  (steady_modZone _ s).trans (steady_tellZone _ _)

theorem steady_confirm (z : ZoneId) (s : State) : Steady s (confirm z s) := by
  unfold confirm
  split
  · exact steady_placeAgain s
  · exact steady_crossing _ _ s

theorem steady_judgeCandidate (c : Candidate) (unconfirmed : FixOutcome) (s : State) :
    Steady s (judgeCandidate c unconfirmed s).2 := by
  unfold judgeCandidate
  split
  · exact .refl s
  · split
    · exact .refl s
    · split
      · exact steady_placeAgain s
      · split
        · exact steady_modZone (fun z => { z with deferred := true }) s
        · exact steady_crossing _ _ s

theorem steady_takeFix (zone : Nat) (s : State) : Steady s (takeFix zone s).2 := by
  unfold takeFix
  split
  · exact steady_clearCandidate s
  · next z _ =>
    have fixed : Steady s (s.modZone fun t => { t with lastFix := some s.now }) :=
      steady_modZone _ s
    simp only [validFix]
    split
    · exact fixed.trans (steady_clearCandidate _)
    · exact (fixed.trans (steady_modZone _ _)).trans (steady_judgeCandidate _ _ _)

theorem steady_staleExpiryEffect (s : State) : Steady s (staleExpiryEffect s) := by
  have taken : Steady s (s.modZone fun z => { z with expiryHeld := false }) :=
    steady_modZone _ s
  unfold staleExpiryEffect
  split
  · exact .refl s
  · dsimp only
    split
    · exact taken.trans (steady_crossing _ _ _)
    · exact taken

theorem steady_releaseEffect (s : State) : Steady s (releaseEffect s) := by
  have taken : Steady s (s.modZone fun z => { z with releaseDue := false }) :=
    steady_modZone _ s
  have cleared := taken.trans (steady_modZone (fun z => { z with deferred := false }) _)
  unfold releaseEffect
  split
  · exact .refl s
  · dsimp only
    split
    · exact taken
    · split
      · exact cleared
      · exact cleared.trans (steady_confirm _ _)

theorem steady_cutVisitEffect (s : State) : Steady s (cutVisitEffect s) := by
  unfold cutVisitEffect
  split
  · exact .refl s
  · next n _ =>
    have cut := steady_epochCutOf n s
    dsimp only
    split
    · exact cut.trans .of_same
    · exact cut.trans .of_same

end Sys2Proof.Machine
end

section
/-! Chapter 2, seventh part: attachment, retirement, opening, silence and reset keep the books and the lists. -/

namespace Sys2Proof.Machine

/-! ### Contexts attached (R27 to R29) -/

theorem context_eq_none_of_absentWay {s : State} {identity h : Nat} (hh : s.absentWay identity = some h) :
    s.ctx h = none :=
  Option.isNone_iff_eq_none.1 (List.find?_some (p := fun h => (s.ctx h).isNone) hh)

theorem steady_issueAsk (h amount : Nat) (s : State) : Steady s (issueAsk h amount s) := by
  unfold issueAsk
  split
  · exact .refl s
  · next c hc =>
    exact (steady_setCtx (d := { c with
      ask := some ⟨nextAsk c.lastAsk, deadlineAfter s.now (s.settings.askTimeout * 1000)⟩
      lastAsk := nextAsk c.lastAsk }) hc rfl rfl rfl rfl id).trans (steady_raise _ _)

/-- R28: while the part is not silent a context may be ATTACHED, with the sessions it lists. -/
theorem listed_attach {s t : State} {h : Nat} {ns : List Nat} (hs : Listed s) (silent : t.silent = false)
    (wc : Table.wf t.subs.contexts = true) (hr : t.sess.records = s.sess.records)
    (other : ∀ j, j ≠ h → t.listing j = s.listing j) (own : t.listing h = some (.attached, ns))
    (before : s.listing h = none ∧ ns = [] ∨ ∃ pr, s.listing h = some (pr, ns)) : Listed t := by
  obtain ⟨⟨-, wr, lists, opened⟩, -⟩ := (listed_iff s).1 hs
  have owner : ∀ n, t.owner n = s.owner n := fun n => by simp only [State.owner, State.ses, hr]
  refine (listed_iff t).2 ⟨⟨wc, hr ▸ wr, fun j pr l hl => ?_, fun n j ho => ?_⟩, quiet_of_not_silent silent⟩
  · simp only [owner]
    by_cases hj : j = h
    · subst hj
      rw [own] at hl
      cases hl
      rcases before with ⟨-, rfl⟩ | ⟨pr, hb⟩
      · exact ⟨List.nodup_nil, Nat.zero_le _, nofun, nofun⟩
      · obtain ⟨nodup, short, -, mine⟩ := lists j pr _ hb
        exact ⟨nodup, short, nofun, mine⟩
    · rw [other j hj] at hl
      exact lists j pr l hl
  · rw [owner] at ho
    obtain ⟨pr, l, hl, hm⟩ := opened n j ho
    by_cases hj : j = h
    · subst hj
      rcases before with ⟨hb, -⟩ | ⟨pr', hb⟩
      · rw [hl] at hb; cases hb
      · rw [hl] at hb
        cases hb
        exact ⟨.attached, _, own, hm⟩
    · exact ⟨pr, l, (other j hj).trans hl, hm⟩

theorem keeps_createContext {h identity i : Nat} {p : Partner} (ref : BitVec 32) {s : State} (hs : s.silent = false)
    (hh : s.ctx h = none) (hp : Table.wf s.tariff.partners = true → s.par i = some p) :
    Keeps s (createContext h identity i p ref s) := by
  have created : Keeps s ((s.setCtx h (newContext identity i ref s.now)).setPar i { p with present := p.present + 1 }) := by
    refine ⟨fun hb => ?_, fun hl => ?_⟩
    · exact books_create hh (hp hb.2.1) rfl rfl ⟨rfl, rfl, Nat.zero_le _, Nat.zero_le _⟩ hb
    · refine listed_attach (h := h) (ns := []) hl hs (Table.wf_set _ _ _ hl.1) rfl (fun j hj => ?_) ?_ (.inl ⟨?_, rfl⟩)
      · exact (listing_setCtx s h _ j).trans (if_neg hj)
      · exact (listing_setCtx s h _ h).trans (if_pos rfl)
      · simp [State.listing, hh]
  simp only [createContext]
  split
  · exact created.trans (steady_issueAsk _ _ _).keeps
  · exact created

theorem keeps_attachNew (identity : Nat) (ref : BitVec 32) {s : State} (hs : s.silent = false) :
    Keeps s (attachNew identity ref s).state := by
  unfold attachNew
  split
  · exact .refl s
  · split
    · exact .refl s
    · next i p hp =>
      split
      · exact .refl s
      · split
        · exact .refl s
        · split
          · exact .refl s
          · split
            · exact .refl s
            · next h hh =>
              exact keeps_createContext ref hs (context_eq_none_of_absentWay hh) fun hw => par_of_partnerByCode hw hp

theorem keeps_attachAgain (identity : Nat) {h : Nat} {c : Context} (ref : BitVec 32) {s : State}
    (hs : s.silent = false) (hc : s.ctx h = some c) : Keeps s (attachAgain identity h c ref s).state := by
  unfold attachAgain
  split
  · exact .refl s
  · refine ⟨books_setCtx hc rfl rfl id, fun hl => ?_⟩
    refine listed_attach (h := h) (ns := c.sessions) hl hs (Table.wf_set _ _ _ hl.1) rfl (fun j hj => ?_) ?_ (.inr ⟨c.presence, ?_⟩)
    · exact (listing_setCtx s h _ j).trans (if_neg hj)
    · exact (listing_setCtx s h _ h).trans (if_pos rfl)
    · simp [State.listing, hc]

theorem keeps_attachAnswer (identity : Nat) (ref : BitVec 32) (who : Sender) (s : State) :
    Keeps s (attachAnswer identity ref who s).state := by
  unfold attachAnswer
  split
  · exact .refl s
  · next hs =>
    have hs := Bool.eq_false_iff.2 hs
    split
    · exact .refl s
    · split
      · exact keeps_attachNew identity ref hs
      · next h _ =>
        split
        · exact keeps_attachNew identity ref hs
        · next c hc =>
          split
          · exact .refl s
          · exact keeps_attachAgain identity ref hs hc

theorem ctx_of_slot {s : State} {h : Nat} {c : Context} (hc : s.slot h = some c) : s.ctx h = some c := by
  unfold State.slot at hc
  split at hc
  · exact hc
  · cases hc

theorem keeps_detachAnswer (h : Nat) (who : Sender) (s : State) : Keeps s (detachAnswer h who s).state := by
  unfold detachAnswer
  split
  · exact .refl s
  · next c hc =>
    split
    · exact .refl s
    · exact keeps_dropContext .detach (ctx_of_slot hc)

/-! ### Contexts retired (R34 to R36) -/

/-- R23: a context without sessions may leave the table. -/
theorem listed_freeSlot {s t : State} {k : Nat} {pr : Presence} (hs : Listed s) (hk : s.listing k = some (pr, []))
    (hc : t.subs.contexts = Table.erase s.subs.contexts k) (hr : t.sess.records = s.sess.records)
    (hz : t.zone = s.zone) (hm : t.mig = s.mig) : Listed t := by
  obtain ⟨⟨wc, wr, lists, opened⟩, quiet⟩ := (listed_iff s).1 hs
  have owner : ∀ n, t.owner n = s.owner n := fun n => by simp only [State.owner, State.ses, hr]
  have listing : ∀ j, t.listing j = if j = k then none else s.listing j := fun j => by
    simp only [State.listing, State.ctx, hc, Table.get_erase]
    split <;> rfl
  have kept {j : Nat} {p : Presence × List Nat} (hl : t.listing j = some p) : s.listing j = some p := by
    rw [listing] at hl
    split at hl
    · cases hl
    · exact hl
  have wt : Table.wf t.subs.contexts = true := hc ▸ Table.wf_erase _ _ wc
  refine (listed_iff t).2 ⟨⟨wt, hr ▸ wr, fun j pr' ns hl => ?_, fun n j ho => ?_⟩, (quiet_iff wt).2 fun hsil => ?_⟩
  · simpa only [owner] using lists j pr' ns (kept hl)
  · rw [owner] at ho
    obtain ⟨pr', ns, hl, hn⟩ := opened n j ho
    have hj : j ≠ k := fun e => by
      rw [e, hk] at hl
      cases hl
      cases hn
    exact ⟨pr', ns, by rw [listing, if_neg hj, hl], hn⟩
  · rw [State.silent, hz] at hsil
    obtain ⟨dormant, hq, hb⟩ := (quiet_iff wc).1 quiet hsil
    exact ⟨fun j pr' ns hl => dormant j pr' ns (kept hl), by rw [hm]; exact hq, by rw [hm]; exact hb⟩

theorem steady_raiseRetirement (h : Nat) (c : Context) (p : Partner) (s : State) :
    Steady s (raiseRetirement h c p s) := by
  have cancelled : Steady s (match c.ask with
      | none => s
      | some a => s.raise (.askCancel h c.identity a.number)) := by
    split
    · exact .refl s
    · exact steady_raise _ s
  simp only [raiseRetirement]
  split
  · exact cancelled.trans (steady_raise _ _)
  · exact cancelled

@[simp] theorem raiseRetirement_ctx (h : Nat) (c : Context) (p : Partner) (s : State) (k : Nat) :
    (raiseRetirement h c p s).ctx k = s.ctx k := by
  simp only [raiseRetirement]
  split <;> split <;> rfl

@[simp] theorem raiseRetirement_par (h : Nat) (c : Context) (p : Partner) (s : State) (i : Nat) :
    (raiseRetirement h c p s).par i = s.par i := by
  simp only [raiseRetirement]
  split <;> split <;> rfl

/-- R36 steps 1, 4 and 5, for a context that has its partner. -/
theorem foldAndFree_eq {s : State} {h : Nat} {c : Context} {p : Partner} (hc : s.ctx h = some c)
    (hp : s.par c.partner = some p) :
    foldAndFree h s = (s.setPar c.partner { p.fold c with present := p.present - 1 }).freeSlot h := by
  simp only [foldAndFree, hc, State.modPar, hp]

/-- R36: a context without sessions is retired. -/
theorem keeps_retireContext {s : State} {h : Nat} {c : Context} (hc : s.ctx h = some c)
    (hl : Listed s → c.sessions = []) : Keeps s (retireContext h s) := by
  have empty (hs : Listed s) : s.listing h = some (c.presence, []) := by simp [State.listing, hc, hl hs]
  cases hp : s.par c.partner with
  | none =>
    simp only [retireContext, hc, hp]
    refine ⟨fun hs => ?_, fun hs => listed_freeSlot hs (empty hs) rfl rfl rfl rfl⟩
    have there := (((books_iff s).1 hs).2.2.1 h c hc).2
    simp [hp] at there
  | some p =>
    simp only [retireContext, hc, hp]
    have told := steady_raiseRetirement h c p s
    rw [foldAndFree_eq (c := c) (p := p) ((raiseRetirement_ctx ..).trans hc) ((raiseRetirement_par ..).trans hp)]
    refine ⟨fun hs => ?_, fun hs => ?_⟩
    · exact books_fold ((raiseRetirement_ctx ..).trans hc) ((raiseRetirement_par ..).trans hp) (told.books hs)
    · exact listed_freeSlot (told.keeps.listed hs) ((told.listing h).trans (empty hs)) rfl rfl rfl rfl

end Sys2Proof.Machine
end

section
/-! Chapter 2, eighth part: grants, the pass, opening a session, silence and reset keep the books and the lists. -/

namespace Sys2Proof.Machine

/-! ### Grants (R88 to R91) -/

theorem steady_setService (v : Service) (ns : List Nat) (s : State) : Steady s (setService v ns s) :=
  (settles_setService (k := 0) (own := ns) v (fun _ => id) s).steady

/-- R91: the granted credit stops at its ceiling. -/
theorem steady_addGrant (h amount : Nat) (s : State) : Steady s (addGrant h amount s) := by
  unfold addGrant
  split
  · exact .refl s
  · next c hc =>
    have granted (credit : CreditState) :
        Steady s (s.setCtx h { c with granted := min (c.granted + amount) moneyMax, credit := credit }) :=
      steady_setCtx hc rfl rfl rfl rfl fun ⟨sub, used, folio, _⟩ => ⟨sub, used, folio, Nat.min_le_right _ _⟩
    dsimp only
    split
    · split
      · exact (granted .funded).trans ((steady_setService _ _ _).trans (steady_raise _ _))
      · exact granted .funded
    · exact granted c.credit

theorem ctx_of_slotOf {s : State} {h identity : Nat} {c : Context} (hc : s.slotOf h identity = some c) :
    s.ctx h = some c :=
  ctx_of_slot (Option.filter_eq_some_iff.1 hc).1

theorem steady_grantAnswer (h identity ask amount : Nat) (who : Sender) (s : State) :
    Steady s (grantAnswer h identity ask amount who s).state := by
  unfold grantAnswer
  split
  · exact .refl s
  · split
    · exact .refl s
    · split
      · exact .refl s
      · split
        · exact .refl s
        · next c hc =>
          have hc := ctx_of_slotOf hc
          split
          · exact .refl s
          · split
            · have cleared : Steady s (s.setCtx h { c with denied := false }) := steady_setCtx hc rfl rfl rfl rfl id
              simp only [grantGive, unsolicitedGrant]
              split
              · exact cleared
              · exact cleared.trans (steady_addGrant _ _ _)
            · split
              · exact .refl s
              · simp only [grantGive, matchedGrant]
                have answered (denied : Bool) : Steady s (s.setCtx h (c.answerAsk denied)) :=
                  steady_setCtx hc rfl rfl rfl rfl id
                split
                · exact answered true
                · exact (answered false).trans (steady_addGrant _ _ _)

/-! ### The subscriber pass (R167) -/

theorem steady_lapseAsk (h : Nat) (s : State) : Steady s (lapseAsk h s) := by
  unfold lapseAsk
  split
  · exact .refl s
  · next c hc =>
    split
    · exact .refl s
    · split
      · exact steady_setCtx hc rfl rfl rfl rfl id
      · exact .refl s

theorem steady_judgeAsk (h : Nat) (s : State) : Steady s (judgeAsk h s) :=
  (settles_judgeAsk (k := h) (own := []) s).steady

theorem keeps_visitSession (n : Nat) (s : State) : Keeps s (visitSession n s) := by
  unfold visitSession
  split
  · exact .refl s
  · split
    · exact keeps_closeSession n _ s
    · split
      · exact keeps_closeSession n _ s
      · exact .refl s

theorem keeps_visitSessions (h : Nat) (s : State) : Keeps s (visitSessions h s) := by
  unfold visitSessions
  split
  · exact .refl s
  · split
    · exact .refl s
    · exact .foldl (fun s n => keeps_visitSession n s) _ s

/-- R23: a DORMANT context lists no session. -/
theorem sessions_of_dormant {s : State} {h : Nat} {c : Context} (hs : Listed s) (hc : s.ctx h = some c)
    (hd : c.presence = .dormant) : c.sessions = [] :=
  (hs.2.2.1 _ (Table.mem_of_get hc)).2.2.1 hd

theorem keeps_visitRetire (h : Nat) (s : State) : Keeps s (visitRetire h s) := by
  unfold visitRetire
  split
  · exact .refl s
  · next c hc =>
    split
    · next due =>
      have dormant : c.presence = .dormant := by
        simp only [State.retireDue, Bool.and_eq_true, beq_iff_eq] at due
        exact due.1.1
      exact keeps_retireContext hc fun hs => sessions_of_dormant hs hc dormant
    · exact .refl s

theorem keeps_passVisitEffect (s : State) : Keeps s (passVisitEffect s) := by
  unfold passVisitEffect
  split
  · have advanced (u : State) : Steady u (u.modTime fun t => { t with passPos := t.passPos + 1 }) := .of_same
    exact ((((steady_lapseAsk _ s).trans (steady_judgeAsk _ _)).keeps.trans (keeps_visitSessions _ _)).trans
      (keeps_visitRetire _ _)).trans (advanced _).keeps
  · exact .refl s

/-! ### SESSION_OPEN (R45 to R48) -/

theorem steady_openRecord (n : Nat) (x : Session) (s : State) : Steady (s.setSes n x) (openRecord n x s) := by
  unfold openRecord
  dsimp only
  split
  · exact steady_modLink _ _ _
  · exact (steady_modStranded _ _).trans (steady_raise _ _)

theorem steady_gainUse (x : Session) (s : State) : Steady s (gainUse x s) := by
  unfold gainUse
  split
  · exact .refl s
  · next i p h =>
    exact (steady_setPar (q := { p with sessions := p.sessions + 1 })
      fun _ => ⟨p, partnerEntry_par h, rfl, rfl, rfl, rfl⟩).trans (steady_modPlanUse _ _ _)

/-- R47, R48: a session opened at a free handle joins the list of its ATTACHED context. -/
theorem keeps_enlist {s u : State} {n h : Nat} {x : Session} {c : Context} (hu : Steady (s.setSes n x) u)
    (hx : x.subscriber = h) (hn : s.ses n = none) (hc : s.ctx h = some c) (ha : c.presence ≠ .dormant)
    (hl : c.sessions.length < sessionsMax) (hs : s.silent = false) : Keeps s (u.enlist h n) := by
  have before : s.listing h = some (c.presence, c.sessions) := by simp [State.listing, hc]
  obtain ⟨d, hd, hpr, hls⟩ := (listing_eq_some_iff ..).1 ((hu.listing h).trans before)
  have enlisted : u.enlist h n = u.setCtx h { d with sessions := d.sessions ++ [n] } := by
    simp only [State.enlist, State.modCtx, hd]
  rw [enlisted]
  refine ⟨fun hb => books_setCtx hd rfl rfl id (hu.books (books_congr rfl rfl hb)), fun hb => ?_⟩
  obtain ⟨⟨wc, wr, lists, opened⟩, -⟩ := (listed_iff s).1 hb
  obtain ⟨nodup, short, -, mine⟩ := lists h _ _ before
  have owner (m : Nat) : u.owner m = if m = n then some h else s.owner m := by
    rw [hu.owner]
    by_cases hm : m = n
    · subst hm; simp [State.owner, hx]
    · simp [State.owner, State.ses_setSes_other _ _ hm, hm]
  have free : s.owner n = none := by simp [State.owner, hn]
  have fresh {m j : Nat} (hm : s.owner m = some j) : m ≠ n := fun e => by rw [e, free] at hm; cases hm
  have listing (j : Nat) : (u.setCtx h { d with sessions := d.sessions ++ [n] }).listing j =
      if j = h then some (c.presence, c.sessions ++ [n]) else s.listing j := by
    rw [listing_setCtx, hu.listing, hpr, hls]
    rfl
  have awake : (u.setCtx h { d with sessions := d.sessions ++ [n] }).silent = false := hu.silent.trans hs
  refine (listed_iff _).2 ⟨⟨Table.wf_set _ _ _ (hu.wf_contexts wc), hu.wf_sessions (Table.wf_set _ _ _ wr),
    fun j pr ns hj => ?_, fun m j hm => ?_⟩, quiet_of_not_silent awake⟩
  · simp only [State.owner, State.ses_setCtx] at owner ⊢
    rw [listing] at hj
    split at hj
    · next e =>
      cases hj
      subst e
      refine ⟨nodup.append (List.nodup_singleton n) ?_, by simpa using hl, fun e => absurd e ha, fun m hm => ?_⟩
      · exact List.disjoint_singleton.2 fun hm => fresh (mine n hm) rfl
      · rcases List.mem_append.1 hm with hm | hm
        · rw [owner, if_neg (fresh (mine m hm))]; exact mine m hm
        · rw [owner, if_pos (List.mem_singleton.1 hm)]
    · obtain ⟨nodup, short, dormant, mine⟩ := lists j pr ns hj
      exact ⟨nodup, short, dormant, fun m hm => by rw [owner, if_neg (fresh (mine m hm))]; exact mine m hm⟩
  · have hm : u.owner m = some j := hm
    rw [owner] at hm
    split at hm
    · next e =>
      cases hm
      subst e
      exact ⟨c.presence, _, (listing h).trans (if_pos rfl), by simp⟩
    · obtain ⟨pr, ns, hj, hmem⟩ := opened m j hm
      by_cases e : j = h
      · subst e
        rw [before] at hj
        cases hj
        exact ⟨c.presence, _, (listing j).trans (if_pos rfl), List.mem_append_left _ hmem⟩
      · exact ⟨pr, ns, (listing j).trans ((if_neg e).trans hj), hmem⟩

/-- R40: the handle a new session takes is free. -/
theorem ses_of_freeSessionHandle {s : State} {n : Nat} (hn : s.freeSessionHandle = some n) : s.ses n = none := by
  have free := (Table.firstFree_spec s.sess.records 0 sessionCount n hn).1
  unfold State.ses
  simpa [Table.has] using free

theorem keeps_sessionOpenAnswer (h : Nat) (cls : Option TrafficClass) (ref : BitVec 32) (who : Sender) (s : State) :
    Keeps s (sessionOpenAnswer h cls ref who s).state := by
  unfold sessionOpenAnswer
  split
  · exact .refl s
  · next hs =>
    have hs := Bool.eq_false_iff.2 hs
    split
    · exact .refl s
    · next k =>
      split
      · exact .refl s
      · next c hc =>
        have hc := ctx_of_slot hc
        split
        · exact .refl s
        · next ha =>
          split
          · exact .refl s
          · next hl =>
            have hl := Nat.lt_of_not_le hl
            split
            · exact .refl s
            · next n hn =>
              have free := ses_of_freeSessionHandle hn
              split
              · simp only [openEmergency]
                exact keeps_enlist (steady_openRecord n _ s) rfl free hc ha hl hs
              · unfold openNonEmergency
                split
                · exact .refl s
                · split
                  · exact .refl s
                  · split
                    · exact .refl s
                    · simp only [openCharged]
                      exact keeps_enlist ((steady_openRecord n _ s).trans (steady_gainUse _ _)) rfl free hc ha hl hs

/-! ### Silence (R157 to R161) -/

theorem keeps_silenceContext (h : Nat) (s : State) : Keeps s (silenceContext h s) := by
  unfold silenceContext
  split
  · exact .refl s
  · next c hc => exact keeps_dropContext .silence hc

/-- R159 step 3: what making a context DORMANT leaves of the lists and of the Migration Engine. -/
theorem silenceContext_lists (h : Nat) {s : State} (hs : Paired s) :
    Paired (silenceContext h s)
      ∧ (∀ j, (silenceContext h s).listing j =
          if j = h then (s.listing h).map fun _ => (.dormant, []) else s.listing j)
      ∧ (silenceContext h s).mig.queue = s.mig.queue
      ∧ (s.mig.batch = none → (silenceContext h s).mig.batch = none) := by
  unfold silenceContext
  split
  · next hc =>
    refine ⟨hs, fun j => ?_, rfl, id⟩
    split
    · next e => subst e; simp [State.listing, hc]
    · rfl
  · next c hc =>
    have drop := settles_dropContext .silence hs hc
    refine ⟨paired_dropContext .silence hs hc, fun j => ?_, drop.queue, drop.batch⟩
    rw [listing_dropContext .silence hs hc]
    simp [State.listing, hc]

/-- R159 step 3: the lists after contexts were made DORMANT, one after another. -/
theorem silenceContexts_lists (hs : List Nat) {s : State} (paired : Paired s) :
    let t := hs.foldl (fun s h => silenceContext h s) s
    Paired t
      ∧ (∀ j, t.listing j = if j ∈ hs then (s.listing j).map fun _ => (.dormant, []) else s.listing j)
      ∧ t.mig.queue = s.mig.queue ∧ (s.mig.batch = none → t.mig.batch = none) := by
  induction hs generalizing s with
  | nil => exact ⟨paired, by simp, rfl, id⟩
  | cons h hs ih =>
    obtain ⟨paired₁, listing₁, queue₁, batch₁⟩ := silenceContext_lists h paired
    obtain ⟨paired₂, listing₂, queue₂, batch₂⟩ := ih paired₁
    refine ⟨paired₂, fun j => ?_, queue₂.trans queue₁, batch₂ ∘ batch₁⟩
    simp only [List.foldl_cons]
    rw [listing₂, listing₁]
    by_cases hj : j = h
    · subst hj
      by_cases hm : j ∈ hs <;> simp [hm, Function.comp_def]
    · simp [hj]

theorem mem_attachedHandles {s : State} {h : Nat} {c : Context} (hc : s.ctx h = some c)
    (ha : c.presence = .attached) : h ∈ s.attachedHandles :=
  List.mem_map.2 ⟨(h, c), List.mem_filter.2 ⟨Table.mem_of_get hc, by simp [ha]⟩, rfl⟩

theorem raiseAll_mig (os : List Order) (f : Order → Notice) (s : State) :
    (os.foldl (fun s o => s.raise (f o)) s).mig = s.mig := by
  induction os generalizing s with
  | nil => rfl
  | cons o os ih => exact ih _

/-- R141: an entry into silence leaves no order and no batch. -/
theorem silenceMigration_mig (s : State) :
    (silenceMigration s).mig.queue = [] ∧ (silenceMigration s).mig.batch = none := by
  refine ⟨rfl, ?_⟩
  simp only [silenceMigration, State.setQueue_batch, raiseAll_mig]
  split
  · assumption
  · rfl

/-- R159: an entry into silence leaves every context DORMANT, and sessions and lists in agreement. -/
theorem listed_enterSilence {s : State} (hs : Paired s) : Listed (enterSilence s) := by
  have steady := steady_silenceMigration s
  obtain ⟨queue, batch⟩ := silenceMigration_mig s
  obtain ⟨paired, listing, queue', batch'⟩ := silenceContexts_lists s.attachedHandles (steady.paired hs)
  have raised := steady_raise
    ((s.attachedHandles.foldl (fun s h => silenceContext h s) (silenceMigration s)).silenceNotice
      (some (s.attachedHandles.length, s.listedSessions s.attachedHandles)))
    (s.attachedHandles.foldl (fun s h => silenceContext h s) (silenceMigration s))
  have after : Paired (enterSilence s) := raised.paired paired
  refine (listed_iff _).2 ⟨after, (quiet_iff after.1).2 fun _ => ⟨fun j pr ns hl => ?_, queue'.trans queue, batch' batch⟩⟩
  have hl : State.listing _ j = some (pr, ns) := (raised.listing j).symm.trans hl
  rw [listing, steady.listing] at hl
  split at hl
  · obtain ⟨-, -, e⟩ := Option.map_eq_some_iff.1 hl
    cases e
    rfl
  · next hj =>
    obtain ⟨c, hc, rfl, -⟩ := (listing_eq_some_iff ..).1 hl
    cases hp : c.presence with
    | attached => exact absurd (mem_attachedHandles hc hp) hj
    | dormant => rfl

theorem keeps_setSilence (line flag : Bool) (s : State) : Keeps s (setSilence line flag s) := by
  let s1 := s.modZone fun z => { z with line := line, flag := flag }
  have moved {t : State} (ht : Steady s1 t) : Books s → Books t := fun hs => ht.books (books_congr rfl rfl hs)
  have lists (hs : Listed s) : Paired s1 := ((listed_iff s).1 hs).1
  have unfolded : setSilence line flag s = if !s.silent && s1.silent then enterSilence s1
    else if s.silent && !s1.silent then s1.raise (s1.silenceNotice none) else s1 := rfl
  rw [unfolded]
  split
  · refine ⟨fun hs => ?_, fun hs => listed_enterSilence (lists hs)⟩
    have dropped := Keeps.foldl (fun s h => keeps_silenceContext h s) s1.attachedHandles (silenceMigration s1)
    exact (steady_raise _ _).books (dropped.books (moved (steady_silenceMigration s1) hs))
  · split
    · next leaves =>
      have awake : s1.silent = false := by
        simp only [Bool.and_eq_true, Bool.not_eq_true'] at leaves
        exact leaves.2
      exact ⟨moved (steady_raise _ _), fun hs => (listed_iff _).2 ⟨(steady_raise _ s1).paired (lists hs),
        quiet_of_not_silent awake⟩⟩
    · next enters leaves =>
      have same : s1.silent = s.silent := by
        revert enters leaves
        cases s.silent <;> cases s1.silent <;> simp
      exact (Steady.of_same (hs := same)).keeps

/-! ### SERVICE_RESET (R182) -/

theorem books_resetContext (h : Nat) {s : State} (hs : Books s) : Books (resetContext h s) := by
  unfold resetContext
  split
  · exact hs
  · next c hc =>
    split
    · exact books_setCtx hc rfl rfl id hs
    · obtain ⟨p, hp⟩ := Option.isSome_iff_exists.1 (((books_iff s).1 hs).2.2.1 h c hc).2
      rw [foldAndFree_eq hc hp]
      exact books_fold hc hp hs

/-- R39: what a service reset leaves of one context: none, or a DORMANT one without sessions. -/
theorem resetContext_lists (h : Nat) (s : State) :
    (∀ j, j ≠ h → (resetContext h s).listing j = s.listing j)
      ∧ ((resetContext h s).listing h = none ∨ (resetContext h s).listing h = some (.dormant, []))
      ∧ (Table.wf s.subs.contexts = true → Table.wf (resetContext h s).subs.contexts = true)
      ∧ (resetContext h s).sess = s.sess ∧ (resetContext h s).mig = s.mig := by
  unfold resetContext
  split
  · next hc => exact ⟨fun _ _ => rfl, .inl (by simp [State.listing, hc]), id, rfl, rfl⟩
  · next c hc =>
    split
    · refine ⟨fun j hj => ?_, .inr ?_, Table.wf_set _ _ _, rfl, rfl⟩
      · exact (listing_setCtx s h _ j).trans (if_neg hj)
      · exact (listing_setCtx s h _ h).trans (if_pos rfl)
    · have freed : (foldAndFree h s).subs.contexts = Table.erase s.subs.contexts h
          ∧ (foldAndFree h s).sess = s.sess ∧ (foldAndFree h s).mig = s.mig := by
        simp only [foldAndFree, hc, State.modPar]
        split <;> exact ⟨rfl, rfl, rfl⟩
      obtain ⟨contexts, sess, mig⟩ := freed
      refine ⟨fun j hj => ?_, .inl ?_, fun hw => contexts ▸ Table.wf_erase _ _ hw, sess, mig⟩
      · simp only [State.listing, State.ctx, contexts, Table.get_erase_other _ hj]
      · simp only [State.listing, State.ctx, contexts, Table.get_erase_same]; rfl

theorem resetContexts_lists (hs : List Nat) (s : State) :
    let t := hs.foldl (fun s h => resetContext h s) s
    (∀ j, t.listing j = s.listing j ∧ j ∉ hs ∨ t.listing j = none ∨ t.listing j = some (.dormant, []))
      ∧ (Table.wf s.subs.contexts = true → Table.wf t.subs.contexts = true) ∧ t.sess = s.sess ∧ t.mig = s.mig := by
  induction hs generalizing s with
  | nil => exact ⟨fun j => .inl ⟨rfl, List.not_mem_nil⟩, id, rfl, rfl⟩
  | cons h hs ih =>
    obtain ⟨other, here, wc, sess, mig⟩ := resetContext_lists h s
    obtain ⟨rest, wc', sess', mig'⟩ := ih (resetContext h s)
    refine ⟨fun j => ?_, wc' ∘ wc, sess'.trans sess, mig'.trans mig⟩
    rcases rest j with ⟨same, out⟩ | gone
    · by_cases hj : j = h
      · subst hj; exact .inr (by rw [List.foldl_cons, same]; exact here)
      · exact .inl ⟨same.trans (other j hj), by simp [hj, out]⟩
    · exact .inr gone

theorem mem_keys_of_ctx {s : State} {h : Nat} {c : Context} (hc : s.ctx h = some c) :
    h ∈ Table.keys s.subs.contexts :=
  List.mem_map.2 ⟨_, Table.mem_of_get hc, rfl⟩

/-- R182: a service reset leaves no session, no order and no batch, and DORMANT contexts without sessions. -/
theorem listed_serviceReset {s : State} (hs : Listed s) : Listed (serviceReset s) := by
  obtain ⟨lists, wc, sess, mig⟩ := resetContexts_lists (Table.keys s.subs.contexts) (dropRevisions (dropSessions s))
  have none_open (n : Nat) : (serviceReset s).owner n = none := by
    simp only [State.owner, State.ses]
    have : (serviceReset s).sess.records = [] := congrArg Sessions.records sess
    rw [this]
    rfl
  have dormant {j : Nat} {pr : Presence} {ns : List Nat} (hl : (serviceReset s).listing j = some (pr, ns)) :
      pr = .dormant ∧ ns = [] := by
    rcases lists j with ⟨same, out⟩ | gone | empty
    · obtain ⟨c, hc, -⟩ := (listing_eq_some_iff ..).1 (same.symm.trans hl)
      exact absurd (mem_keys_of_ctx hc) out
    · cases gone.symm.trans hl
    · cases empty.symm.trans hl; exact ⟨rfl, rfl⟩
  have wt : Table.wf (serviceReset s).subs.contexts = true := wc hs.1
  refine (listed_iff _).2 ⟨⟨wt, ?_, fun j pr ns hl => ?_, fun n j ho => ?_⟩, (quiet_iff wt).2 fun _ => ⟨?_, ?_, ?_⟩⟩
  · exact (congrArg (fun x => Table.wf x.records) sess).trans rfl
  · obtain ⟨-, rfl⟩ := dormant hl
    exact ⟨List.nodup_nil, Nat.zero_le _, fun _ => rfl, nofun⟩
  · rw [none_open] at ho; cases ho
  · exact fun j pr ns hl => (dormant hl).1
  · exact (congrArg Migration.queue mig).trans rfl
  · exact (congrArg Migration.batch mig).trans rfl

theorem books_serviceReset {s : State} (hs : Books s) : Books (serviceReset s) := by
  have dropped : Books (dropRevisions (dropSessions s)) :=
    books_mapPartners (s := s) (fun p => { p with sessions := 0 }) (fun _ => ⟨rfl, rfl, rfl, rfl⟩) rfl rfl hs
  have reset (hs : List Nat) : ∀ u, Books u → Books (hs.foldl (fun s h => resetContext h s) u) := by
    induction hs with
    | nil => exact fun _ => id
    | cons h hs ih => exact fun u hu => ih _ (books_resetContext h hu)
  exact books_congr rfl rfl (reset (Table.keys s.subs.contexts) _ dropped)

theorem keeps_serviceReset (s : State) : Keeps s (serviceReset s) := ⟨books_serviceReset, listed_serviceReset⟩

end Sys2Proof.Machine
end

section
/-! Chapter 2, ninth part: every request, every event and every step keep the books and the lists. -/

namespace Sys2Proof.Machine

/-! ### Power-on (R183) -/

theorem books_powerOn (station : Mac) (line : Bool) (pending : List Instr) :
    Books (State.powerOn station line pending) :=
  ⟨rfl, rfl, nofun, nofun⟩

theorem listed_powerOn (station : Mac) (line : Bool) (pending : List Instr) :
    Listed (State.powerOn station line pending) :=
  ⟨rfl, rfl, nofun, nofun, fun _ => ⟨nofun, rfl, rfl⟩⟩

theorem link_powerOn (station : Mac) (line : Bool) (pending : List Instr) (l : LinkId) :
    (State.powerOn station line pending).link l = Link.powerOn := by
  simp [State.link, State.powerOn]

theorem counts_powerOn (station : Mac) (line : Bool) (pending : List Instr) :
    Counts (State.powerOn station line pending) := by
  refine ⟨rfl, fun l => ?_, fun l => ?_, rfl, nofun⟩
  · simp only [State.linkCounted, link_powerOn]; exact ⟨rfl, rfl, rfl⟩
  · simp only [link_powerOn]; exact ⟨Nat.le_refl 0, fun _ => rfl⟩

theorem planUse_powerOn (station : Mac) (line : Bool) (pending : List Instr) :
    PlanUse (State.powerOn station line pending) := by
  refine ⟨rfl, fun q => ?_⟩
  simp [State.powerOn, Tariff.powerOn]

/-- Settles O57: with no context, session, partner or link in use there is nothing to disagree. -/
theorem invariantsAtPowerOn : Obligations.InvariantsAtPowerOn := by
  refine ⟨⟨books_powerOn _ _ _, listed_powerOn _ _ _, counts_powerOn _ _ _, planUse_powerOn _ _ _⟩, ?_⟩
  rintro line s t ⟨⟩
  exact ⟨books_powerOn _ _ _, listed_powerOn _ _ _, counts_powerOn _ _ _, planUse_powerOn _ _ _⟩

/-! ### The requests of the Tariff Unit and of CRU (Chapters 1 and 5) -/

theorem keeps_partnerSetAnswer (d : PartnerDef) (who : Sender) (s : State) :
    Keeps s (partnerSetAnswer d who s).state := by
  unfold partnerSetAnswer
  split
  · next kind plan _ _ =>
    split
    · exact .refl s
    · split
      · unfold createPartner
        split
        · exact .refl s
        · next i hi =>
          have free : s.par i = none := by
            have := (Table.firstFree_spec _ _ _ _ hi).1
            unfold State.par
            simpa [Table.has] using this
          refine ⟨fun hs => books_congr rfl rfl (books_newPartner free ⟨rfl, rfl, rfl, rfl⟩ hs), fun hs => ?_⟩
          exact hs
      · next i p hp =>
        have immediate : Steady s (s.setPar i (p.setImmediate d kind)) :=
          steady_setPar fun hw => ⟨p, par_of_partnerByCode hw hp, rfl, rfl, rfl, rfl⟩
        have moved : Steady s (applyMove i plan d.adjustment (tariffMove i p plan d.adjustment s)
            (s.setPar i (p.setImmediate d kind))) := by
          refine immediate.trans ?_
          unfold applyMove
          split
          · exact .refl _
          · exact .refl _
          · exact steady_modPar (f := fun p => { p with plan := plan, adjustment := d.adjustment })
              (fun _ => ⟨rfl, rfl, rfl, rfl⟩) i _
          · exact steady_setRevisions _ _
          · exact steady_setRevisions _ _
        unfold redefinePartner
        split
        · exact .refl s
        · dsimp only
          split
          · exact .refl s
          · refine (moved.trans ?_).keeps
            unfold raiseWindow
            split
            · exact steady_raise _ _
            · exact .refl _
  · exact .refl s

theorem keeps_partnerStatusAnswer (code : Nat) (status : Option PartnerStatus) (who : Sender) (s : State) :
    Keeps s (partnerStatusAnswer code status who s).state := by
  unfold partnerStatusAnswer
  split
  · exact .refl s
  · next st =>
    split
    · exact .refl s
    · split
      · exact .refl s
      · next i p hp =>
        split
        · exact .refl s
        · have written : Steady s
              (s.setPar i { p with status := st, barTime := if st = .barred then some s.now else none }) :=
            steady_setPar fun hw => ⟨p, par_of_partnerByCode hw hp, rfl, rfl, rfl, rfl⟩
          exact (written.trans (steady_raise _ _)).keeps

theorem keeps_partnerRemoveAnswer (code : Nat) (who : Sender) (s : State) :
    Keeps s (partnerRemoveAnswer code who s).state := by
  unfold partnerRemoveAnswer
  split
  · exact .refl s
  · split
    · exact .refl s
    · next i p hp =>
      split
      · exact .refl s
      · next unused =>
        have present : p.present = 0 := by omega
        exact ⟨fun hs => books_removePartner (par_of_partnerByCode hs.2.1 hp) present hs, id⟩

theorem keeps_settlementAnswer (code : Nat) (who : Sender) (s : State) :
    Keeps s (settlementAnswer code who s).state := by
  unfold settlementAnswer
  split
  · exact .refl s
  · split
    · exact .refl s
    · split
      · exact .refl s
      · next i p hp =>
        refine ⟨fun hs => ?_, id⟩
        exact books_setClosed (par_of_partnerByCode hs.2.1 hp) rfl rfl ⟨rfl, Nat.zero_le _⟩ hs

theorem keeps_rateSetAnswer (r : RateDef) (who : Sender) (s : State) : Keeps s (rateSetAnswer r who s).state := by
  have written (i : Nat) (c : Cell) : Steady s (s.setCell i c) := .of_same
  unfold rateSetAnswer
  split
  · exact .refl s
  · split
    · exact .refl s
    · split
      · exact (steady_setRevisions _ s).keeps
      · split
        · exact (written _ _).keeps
        · split
          · exact .refl s
          · exact (steady_setRevisions _ s).keeps

theorem keeps_epochCutAnswer (who : Sender) (s : State) : Keeps s (epochCutAnswer who s).state := by
  unfold epochCutAnswer
  split
  · exact .refl s
  · exact (steady_openEpoch _ s).keeps

/-! ### The requests of the other blocks -/

theorem keeps_clientSetAnswer (k : Nat) (action : Option ClientAction) (role : Option Role) (address : Option Mac)
    (who : Sender) (s : State) : Keeps s (clientSetAnswer k action role address who s).state := by
  have written (c : Client) : Steady s (s.setClient k c) := .of_same
  have freed : Steady s (s.freeClient k) := .of_same
  unfold clientSetAnswer
  split
  · split
    · exact .refl s
    · split
      · exact (written _).keeps
      · exact .refl s
      · exact .refl s
      · exact (written _).keeps
      · exact .refl s
      · exact freed.keeps
  · exact .refl s

theorem keeps_zoneSetAnswer (zone : Nat) (cls : Option ZoneClass) (level : Option ServiceLevel) (window : Nat)
    (who : Sender) (s : State) : Keeps s (zoneSetAnswer zone cls level window who s).state := by
  have written (z : ZoneId) (r : Zone) : Steady s (s.setZone z r) := .of_same
  unfold zoneSetAnswer
  split
  · split
    · exact .refl s
    · dsimp only
      split
      · exact (written _ _).keeps
      · split
        · simp only [setEffectiveZone]
          split
          · exact .refl s
          · split
            · exact .refl s
            · exact ((written _ _).trans (steady_tellZone _ _)).keeps
        · split
          · exact .refl s
          · exact (written _ _).keeps
  · exact .refl s

theorem keeps_linkSetAnswer (link : Nat) (action : Option LinkAction) (p : ProfileDef) (who : Sender) (s : State) :
    Keeps s (linkSetAnswer link action p who s).state := by
  unfold linkSetAnswer
  split
  · split
    · exact .refl s
    · split
      · exact .refl s
      · simp only [writeLink]
        exact ((steady_takeAction _ _ s).trans (steady_modLink _ _ _)).keeps
  · exact .refl s

theorem keeps_linkReportAnswer (link : Nat) (indication : Option Indication) (quality : Nat) (who : Sender) (s : State) :
    Keeps s (linkReportAnswer link indication quality who s).state := by
  unfold linkReportAnswer
  split
  · exact (steady_takeReport _ _ _ s).keeps
  · exact .refl s

theorem keeps_reconcileAnswer (link bytes : Nat) (who : Sender) (s : State) :
    Keeps s (reconcileAnswer link bytes who s).state := by
  unfold reconcileAnswer
  split
  · exact .refl s
  · dsimp only
    split
    · exact .refl s
    · exact (steady_reconcile _ _ s).keeps

theorem keeps_moveOrderAnswer (source : Option Source) (dest : Option Dest) (scope : Option Scope) (who : Sender)
    (s : State) : Keeps s (moveOrderAnswer source dest scope who s).state := by
  unfold moveOrderAnswer
  split
  · exact .refl s
  · next hs =>
    have queued (q : List Order) : Steady s (s.setQueue q) := steady_setQueue fun h => absurd h hs
    split
    · split
      · exact .refl s
      · split
        · exact .refl s
        · exact (queued _).keeps
        · exact (queued _).keeps
    · exact .refl s

theorem keeps_batchAnswerAnswer (number : Nat) (verdict : Option Verdict) (who : Sender) (s : State) :
    Keeps s (batchAnswerAnswer number verdict who s).state := by
  unfold batchAnswerAnswer
  split
  · exact .refl s
  · split
    · exact .refl s
    · unfold answerBatch
      split
      · exact (steady_acceptBatch _ s).keeps
      · exact (steady_refuseBatch _ s).keeps

theorem keeps_gateSetAnswer (position : Option Gate) (who : Sender) (s : State) :
    Keeps s (gateSetAnswer position who s).state := by
  unfold gateSetAnswer
  split
  · exact .refl s
  · split
    · exact .refl s
    · exact (Steady.of_same (s := s)).keeps

/-- R37, R38: a pinned flag and the pinned count are rewritten. -/
theorem steady_repin {s : State} {h : Nat} {c : Context} (hc : s.ctx h = some c) (b : Bool) (k : Nat) :
    Steady s ((s.setCtx h { c with pinned := b }).setPinned k) :=
  (steady_setCtx (d := { c with pinned := b }) hc rfl rfl rfl rfl id).trans .of_same

theorem keeps_pinAnswer (h identity : Nat) (who : Sender) (s : State) : Keeps s (pinAnswer h identity who s).state := by
  unfold pinAnswer
  split
  · exact .refl s
  · split
    · exact .refl s
    · next c hc =>
      split
      · exact .refl s
      · split
        · exact .refl s
        · exact (steady_repin (ctx_of_slotOf hc) _ _).keeps

theorem keeps_unpinAnswer (h identity : Nat) (who : Sender) (s : State) :
    Keeps s (unpinAnswer h identity who s).state := by
  unfold unpinAnswer
  split
  · exact .refl s
  · split
    · exact .refl s
    · next c hc =>
      split
      · exact .refl s
      · exact (steady_repin (ctx_of_slotOf hc) _ _).keeps

theorem keeps_retireAnswer (h identity : Nat) (who : Sender) (s : State) :
    Keeps s (retireAnswer h identity who s).state := by
  unfold retireAnswer
  split
  · exact .refl s
  · split
    · exact .refl s
    · next c hc =>
      split
      · exact .refl s
      · split
        · exact .refl s
        · next empty => exact keeps_retireContext (ctx_of_slotOf hc) fun _ => by simpa using empty

theorem keeps_sessionCloseAnswer (n subscriber : Nat) (who : Sender) (s : State) :
    Keeps s (sessionCloseAnswer n subscriber who s).state := by
  unfold sessionCloseAnswer
  split
  · exact .refl s
  · exact keeps_closeSession n .radio s

theorem keeps_silenceSetAnswer (value : Option Bool) (who : Sender) (s : State) :
    Keeps s (silenceSetAnswer value who s).state := by
  unfold silenceSetAnswer
  split
  · exact .refl s
  · split
    · exact .refl s
    · exact keeps_setSilence _ _ s

theorem keeps_usageAnswer (h : Header) (count : Nat) (entries : List UsageEntry) (who : Sender) (s : State) :
    Keeps s (usageAnswer h count entries who s).state := by
  unfold usageAnswer
  split
  · exact .refl s
  · split
    · exact .refl s
    · split
      · exact .refl s
      · exact (steady_resolveEntries entries s).keeps

/-! ### Requests that read (R30, R31, R58, R97 to R99, R120, R142, R162, R181) -/

/-- Whether a handler leaves the state as it finds it. -/
def Handler.reads (f : Handler) : Prop := ∀ who s, (f who s).state = s

theorem reads_lookupAnswer (identity : Nat) : Handler.reads (lookupAnswer identity) := by
  intro who s; unfold lookupAnswer; split <;> rfl

theorem reads_readContextAnswer (ref : Option ContextRef) : Handler.reads (readContextAnswer ref) := by
  intro who s; unfold readContextAnswer; split <;> rfl

theorem reads_readFolioAnswer (ref : Option ContextRef) : Handler.reads (readFolioAnswer ref) := by
  intro who s; unfold readFolioAnswer; split <;> rfl

theorem reads_readSessionAnswer (n : Nat) : Handler.reads (readSessionAnswer n) := by
  intro who s; unfold readSessionAnswer; split <;> rfl

theorem reads_readPartnerAnswer (code : Option Nat) : Handler.reads (readPartnerAnswer code) := by
  intro who s
  unfold readPartnerAnswer
  split
  · rfl
  · split
    · rfl
    · split <;> rfl

theorem reads_readPartnerListAnswer (start : Nat) (settle : Bool) :
    Handler.reads (readPartnerListAnswer start settle) := by
  intro who s; unfold readPartnerListAnswer; split <;> rfl

theorem reads_readLinkAnswer (link : NumberOrAll) : Handler.reads (readLinkAnswer link) := by
  intro who s
  unfold readLinkAnswer
  split
  · rfl
  · split <;> rfl

theorem reads_readZoneAnswer (zone : NumberOrAll) : Handler.reads (readZoneAnswer zone) := by
  intro who s
  unfold readZoneAnswer
  split
  · rfl
  · split <;> rfl

theorem Handler.reads.keeps {f : Handler} (h : f.reads) (who : Sender) (s : State) : Keeps s (f who s).state := by
  rw [h who s]; exact .refl s

/-! ### Requests, events and steps -/

/-- Every owner of a request keeps the books and the lists. -/
theorem keeps_handlerOf {i : Instr} {f : Handler} (hf : handlerOf i = some f) (who : Sender) (s : State) :
    Keeps s (f who s).state := by
  cases i with
  | clientSet h client action role address => cases hf; exact keeps_clientSetAnswer client action role address who s
  | generalSet h flags v => cases hf; exact (Steady.of_same (s := s)).keeps
  | partnerSet h d => cases hf; exact keeps_partnerSetAnswer d who s
  | partnerStatus h code status => cases hf; exact keeps_partnerStatusAnswer code status who s
  | partnerRemove h code => cases hf; exact keeps_partnerRemoveAnswer code who s
  | rateSet h r => cases hf; exact keeps_rateSetAnswer r who s
  | epochCut h => cases hf; exact keeps_epochCutAnswer who s
  | zoneSet h zone cls level window => cases hf; exact keeps_zoneSetAnswer zone cls level window who s
  | linkSet h link action p => cases hf; exact keeps_linkSetAnswer link action p who s
  | gateSet h position => cases hf; exact keeps_gateSetAnswer position who s
  | pin h handle identity => cases hf; exact keeps_pinAnswer handle identity who s
  | unpin h handle identity => cases hf; exact keeps_unpinAnswer handle identity who s
  | retire h handle identity => cases hf; exact keeps_retireAnswer handle identity who s
  | grant h handle identity ask amount => cases hf; exact (steady_grantAnswer handle identity ask amount who s).keeps
  | serviceReset h => cases hf; exact keeps_serviceReset s
  | attach h identity ref => cases hf; exact keeps_attachAnswer identity ref who s
  | detach h handle => cases hf; exact keeps_detachAnswer handle who s
  | lookup h identity => cases hf; exact (reads_lookupAnswer identity).keeps who s
  | sessionOpen h handle cls ref => cases hf; exact keeps_sessionOpenAnswer handle cls ref who s
  | sessionClose h session subscriber => cases hf; exact keeps_sessionCloseAnswer session subscriber who s
  | silenceSet h value => cases hf; exact keeps_silenceSetAnswer value who s
  | usage h count entries => cases hf; exact keeps_usageAnswer h count entries who s
  | linkReport h link indication quality => cases hf; exact keeps_linkReportAnswer link indication quality who s
  | reconcile h link bytes => cases hf; exact keeps_reconcileAnswer link bytes who s
  | moveOrder h source dest scope => cases hf; exact keeps_moveOrderAnswer source dest scope who s
  | batchAnswer h number verdict => cases hf; exact keeps_batchAnswerAnswer number verdict who s
  | fix h zone => cases hf; exact (steady_takeFix zone s).keeps
  | status h => cases hf; exact .refl s
  | readContext h ref => cases hf; exact (reads_readContextAnswer ref).keeps who s
  | readSession h session => cases hf; exact (reads_readSessionAnswer session).keeps who s
  | readFolio h ref => cases hf; exact (reads_readFolioAnswer ref).keeps who s
  | readPartner h code => cases hf; exact (reads_readPartnerAnswer code).keeps who s
  | readPartnerList h start settle => cases hf; exact (reads_readPartnerListAnswer start settle).keeps who s
  | settlement h code => cases hf; exact keeps_settlementAnswer code who s
  | readLink h link => cases hf; exact (reads_readLinkAnswer link).keeps who s
  | readZone h zone => cases hf; exact (reads_readZoneAnswer zone).keeps who s
  | readOrders h => cases hf; exact .refl s
  | _ => cases hf

theorem steady_join (fs : List OutFrame) (s : State) : Steady s (s.join fs) := by
  unfold State.join
  split
  · exact .refl s
  · exact .of_same

theorem steady_flush (s : State) : Steady s s.flush :=
  (steady_join (s.raised.flatMap s.copies) s).trans .of_same

theorem steady_respond (h : Header) (code : Nat) (taken : State) (a : Answer) :
    Steady a.state (respond h code taken a) :=
  (steady_join _ a.state).trans .of_same

/-- R174: the check of a frame binds a client at most. -/
theorem steady_admission {s t : State} {h : Header} {who : Sender} (ha : s.admission h = .from_ who t) : Steady s t := by
  unfold State.admission at ha
  split at ha
  · cases ha
  · split at ha
    · cases ha
    · split at ha
      · cases ha
      · split at ha
        · cases ha; exact .of_same
        · split at ha
          · cases ha; exact .refl s
          · cases ha

theorem keeps_request {f : Handler} (h : Header) (k : Kind) (hf : ∀ who s, Keeps s (f who s).state) (s : State) :
    Keeps s (request h k f s) := by
  unfold request
  split
  · exact .refl s
  · split
    · exact .refl s
    · exact (steady_respond h _ s (refuse .notClient s)).keeps
    · next who s1 ha =>
      have bound := (steady_admission ha).keeps
      split
      · exact bound.trans (steady_respond h _ s (refuse .notPermitted s1)).keeps
      · split
        · exact bound.trans (steady_respond h _ s (refuse .badLength s1)).keeps
        · exact bound.trans ((hf who s1).trans (steady_respond h _ s _).keeps)

theorem keeps_unlisted (h : Header) (code : Nat) (s : State) : Keeps s (unlisted h code s) := by
  unfold unlisted
  split
  · exact .refl s
  · split
    · exact .refl s
    · exact (steady_respond h _ s (refuse .notClient s)).keeps
    · next who s1 ha => exact (steady_admission ha).keeps.trans (steady_respond h _ s (refuse .unknownKind s1)).keeps

theorem keeps_takeFrame (f : Frame) (s : State) : Keeps s (takeFrame f s) := by
  unfold takeFrame
  split
  · exact keeps_unlisted _ _ s
  · split
    · next hf => exact keeps_request _ _ (keeps_handlerOf hf) s
    · exact .refl s

/-- A request command is its frame, handed to the owner of its kind. -/
theorem exec_request {i : Instr} {f : Handler} (hf : handlerOf i = some f) (s : State) :
    ∃ h k, exec i s = .next (request h k f s) := by
  cases i <;> cases hf <;> exact ⟨_, _, rfl⟩

theorem keeps_event {effect : State → State} {s t : State} (he : Keeps s (effect s)) (ht : event effect s = .next t) :
    Keeps s t := by
  cases ht
  exact he.trans (steady_flush _).keeps

theorem steady_arrive (f : Frame) (s : State) : Steady s (arrive f s) := by
  unfold arrive
  split
  · exact .refl s
  · exact .of_same

theorem steady_transmitNext (s : State) : Steady s (transmitNext s) := by
  unfold transmitNext
  split
  · exact .refl s
  · exact .of_same

theorem keeps_lineEffect (level : Bool) (s : State) : Keeps s (lineEffect level s) := by
  unfold lineEffect
  split
  · exact .refl s
  · exact keeps_setSilence _ _ s

theorem steady_passStartEffect (s : State) : Steady s (passStartEffect s) := by
  unfold passStartEffect
  split
  · exact .of_same
  · exact .refl s

theorem keeps_exec {i : Instr} {s t : State} (ht : exec i s = .next t) : Keeps s t := by
  cases hf : handlerOf i with
  | some f =>
    obtain ⟨h, k, he⟩ := exec_request hf s
    rw [he] at ht
    cases ht
    exact keeps_request h k (keeps_handlerOf hf) s
  | none =>
    cases i with
    | frameArrival f => exact keeps_event (steady_arrive f s).keeps ht
    | notClient f => cases ht; exact keeps_takeFrame f s
    | unknownKind f => cases ht; exact keeps_takeFrame f s
    | frameTransmit => exact keeps_event (steady_transmitNext s).keeps ht
    | powerOn line => cases ht; exact ⟨fun _ => books_powerOn _ _ _, fun _ => listed_powerOn _ _ _⟩
    | silenceLineChange level => exact keeps_event (keeps_lineEffect level s) ht
    | passStart => exact keeps_event (steady_passStartEffect s).keeps ht
    | passVisit => exact keeps_event (keeps_passVisitEffect s) ht
    | cutPassVisit => exact keeps_event (steady_cutVisitEffect s).keeps ht
    | batchStep => exact keeps_event (keeps_batchStepEffect s) ht
    | batchTimeout => exact keeps_event (steady_batchTimeoutEffect s).keeps ht
    | staleExpiry => exact keeps_event (steady_staleExpiryEffect s).keeps ht
    | deferralRelease => exact keeps_event (steady_releaseEffect s).keeps ht
    | nresetAsserted => exact keeps_event (effect := assertReset) (Steady.of_same (s := s)).keeps ht
    | _ => cases hf

/-- The part's own event is taken in the state, or with the frame that is taken out of the input queue. -/
theorem steady_ownEvent {s t : State} {c : Instr} (h : s.ownEvent = some (c, t)) : Steady s t := by
  unfold State.ownEvent at h
  split at h
  · cases h
  · split at h
    · cases h; exact .refl s
    · split at h
      · cases h; exact .of_same
      · iterate 7
          split at h
          · cases h; exact .refl s
        cases h

theorem keeps_step {s t : State} (ht : step s = .next t) : Keeps s t := by
  unfold step at ht
  split at ht
  · next c rest _ =>
    have taken : Steady s { s with pending := rest } := .of_same
    exact taken.keeps.trans (keeps_exec ht)
  · split at ht
    · next c s1 h => exact (steady_ownEvent h).keeps.trans (keeps_exec ht)
    · cases ht
      unfold State.idle
      split
      · exact .refl s
      · exact (Steady.of_same (s := s)).keeps

/-- Settles O58: every operation either leaves the accounts of contexts and partners, or moves the same amount in both. -/
theorem stepKeepsBooks : Obligations.StepKeepsBooks := fun _ _ hs ht => (keeps_step ht).books hs

/-- Settles O59: sessions enter and leave the table and a list together, and silence ends with both empty. -/
theorem stepKeepsListed : Obligations.StepKeepsListed := fun _ _ hs ht => (keeps_step ht).listed hs

end Sys2Proof.Machine
end

section
/-! Chapter 2, tenth part: how a request names a context, and the requests that read one, pin one or set the gate. -/

namespace Sys2Proof.Machine

/-! ### The context a request names (R19 to R21) -/

/-- R20: the end of the identities, as the manual writes it. -/
theorem identityEnd_eq : identityEnd = 1000000000000000 := rfl

/-- R19: a handle up to 4,071 names the context at it. -/
theorem slot_eq {s : State} {k : Nat} (hk : k ≤ 4071) : s.slot k = s.ctx k :=
  if_pos (Nat.lt_succ_of_le hk)

/-- R19: a handle above 4,071, or of an absent slot, names no context. -/
theorem slot_eq_none {s : State} {k : Nat} (hk : 4071 < k ∨ s.ctx k = none) : s.slot k = none := by
  unfold State.slot
  split
  · next lt => exact hk.resolve_left (Nat.not_lt.2 (Nat.le_of_lt_succ lt))
  · rfl

theorem slotOf_eq {s : State} {k : Nat} {c : Context} (hk : k ≤ 4071) (hc : s.ctx k = some c) :
    s.slotOf k c.identity = some c := by
  simp [State.slotOf, slot_eq hk, hc]

/-- R19: a handle whose context, if any, holds another identity names no context. -/
theorem slotOf_eq_none {s : State} {k identity : Nat} (hn : ∀ c, k ≤ 4071 → s.ctx k = some c → c.identity ≠ identity) :
    s.slotOf k identity = none := by
  refine Option.filter_eq_none_iff.2 fun c hc => ?_
  unfold State.slot at hc
  split at hc
  · next lt => simpa using hn c (Nat.le_of_lt_succ lt) hc
  · cases hc

/-- R19: the ways of a bucket, way 0 first. -/
theorem waysOf_eq (b : Nat) : waysOf b = (List.range 8).map fun w => b * 8 + w := rfl

theorem mem_waysOf_iff (b k : Nat) : k ∈ waysOf b ↔ k / 8 = b := by
  simp only [waysOf_eq, List.mem_map, List.mem_range]
  exact ⟨fun ⟨w, hw, e⟩ => by omega, fun e => ⟨k % 8, by omega, by omega⟩⟩

/-- R21: an identity that is present is found where it stands, when it stands there alone. -/
theorem findIdentity_eq_some {s : State} {k : Nat} {c : Context} (hc : s.ctx k = some c) (hb : k / 8 = c.identity % 509)
    (hu : ∀ j d, s.ctx j = some d → d.identity = c.identity → j = k) : s.findIdentity c.identity = some k := by
  cases hf : s.findIdentity c.identity with
  | none =>
    have out := List.find?_eq_none.1 hf k ((mem_waysOf_iff _ _).2 hb)
    simp [hc] at out
  | some j =>
    have found := List.find?_some (p := fun h => (s.ctx h).any fun d : Context => d.identity == c.identity) hf
    obtain ⟨d, hd, same⟩ := (Option.any_eq_true _ _).1 found
    rw [hu j d hd (by simpa using same)]

/-- R21: an identity that no context holds is not found. -/
theorem findIdentity_eq_none {s : State} {identity : Nat} (hn : ∀ q ∈ s.subs.contexts, q.2.identity ≠ identity) :
    s.findIdentity identity = none := by
  refine List.find?_eq_none.2 fun j _ found => ?_
  obtain ⟨d, hd, same⟩ := (Option.any_eq_true _ _).1 found
  exact hn _ (Table.mem_of_get hd) (by simpa using same)

/-- R31, R97: a selector that is neither form, or an identity of more than fifteen digits. -/
theorem named_bad {s : State} {ref : Option ContextRef}
    (h : ref = none ∨ ∃ i, ref = some (.byIdentity i) ∧ 1000000000000000 ≤ i) : s.named ref = .bad := by
  obtain rfl | ⟨i, rfl, hi⟩ := h
  · rfl
  · simp [State.named, identityEnd_eq, hi]

/-- R31, R97: a selector that names no present context. -/
theorem named_absent {s : State} {ref : Option ContextRef}
    (h : (∃ j, ref = some (.byHandle j) ∧ (4071 < j ∨ s.ctx j = none))
      ∨ ∃ i, ref = some (.byIdentity i) ∧ i < 1000000000000000 ∧ ∀ q ∈ s.subs.contexts, q.2.identity ≠ i) :
    s.named ref = .absent := by
  obtain ⟨j, rfl, hj⟩ | ⟨i, rfl, hi, hn⟩ := h
  · simp [State.named, slot_eq_none hj]
  · simp [State.named, identityEnd_eq, hi, findIdentity_eq_none hn]

/-- R31, R97: a selector that names the context at a handle. -/
theorem named_found {s : State} {ref : Option ContextRef} {k : Nat} {c : Context} (hc : s.ctx k = some c)
    (h : (ref = some (.byHandle k) ∧ k ≤ 4071)
      ∨ (ref = some (.byIdentity c.identity) ∧ c.identity < 1000000000000000 ∧ k / 8 = c.identity % 509
          ∧ ∀ j d, s.ctx j = some d → d.identity = c.identity → j = k)) : s.named ref = .found k c := by
  obtain ⟨rfl, hk⟩ | ⟨rfl, hi, hb, hu⟩ := h
  · simp [State.named, slot_eq hk, hc]
  · simp [State.named, identityEnd_eq, hi, findIdentity_eq_some hc hb hu, hc]

/-! ### Fields -/

theorem presence_code_eq (p : Presence) : p.code = if p = .attached then 0 else 1 := by cases p <;> rfl

theorem fFlag_eq (b : Bool) : fFlag b = .u8 (if b then 1 else 0) := by cases b <;> rfl

/-- R26, R30: the fields of a context, as the manual lists them. -/
theorem fAttached_eq (k : Nat) (c : Context) :
    fAttached k c = [.u16 k, .u8 (if c.presence = .attached then 0 else 1), .u8 (if c.pinned then 1 else 0),
      .u8 c.partner, .u8 c.credit.code, .u32 c.ref.toNat] := by
  rw [fAttached, presence_code_eq, fFlag_eq]

/-! ### LOOKUP, READ_CONTEXT and READ_FOLIO (R30, R31, R97) -/

/-- R175 step 2: a kind that the sender's role may not send is refused. -/
theorem request_notPermitted {s : State} {h : Header} {k : Kind} {who : Role} {handle : Handler} (hr : s.ready)
    (hh : s.knows h who) (hp : permits k who = false) :
    Host.Outcome.next (request h k handle s) = refused h k .notPermitted s := by
  rw [← respond_refuse hr]
  simp [request, hr.2, admission_of_knows hh, hp]

/-- Table 10-1: only RADIO may send LOOKUP. -/
theorem permits_lookup {r : Role} (hr : r ≠ .radio) : permits .lookup r = false := by
  cases r with
  | radio => exact absurd rfl hr
  | _ => rfl

/-- Settles O31: LOOKUP decides by what the identity names. -/
theorem lookupFindsIdentity : Obligations.LookupFindsIdentity := by
  intro h identity s hr
  refine ⟨fun hh => ?_, fun r hrole hk => request_notPermitted hr hk (permits_lookup hrole)⟩
  have refuses {r : Result} (ha : lookupAnswer identity ⟨h.client, .radio⟩ s = refuse r s) :
      exec (.lookup h identity) s = refused h .lookup r s := request_refuses hr hh rfl ha
  refine ⟨fun hi => refuses ?_, fun hi hn => refuses ?_, fun k c hi hc he hb hu => ?_⟩
  · simp only [lookupAnswer, named_bad (s := s) (.inr ⟨identity, rfl, hi⟩)]
  · simp only [lookupAnswer, named_absent (s := s) (.inr ⟨identity, rfl, hi, hn⟩)]
  · subst he
    rw [← fAttached_eq]
    refine request_answers hr hh rfl ?_ hr.1 hr.2 rfl
    simp only [lookupAnswer, named_found hc (.inr ⟨rfl, hi, hb, hu⟩)]

/-- Settles O32: both reads decide by what the selector names, and answer from the context found. -/
theorem contextReads : Obligations.ContextReads := by
  intro h h' ref r s hr hh hh'
  have permitted : permits .readContext r = true ∧ permits .readFolio r = true := ⟨rfl, rfl⟩
  have refuses {result : Result} (ha : readContextAnswer ref ⟨h.client, r⟩ s = refuse result s)
      (hb : readFolioAnswer ref ⟨h'.client, r⟩ s = refuse result s) :
      exec (.readContext h ref) s = refused h .readContext result s
        ∧ exec (.readFolio h' ref) s = refused h' .readFolio result s :=
    ⟨request_refuses hr hh permitted.1 ha, request_refuses hr hh' permitted.2 hb⟩
  refine ⟨fun bad => refuses ?_ ?_, fun absent => refuses ?_ ?_, fun k c p hc hp found => ⟨?_, ?_⟩⟩
  · simp only [readContextAnswer, named_bad bad]
  · simp only [readFolioAnswer, named_bad bad]
  · simp only [readContextAnswer, named_absent absent]
  · simp only [readFolioAnswer, named_absent absent]
  · refine request_answers hr hh permitted.1 ?_ hr.1 hr.2 rfl
    simp only [readContextAnswer, named_found hc found, State.codeOfContext, hp, fOpt64, fAsk, fFlag_eq,
      presence_code_eq, Context.remaining, Option.map_some, Option.getD_some, List.append_assoc, List.cons_append,
      List.nil_append]
  · refine request_answers hr hh' permitted.2 ?_ hr.1 hr.2 rfl
    simp only [readFolioAnswer, named_found hc found, State.codeOfContext, hp, fSub, Context.remaining, Option.map_some,
      Option.getD_some, List.cons_append, List.nil_append]
    rfl

/-! ### GATE_SET, PIN and UNPIN (R25, R37, R38) -/

theorem pinAnswer_badValue {k identity : Nat} (who : Sender) (s : State) (hi : 1000000000000000 ≤ identity) :
    pinAnswer k identity who s = refuse .badValue s ∧ unpinAnswer k identity who s = refuse .badValue s :=
  ⟨if_pos hi, if_pos hi⟩

theorem pinAnswer_unknown {k identity : Nat} (who : Sender) {s : State} (hi : identity < 1000000000000000)
    (hn : s.slotOf k identity = none) :
    pinAnswer k identity who s = refuse .unknownHandle s ∧ unpinAnswer k identity who s = refuse .unknownHandle s := by
  simp only [pinAnswer, unpinAnswer, identityEnd_eq, if_neg (Nat.not_le.2 hi), hn, and_self]

/-- R37: PIN of a context that is there. -/
theorem pinAnswer_eq {k identity : Nat} {c : Context} (who : Sender) {s : State} (hi : identity < 1000000000000000)
    (hc : s.slotOf k identity = some c) :
    pinAnswer k identity who s = if c.pinned then ⟨.already, [.u8 s.subs.pinned], s⟩
      else if 64 ≤ s.subs.pinned then refuse .pinLimit s
      else ⟨.ok, [.u8 (s.subs.pinned + 1)], (s.setCtx k { c with pinned := true }).setPinned (s.subs.pinned + 1)⟩ := by
  simp only [pinAnswer, identityEnd_eq, if_neg (Nat.not_le.2 hi), hc]
  rfl

/-- R38: UNPIN of a context that is there. -/
theorem unpinAnswer_eq {k identity : Nat} {c : Context} (who : Sender) {s : State} (hi : identity < 1000000000000000)
    (hc : s.slotOf k identity = some c) :
    unpinAnswer k identity who s = if c.pinned then
      ⟨.ok, [.u8 (s.subs.pinned - 1)], (s.setCtx k { c with pinned := false }).setPinned (s.subs.pinned - 1)⟩
      else ⟨.already, [.u8 s.subs.pinned], s⟩ := by
  simp only [unpinAnswer, identityEnd_eq, if_neg (Nat.not_le.2 hi), hc]
  cases c.pinned <;> rfl

/-- Settles O27: each request decides in the order of its rule. -/
theorem gateAndPins : Obligations.GateAndPins := by
  refine ⟨fun h g s hr hh => ⟨fun hg => ?_, fun hg => ?_, request_refuses hr hh rfl rfl⟩,
    fun h h' k identity s hr hh hh' => ⟨fun hi => ?_, fun hi hn => ?_, fun c hi hk hc he => ?_⟩⟩
  · exact request_answers hr hh rfl (if_neg hg) hr.1 hr.2 rfl
  · exact request_answers hr hh rfl (if_pos hg) hr.1 hr.2 rfl
  · exact ⟨request_refuses hr hh rfl (pinAnswer_badValue _ s hi).1, request_refuses hr hh' rfl (pinAnswer_badValue _ s hi).2⟩
  · have unknown (who : Sender) := pinAnswer_unknown who hi (slotOf_eq_none hn)
    exact ⟨request_refuses hr hh rfl (unknown _).1, request_refuses hr hh' rfl (unknown _).2⟩
  · have there : s.slotOf k identity = some c := he ▸ slotOf_eq hk hc
    have pin := pinAnswer_eq ⟨h.client, .purser⟩ hi there
    have unpin := unpinAnswer_eq ⟨h'.client, .purser⟩ hi there
    refine ⟨fun hp => ⟨?_, ?_⟩, fun hp => ⟨?_, fun full => ?_, fun room => ?_⟩⟩
    · exact request_answers hr hh rfl (pin.trans (if_pos hp)) hr.1 hr.2 rfl
    · exact request_answers hr hh' rfl (unpin.trans (if_pos hp)) hr.1 hr.2 rfl
    · exact request_answers hr hh' rfl (unpin.trans (if_neg (by simp [hp]))) hr.1 hr.2 rfl
    · exact request_refuses hr hh rfl (pin.trans ((if_neg (by simp [hp])).trans (if_pos full)))
    · exact request_answers hr hh rfl (pin.trans ((if_neg (by simp [hp])).trans (if_neg (Nat.not_le.2 room)))) hr.1 hr.2 rfl

end Sys2Proof.Machine
end

section
/-! Chapter 2, eleventh part: the requests that create, find, detach and retire a context. -/

namespace Sys2Proof.Machine

/-- R174 to R178: a request whose owner gives an answer that raised notices, all of them addressed to GATEWAY. -/
theorem request_asks {s t : State} {h : Header} {k : Kind} {who : Role} {handle : Handler} {r : Result}
    {body : List Field} {ns : List Notice} (hr : s.ready) (hh : s.hears h k who) (hp : permits k who = true)
    (ha : handle ⟨h.client, who⟩ s = ⟨r, body, { t with raised := ns }⟩) (hq : t.raised = [])
    (hn : t.port.inReset = false) (ht : t.time.clock = s.time.clock) (hg : ∀ n ∈ ns, n.toGateway = true) :
    Host.Outcome.next (request h k handle s) = answered h k r body s t [] ns := by
  have before : ns.filter (! ·.toGateway) = [] := List.filter_eq_nil_iff.2 fun n hn => by simp [hg n hn]
  have after : ns.filter (·.toGateway) = ns := List.filter_eq_self.2 fun n hn => hg n hn
  rw [request_raises hr hh hp ha hq hn ht, before, after]

/-! ### RETIRE (R35, R36) -/

/-- R36 steps 2 and 3: a retirement raises its farewell. -/
theorem raiseRetirement_eq (k : Nat) (c : Context) (p : Partner) (s : State) :
    raiseRetirement k c p s = { s with raised := s.raised ++ farewell k c p } := by
  have returned : creditReturned c p = returnedCredit c p := rfl
  simp only [raiseRetirement, farewell, returned]
  cases c.ask <;> split <;> simp [State.raise]

/-- R94: a farewell is addressed to GATEWAY. -/
theorem toGateway_farewell (k : Nat) (c : Context) (p : Partner) : ∀ n ∈ farewell k c p, n.toGateway = true := by
  intro n hn
  rcases List.mem_append.1 hn with hn | hn
  · cases hq : c.ask with
    | none => simp [hq] at hn
    | some q =>
      simp only [hq, List.mem_singleton] at hn
      rw [hn]; rfl
  · simp only [List.mem_ite_nil_right, List.mem_singleton] at hn
    rw [hn.2]; rfl

/-- R36: what retiring a context does. -/
theorem retireContext_eq {s : State} {k : Nat} {c : Context} {p : Partner} (hc : s.ctx k = some c)
    (hp : s.par c.partner = some p) :
    retireContext k s = { s.retired k c p with raised := s.raised ++ farewell k c p } := by
  simp only [retireContext, hc, hp]
  rw [foldAndFree_eq (c := c) (p := p) ((raiseRetirement_ctx ..).trans hc) ((raiseRetirement_par ..).trans hp),
    raiseRetirement_eq]
  rfl

theorem retireAnswer_eq {k identity : Nat} {c : Context} (who : Sender) {s : State} (hi : identity < 1000000000000000)
    (hc : s.slotOf k identity = some c) :
    retireAnswer k identity who s = if c.pinned then refuse .pinned s
      else if !c.sessions.isEmpty then refuse .sessionsOpen s
      else ⟨.ok, [.u64 c.folio, .u64 (((s.par c.partner).map (creditReturned c)).getD 0)], retireContext k s⟩ := by
  simp only [retireAnswer, identityEnd_eq, if_neg (Nat.not_le.2 hi), hc]

/-- Settles O28: RETIRE decides in the order of R35, and a retirement is that of R36. -/
theorem retireFoldsContext : Obligations.RetireFoldsContext := by
  intro h k identity s hr hh
  have refuses {r : Result} (ha : retireAnswer k identity ⟨h.client, .purser⟩ s = refuse r s) :
      exec (.retire h k identity) s = refused h .retire r s := request_refuses hr hh rfl ha
  refine ⟨fun hi => refuses (if_pos hi), fun hi hn => refuses ?_, fun c hi hk hc he => ?_⟩
  · simp only [retireAnswer, identityEnd_eq, if_neg (Nat.not_le.2 hi), slotOf_eq_none hn]
  · have answer := retireAnswer_eq ⟨h.client, .purser⟩ hi (he ▸ slotOf_eq hk hc)
    refine ⟨fun hp => refuses (answer.trans (if_pos hp)), fun hp hl => refuses ?_, fun hp hl p hpar => ?_⟩
    · rw [answer, if_neg (by simp [hp]), if_pos (by simpa using hl)]
    · refine request_asks (t := s.retired k c p) hr hh rfl ?_ hr.1 hr.2 rfl (toGateway_farewell k c p)
      rw [answer, if_neg (by simp [hp]), if_neg (by simp [hl]), retireContext_eq hc hpar, hr.1, hpar]
      rfl

/-! ### ATTACH (R26 to R29) -/

/-- R28: the lowest absent way of a bucket. -/
theorem absentWay_eq_some {s : State} {identity w : Nat} (hw : w < 8) (free : s.ctx (identity % 509 * 8 + w) = none)
    (taken : ∀ v, v < w → s.ctx (identity % 509 * 8 + v) ≠ none) :
    s.absentWay identity = some (identity % 509 * 8 + w) := by
  have first : (List.range 8).find? (fun v => (s.ctx (identity % 509 * 8 + v)).isNone) = some w :=
    List.find?_range_eq_some.2 ⟨by simp [free], List.mem_range.2 hw, fun v hv => by simpa [Option.isSome_iff_ne_none] using taken v hv⟩
  rw [State.absentWay, waysOf_eq, List.find?_map]
  exact congrArg (Option.map _) first

/-- R28: a bucket whose eight ways are present has no absent way. -/
theorem absentWay_eq_none {s : State} {identity : Nat} (full : ∀ v, v < 8 → s.ctx (identity % 509 * 8 + v) ≠ none) :
    s.absentWay identity = none := by
  refine List.find?_eq_none.2 fun j hj => ?_
  rw [waysOf_eq] at hj
  obtain ⟨v, hv, rfl⟩ := List.mem_map.1 hj
  exact fun free => full v (List.mem_range.1 hv) (Option.isNone_iff_eq_none.1 free)

/-- R96: an open total below an exposure limit, or no limit. -/
theorem atLimit_eq_false {p : Partner} (h : p.exposure = 0 ∨ p.openTotal < p.exposure) : p.atLimit = false := by
  simp only [Partner.atLimit, Bool.and_eq_false_iff, bne_eq_false_iff_eq, decide_eq_false_iff_not, Nat.not_le]
  exact h

theorem atLimit_eq_true {p : Partner} (h0 : p.exposure ≠ 0) (h : p.exposure ≤ p.openTotal) : p.atLimit = true := by
  simp [Partner.atLimit, h0, h]

/-- R28: ATTACH of an identity that is not present, while the part is not silent. -/
theorem attachAnswer_absent {identity : Nat} (ref : BitVec 32) (who : Sender) {s : State} (hs : s.silent = false)
    (hi : identity < 1000000000000000) (hn : s.findIdentity identity = none) :
    attachAnswer identity ref who s = attachNew identity ref s := by
  simp only [attachAnswer, hs, identityEnd_eq, if_neg (Nat.not_le.2 hi), hn, Bool.false_eq_true, if_false]

/-- R29: the context a creation leaves, with the ask for an initial step. -/
def State.createdContext (s : State) (identity i : Nat) (p : Partner) (ref : BitVec 32) : Context :=
  { newContext identity i ref s.time.clock with
    ask := if p.kind = .homeRoaming ∧ 0 < p.initialStep then
      some ⟨1, min (s.time.clock + s.settings.askTimeout * 1000) 1099511627775⟩ else none
    lastAsk := if p.kind = .homeRoaming ∧ 0 < p.initialStep then 1 else 0 }

/-- R29: the state a creation leaves, but for what it tells GATEWAY. -/
def State.created (s : State) (k identity i : Nat) (p : Partner) (ref : BitVec 32) : State :=
  (s.setCtx k (s.createdContext identity i p ref)).setPar i { p with present := p.present + 1 }

/-- R29, R85: what a creation tells GATEWAY. -/
def State.initialAsk (s : State) (k identity : Nat) (p : Partner) : List Notice :=
  if p.kind = .homeRoaming ∧ 0 < p.initialStep then
    [.creditAsk k identity p.code 1 p.initialStep (min (s.time.clock + s.settings.askTimeout * 1000) 1099511627775)]
  else []

/-- R29: a creation writes the context and counts it, and asks for the initial step of a HOME_ROAMING partner. -/
theorem createContext_eq (k identity i : Nat) (p : Partner) (ref : BitVec 32) (s : State) :
    createContext k identity i p ref s =
      { s.created k identity i p ref with raised := s.raised ++ s.initialAsk k identity p } := by
  simp only [createContext, State.created, State.createdContext, State.initialAsk]
  by_cases asks : p.kind = .homeRoaming ∧ 0 < p.initialStep
  · simp only [if_pos asks, issueAsk, State.ctx_setPar, State.ctx_setCtx]
    have code : (Option.map Partner.code (((s.setCtx k (newContext identity i ref s.now)).setPar i
        { p with present := p.present + 1 }).par (newContext identity i ref s.now).partner)).getD 0 = p.code := by
      simp [newContext]
    rw [code]
    simp only [State.raise, State.setCtx, State.setPar, Table.set_set]
    rfl
  · simp only [if_neg asks, List.append_nil]
    rfl

theorem created_ctx (s : State) (k identity i : Nat) (p : Partner) (ref : BitVec 32) (j : Nat) :
    (s.created k identity i p ref).ctx j = if j = k then some (s.createdContext identity i p ref) else s.ctx j :=
  Table.get_set _ _ _ _

/-- R26: the fields of the response to a creation. -/
theorem attachBody_created {s : State} {k identity i : Nat} {p : Partner} {ref : BitVec 32} (hb : k / 8 = identity % 509)
    (hn : ∀ q ∈ s.subs.contexts, q.2.identity ≠ identity) :
    attachBody identity (s.created k identity i p ref) = [.u16 k, .u8 0, .u8 0, .u8 i, .u8 0, .u32 ref.toNat] := by
  have here : (s.created k identity i p ref).ctx k = some (s.createdContext identity i p ref) := by
    rw [created_ctx, if_pos rfl]
  have found : (s.created k identity i p ref).findIdentity identity = some k := by
    refine findIdentity_eq_some here hb fun j d hd same => ?_
    rw [created_ctx] at hd
    by_contra hj
    rw [if_neg hj] at hd
    exact hn _ (Table.mem_of_get hd) same
  simp only [attachBody, found, here]
  rfl

/-- R26: what ATTACH answers does not depend on the notices raised. -/
theorem attachBody_raised (identity : Nat) (s : State) (ns : List Notice) :
    attachBody identity { s with raised := ns } = attachBody identity s := rfl

/-- Settles O24: the checks of R28 pass, and R29 creates the context in the way found. -/
theorem attachCreatesContext : Obligations.AttachCreatesContext := by
  intro h identity ref i w p s hr hh hline hflag hi hn hgate hcode hactive hlimit hw free taken k asks deadline c
  have awake : s.silent = false := by simp [State.silent, hline, hflag]
  have answer : attachAnswer identity ref ⟨h.client, .radio⟩ s =
      attachGive identity .ok (createContext k identity i p ref s) := by
    rw [attachAnswer_absent ref _ awake hi (findIdentity_eq_none hn)]
    have code : s.partnerByCode (codeOf identity) = some (i, p) := hcode
    simp [attachNew, hgate, code, hactive, atLimit_eq_false hlimit, absentWay_eq_some hw free taken, k]
  have bucket : k / 8 = identity % 509 := by omega
  refine request_asks (t := s.created k identity i p ref) (ns := s.initialAsk k identity p) hr hh rfl ?_ hr.1 hr.2 rfl ?_
  · rw [answer, attachGive, createContext_eq, attachBody_raised, attachBody_created bucket hn, hr.1]
    rfl
  · intro n hn
    simp only [State.initialAsk, List.mem_ite_nil_right, List.mem_singleton] at hn
    rw [hn.2]
    rfl

/-- R26: the fields of the response for an identity that is found. -/
theorem attachBody_found {s : State} {identity k : Nat} {c : Context} (hf : s.findIdentity identity = some k)
    (hc : s.ctx k = some c) : attachBody identity s = fAttached k c := by
  simp only [attachBody, hf, hc]

/-- R26: an identity that is not present gives no fields, so that a refusal of it is empty. -/
theorem attachGive_absent {s : State} {identity : Nat} (r : Result) (hn : s.findIdentity identity = none) :
    attachGive identity r s = refuse r s := by
  simp only [attachGive, attachBody, hn]
  rfl

/-- R21: a context rewritten with its identity unchanged is found as before. -/
theorem findIdentity_setCtx {s : State} {k : Nat} {c d : Context} (hc : s.ctx k = some c) (hd : d.identity = c.identity)
    (identity : Nat) : (s.setCtx k d).findIdentity identity = s.findIdentity identity := by
  have same : (fun h => ((s.setCtx k d).ctx h).any fun e => e.identity == identity) =
      fun h => (s.ctx h).any fun e => e.identity == identity := by
    funext h
    by_cases hk : h = k
    · subst hk; simp [hc, hd]
    · rw [State.ctx_setCtx_other _ _ hk]
  rw [State.findIdentity, State.findIdentity, same]

/-- R26 to R28: ATTACH of an identity that is found. -/
theorem attachAnswer_found {identity k : Nat} {c : Context} (ref : BitVec 32) (who : Sender) {s : State}
    (hs : s.silent = false) (hi : identity < 1000000000000000) (hf : s.findIdentity identity = some k)
    (hc : s.ctx k = some c) :
    attachAnswer identity ref who s =
      if c.presence = .attached then attachGive identity .already s else attachAgain identity k c ref s := by
  simp only [attachAnswer, hs, identityEnd_eq, if_neg (Nat.not_le.2 hi), hf, hc, Bool.false_eq_true, if_false]
  cases c.presence <;> rfl

/-- R28: the checks on the partner of an identity that is not present, while the gate is open. -/
theorem attachNew_eq {identity i : Nat} {p : Partner} (ref : BitVec 32) {s : State} (hg : s.subs.gate = .opened)
    (hp : s.partnerByCode (identity / 10000000000) = some (i, p)) :
    attachNew identity ref s = match p.status with
      | .suspended => attachGive identity .partnerSuspended s
      | .barred => attachGive identity .partnerBarred s
      | .active => if p.atLimit then attachGive identity .exposureLimit s else match s.absentWay identity with
        | none => attachGive identity .bucketFull s
        | some h => attachGive identity .ok (createContext h identity i p ref s) := by
  have code : s.partnerByCode (codeOf identity) = some (i, p) := hp
  simp only [attachNew, hg, code]
  cases p.status <;> rfl

/-- Settles O25: ATTACH decides in the order of R26, R27 and R28. -/
theorem attachFindsOrRefuses : Obligations.AttachFindsOrRefuses := by
  constructor
  · intro h identity ref k c p s hr hh hi hf hc he hp fields was
    have body : attachBody identity s = fields was c.ref := (attachBody_found hf hc).trans (fAttached_eq k c)
    have gives {r : Result} (ha : attachAnswer identity ref ⟨h.client, .radio⟩ s = attachGive identity r s) :
        exec (.attach h identity ref) s = answered h .attach r (fields was c.ref) s s := by
      rw [← body]
      exact request_answers hr hh rfl ha hr.1 hr.2 rfl
    refine ⟨fun hs => gives (if_pos hs), fun hs ha => ?_, fun hs hd hb => ?_, fun hs hd hb => ?_⟩
    · have := gives (r := .already) ((attachAnswer_found ref _ hs hi hf hc).trans (if_pos ha))
      simpa only [was, ha, if_true] using this
    · have := gives (r := .partnerBarred)
        (by simp [attachAnswer_found ref _ hs hi hf hc, hd, attachAgain, hp, hb])
      simpa only [was, hd, reduceCtorEq, if_false] using this
    · refine request_answers hr hh rfl (t := s.setCtx k (c.reattach ref s.now)) ?_ hr.1 hr.2 rfl
      have again : attachBody identity (s.setCtx k (c.reattach ref s.now)) = fields 0 ref :=
        (attachBody_found ((findIdentity_setCtx (d := c.reattach ref s.now) hc rfl identity).trans hf)
          (State.ctx_setCtx ..)).trans (fAttached_eq ..)
      simp [attachAnswer_found ref _ hs hi hf hc, hd, attachAgain, hp, hb, attachGive, again]
  · intro h identity ref s hr hh
    have refuses {r : Result} (ha : attachAnswer identity ref ⟨h.client, .radio⟩ s = refuse r s) :
        exec (.attach h identity ref) s = refused h .attach r s := request_refuses hr hh rfl ha
    refine ⟨fun hs hi => refuses ?_, fun hn => ⟨fun hs => refuses ?_, fun hs hi => ?_⟩⟩
    · simp [attachAnswer, hs, identityEnd_eq, hi]
    · exact (if_pos hs).trans (attachGive_absent _ (findIdentity_eq_none hn))
    · have absent := findIdentity_eq_none hn
      have declines {r : Result} (ha : attachNew identity ref s = attachGive identity r s) :
          exec (.attach h identity ref) s = refused h .attach r s :=
        refuses ((attachAnswer_absent ref _ hs hi absent).trans (ha.trans (attachGive_absent r absent)))
      refine ⟨fun held => declines (if_pos held), fun hg => ⟨fun none_such => declines ?_, fun i p hp => ?_⟩⟩
      · have unheld : s.partnerByCode (codeOf identity) = none := partnerByCode_unheld none_such
        simp [attachNew, hg, unheld]
      · have checks := attachNew_eq ref hg hp
        refine ⟨fun st => declines ?_, fun st => declines ?_, fun st h0 h1 => declines ?_, fun st hl full => declines ?_⟩
        · rw [checks, st]
        · rw [checks, st]
        · simp only [checks, st, atLimit_eq_true h0 h1, if_true]
        · simp only [checks, st, atLimit_eq_false hl, absentWay_eq_none full, Bool.false_eq_true, if_false]

/-! ### DETACH (R32, R33) -/

/-- R33: DETACH of a DORMANT context. -/
theorem detachAnswer_dormant {k : Nat} {c : Context} (who : Sender) {s : State} (hk : k ≤ 4071) (hc : s.ctx k = some c)
    (hd : c.presence = .dormant) :
    detachAnswer k who s = ⟨.already, [.u16 k, .u8 0, .u64 c.folio, .u64 (c.dormancy.getD 0)], s⟩ := by
  simp [detachAnswer, slot_eq hk, hc, hd, fDetached, State.folioOf]

/-- R33: DETACH of an ATTACHED context. -/
theorem detachAnswer_attached {k : Nat} {c : Context} (who : Sender) {s : State} (hk : k ≤ 4071) (hc : s.ctx k = some c)
    (ha : c.presence = .attached) :
    detachAnswer k who s = ⟨.ok, fDetached k c.sessions.length (dropContext k c .detach s), dropContext k c .detach s⟩ := by
  simp [detachAnswer, slot_eq hk, hc, ha]

/-- R32: what a closed list leaves of a context that was just made DORMANT. -/
theorem settled_goDormant {c d : Context} {deadline : Nat} (h : (c.goDormant deadline).settled c.sessions d) :
    d = { c with
      presence := .dormant, dormancy := some deadline, sessions := [], folio := d.folio, sub := d.sub,
      consumed := d.consumed, credit := d.credit } := by
  obtain ⟨kept, asks⟩ := h
  obtain ⟨ask, lastAsk⟩ := asks rfl
  rw [ask, lastAsk] at kept
  have empty : (c.goDormant deadline).sessions.filter (fun n => decide (n ∉ c.sessions)) = [] :=
    List.filter_eq_nil_iff.2 fun n hn => by simpa [Context.goDormant] using hn
  rw [empty] at kept
  exact kept

/-- Settles O26: a detached context settles with its sessions, which are all that its closing touches. -/
theorem detachClosesSessions : Obligations.DetachClosesSessions := by
  intro h k s hr hh
  refine ⟨fun hn => request_refuses hr hh rfl (by simp only [detachAnswer, slot_eq_none hn]),
    fun c hk hc hd => request_answers hr hh rfl (detachAnswer_dormant _ hk hc hd) hr.1 hr.2 rfl, ?_⟩
  intro c hk hc ha hs deadline
  have drop := settles_dropContext .detach ((listed_iff s).1 hs).1 hc
  obtain ⟨d, hd, settled⟩ := drop.present (c.goDormant s.dormancyDeadline) (by simp)
  have after := settled_goDormant settled
  obtain ⟨ns, raised, quiet⟩ := drop.told
  have none_asked : ∀ n ∈ ns, n.toGateway = false := quiet fun e he => by
    obtain rfl : c.goDormant s.dormancyDeadline = e := by simpa using he
    rfl
  refine ⟨{ dropContext k c .detach s with raised := [] }, d, ns, ?_, hd, by rw [after], by rw [after]; rfl, by rw [after],
    after, drop.closed, drop.untouched, fun j hj => (drop.other j hj).trans (State.ctx_setCtx_other _ _ hj)⟩
  refine request_tells hr hh rfl ((detachAnswer_attached _ hk hc ha).trans ?_) rfl ?_ ?_ none_asked
  · have told : (dropContext k c .detach s).raised = ns := by rw [raised, State.setCtx_raised, hr.1]; rfl
    rw [← told]
    simp only [fDetached, State.folioOf, hd, Option.map_some, Option.getD_some, Option.bind_some]
    rw [after]
    rfl
  · exact (congrArg Port.inReset drop.port).trans hr.2
  · exact congrArg TimeBase.clock drop.time

end Sys2Proof.Machine
end


section
/-! Chapter 3: the link of highest priority among those a test admits. -/

namespace Sys2Proof.Machine

/-- R113, R128: the better of the best link so far and the next one in ascending order. -/
def State.preferred (s : State) (p : LinkId → Bool) (best : Option LinkId) (l : LinkId) : Option LinkId :=
  if p l then
    match best with
    | none => some l
    | some b => if (s.link b).priority < (s.link l).priority then some l else some b
  else best

theorem bestLink_eq (s : State) (p : LinkId → Bool) : s.bestLink p = allLinks.foldl (s.preferred p) none := rfl

/-- R113: `m` stands behind `b`: its priority is lower, or equal with a higher number. -/
def State.behind (s : State) (b m : LinkId) : Prop :=
  (s.link m).priority < (s.link b).priority ∨ ((s.link m).priority = (s.link b).priority ∧ b < m)

/-- `best` is the best of the links `seen` that pass the test. -/
def State.leads (s : State) (p : LinkId → Bool) (seen : List LinkId) : Option LinkId → Prop
  | none => ∀ m ∈ seen, p m = false
  | some b => p b = true ∧ b ∈ seen ∧ ∀ m ∈ seen, p m = true → m ≠ b → s.behind b m

theorem leads_preferred {s : State} {p : LinkId → Bool} {seen : List LinkId} {best : Option LinkId} {l : LinkId}
    (h : s.leads p seen best) (hl : ∀ m ∈ seen, m < l) :
    s.leads p (seen ++ [l]) (s.preferred p best l) := by
  unfold State.preferred
  cases hp : p l with
  | false =>
    cases best with
    | none =>
      intro m hm
      rcases List.mem_append.1 hm with hm | hm
      · exact h m hm
      · rw [List.mem_singleton.1 hm]; exact hp
    | some b =>
      obtain ⟨hpb, hb, rest⟩ := h
      refine ⟨hpb, List.mem_append_left _ hb, fun m hm hpm hne => ?_⟩
      rcases List.mem_append.1 hm with hm | hm
      · exact rest m hm hpm hne
      · rw [List.mem_singleton.1 hm, hp] at hpm; cases hpm
  | true =>
    cases best with
    | none =>
      refine ⟨hp, by simp, fun m hm hpm hne => ?_⟩
      rcases List.mem_append.1 hm with hm | hm
      · rw [h m hm] at hpm; cases hpm
      · exact absurd (List.mem_singleton.1 hm) hne
    | some b =>
      obtain ⟨hpb, hb, rest⟩ := h
      simp only [if_true]
      split
      · next higher =>
        refine ⟨hp, by simp, fun m hm hpm hne => .inl ?_⟩
        rcases List.mem_append.1 hm with hm | hm
        · by_cases e : m = b
          · rw [e]; exact higher
          · rcases rest m hm hpm e with low | ⟨same, -⟩
            · exact low.trans higher
            · rw [same]; exact higher
        · exact absurd (List.mem_singleton.1 hm) hne
      · next lower =>
        refine ⟨hpb, List.mem_append_left _ hb, fun m hm hpm hne => ?_⟩
        rcases List.mem_append.1 hm with hm | hm
        · exact rest m hm hpm hne
        · rw [List.mem_singleton.1 hm]
          rcases Nat.lt_or_eq_of_le (Nat.le_of_not_lt lower) with low | same
          · exact .inl low
          · exact .inr ⟨same, hl b hb⟩

theorem leads_foldl {s : State} {p : LinkId → Bool} (ls : List LinkId) {seen : List LinkId} {best : Option LinkId}
    (h : s.leads p seen best) (rising : (seen ++ ls).Pairwise (· < ·)) :
    s.leads p (seen ++ ls) (ls.foldl (s.preferred p) best) := by
  induction ls generalizing seen best with
  | nil => simpa using h
  | cons l ls ih =>
    have before : ∀ m ∈ seen, m < l := fun m hm => (List.pairwise_append.1 rising).2.2 m hm l List.mem_cons_self
    rw [List.append_cons] at rising ⊢
    exact ih (leads_preferred h before) rising

theorem bestLink_leads (s : State) (p : LinkId → Bool) : s.leads p allLinks (s.bestLink p) := by
  rw [bestLink_eq]
  exact leads_foldl (seen := []) allLinks (fun _ hm => nomatch hm) (by decide)

theorem mem_allLinks (l : LinkId) : l ∈ allLinks := by revert l; decide

/-- R113, R114, R128: a link chosen passes the test it was chosen by. -/
theorem bestLink_admits {s : State} {p : LinkId → Bool} {l : LinkId} (h : s.bestLink p = some l) : p l = true := by
  have leads := bestLink_leads s p
  rw [h] at leads
  exact leads.1

/-- R113, R114: the link that wins a choice is chosen. -/
theorem bestLink_eq_some {s : State} {p : LinkId → Bool} {l : LinkId} (hl : p l = true)
    (best : ∀ m, p m = true → m ≠ l → s.behind l m) : s.bestLink p = some l := by
  have leads := bestLink_leads s p
  cases hb : s.bestLink p with
  | none =>
    rw [hb] at leads
    rw [leads l (mem_allLinks l)] at hl
    cases hl
  | some b =>
    rw [hb] at leads
    obtain ⟨hpb, -, rest⟩ := leads
    by_contra other
    have hne : b ≠ l := fun e => other (by rw [e])
    have ahead := best b hpb hne
    have behind := rest l (mem_allLinks l) hl (Ne.symm hne)
    simp only [State.behind, Fin.lt_def] at ahead behind
    omega

/-- R113, R114: no link is chosen where none passes the test. -/
theorem bestLink_eq_none {s : State} {p : LinkId → Bool} (h : ∀ l, p l = false) : s.bestLink p = none := by
  cases hb : s.bestLink p with
  | none => rfl
  | some b => exact absurd (bestLink_admits hb) (by simp [h b])

end Sys2Proof.Machine
end

section
/-! Chapter 3, first part: what the counts of links see of a session, and the counts as tallies of it. -/

namespace Sys2Proof.Machine

/-! ### Tables that agree at every number -/

/-- In the canonical form two tables that read alike under `f` at every number list the same records under `f`. -/
theorem Table.map_eq_of_get {α β : Type} (f : α → β) {t u : Table α} (ht : t.wf = true) (hu : u.wf = true)
    (h : ∀ k, (Table.get t k).map f = (Table.get u k).map f) :
    t.map (fun p => f p.2) = u.map fun p => f p.2 := by
  unfold Table.wf at ht hu
  generalize (none : Option Nat) = a at ht
  generalize (none : Option Nat) = b at hu
  induction t generalizing u a b with
  | nil =>
    cases u with
    | nil => rfl
    | cons q u => obtain ⟨i, y⟩ := q; simpa using h i
  | cons p t ih =>
    cases u with
    | nil => obtain ⟨j, x⟩ := p; simpa using h j
    | cons q u =>
      obtain ⟨j, x⟩ := p
      obtain ⟨i, y⟩ := q
      simp only [Table.risingFrom, Bool.and_eq_true] at ht hu
      have above {v : Table α} {m n : Nat} (hv : Table.risingFrom (some m) v = true) (hn : n ≤ m) :
          Table.get v n = none := by
        cases hg : Table.get v n with
        | none => rfl
        | some z => exact absurd (Table.above_of_rising hv _ (Table.mem_of_get hg)) (Nat.not_lt.2 hn)
      have hji : j = i := by
        rcases Nat.lt_trichotomy j i with lt | eq | gt
        · simpa [(Nat.ne_of_lt lt).symm, above hu.2 lt.le] using h j
        · exact eq
        · simpa [(Nat.ne_of_lt gt).symm, above ht.2 gt.le] using h i
      subst hji
      have head : f x = f y := by simpa using h j
      have rest := ih (fun k => ?_) _ ht.2 _ hu.2
      · simp [head, rest]
      · by_cases hk : j = k
        · subst hk; rw [above ht.2 le_rfl, above hu.2 le_rfl]
        · simpa [hk] using h k

/-! ### Seats -/

/-- What the counts of links see of a session: whether it holds a slot of a link's capacity, and its binding. -/
abbrev Seat := Bool × Binding

/-- The seat of a session. -/
def Session.seat (x : Session) : Seat := (x.nonEmergency, x.binding)

/-- The seat of the session open at a handle. -/
def State.seat (s : State) (n : Nat) : Option Seat := (s.ses n).map Session.seat

/-- R115: whether a seat is in a link's bound count. -/
def boundOn (l : LinkId) (p : Seat) : Bool := p.1 && p.2.countedOn == some l

/-- R115: whether a seat is in a link's emergency count. -/
def emergencyOn (l : LinkId) (p : Seat) : Bool := !p.1 && p.2.countedOn == some l

/-- R115: whether a seat is in a link's reserved count. -/
def reservedOn (l : LinkId) (p : Seat) : Bool := p.1 && p.2.movingTo l

/-- R40: whether a seat is in the stranded count. -/
def strandedSeat (p : Seat) : Bool := p.2.countedOn.isNone

/-- What one handle adds to a count: 1 when its seat passes the test. -/
def weigh (f : Seat → Bool) (o : Option Seat) : Nat := if o.any f then 1 else 0

/-- The open sessions whose seat passes a test, counted. -/
def State.tally (s : State) (f : Seat → Bool) : Nat :=
  Table.total (fun x : Session => weigh f (some x.seat)) s.sess.records

theorem seat_eq_some_iff (s : State) (n : Nat) (p : Seat) :
    s.seat n = some p ↔ ∃ x, s.ses n = some x ∧ x.seat = p := Option.map_eq_some_iff

theorem seat_of_ses {s : State} {n : Nat} {x : Session} (hx : s.ses n = some x) : s.seat n = some x.seat := by
  simp [State.seat, hx]

@[simp] theorem weigh_none (f : Seat → Bool) : weigh f none = 0 := rfl

@[simp] theorem weigh_some (f : Seat → Bool) (p : Seat) : weigh f (some p) = if f p then 1 else 0 := by simp [weigh]

theorem weigh_le (f : Seat → Bool) (o : Option Seat) : weigh f o ≤ 1 := by unfold weigh; split <;> omega

theorem countSessions_eq (s : State) (f : Seat → Bool) : s.countSessions (fun x => f x.seat) = s.tally f := by
  unfold State.countSessions State.tally
  induction s.sess.records with
  | nil => rfl
  | cons p t ih => by_cases hp : f p.2.seat = true <;> simp [hp, ih, Nat.add_comm]

theorem total_eq_of_get {t u : Table Session} (f : Seat → Bool) (ht : t.wf = true) (hu : u.wf = true)
    (h : ∀ k, (Table.get t k).map Session.seat = (Table.get u k).map Session.seat) :
    Table.total (fun x : Session => weigh f (some x.seat)) t =
      Table.total (fun x : Session => weigh f (some x.seat)) u := by
  have seats := congrArg (List.map fun p => weigh f (some p)) (Table.map_eq_of_get Session.seat ht hu h)
  simp only [List.map_map, Function.comp_def] at seats
  exact congrArg List.sum seats

/-- A tally, with what one handle adds to it set apart. -/
theorem tally_eq (s : State) (f : Seat → Bool) (n : Nat) (hw : Table.wf s.sess.records = true) :
    s.tally f = weigh f (s.seat n)
      + Table.total (fun x : Session => weigh f (some x.seat)) (Table.erase s.sess.records n) := by
  cases hx : s.ses n with
  | none =>
    have absent : ∀ p ∈ s.sess.records, p.1 ≠ n := fun p hp e => by
      have := Table.get_of_mem hw (show (n, p.2) ∈ s.sess.records from e ▸ hp)
      rw [State.ses, this] at hx
      cases hx
    simp [State.tally, State.seat, hx, Table.erase_absent absent]
  | some x =>
    have := Table.total_erase (fun x : Session => weigh f (some x.seat)) hw hx
    simp only [State.tally, State.seat, hx, Option.map_some]
    omega

theorem weigh_le_tally (s : State) (f : Seat → Bool) (n : Nat) (hw : Table.wf s.sess.records = true) :
    weigh f (s.seat n) ≤ s.tally f := by
  rw [tally_eq s f n hw]; exact Nat.le_add_right _ _

/-- A tally after the seat at one handle has changed. -/
theorem tally_move {s t : State} (f : Seat → Bool) (n : Nat) (hs : Table.wf s.sess.records = true)
    (ht : Table.wf t.sess.records = true) (other : ∀ m, m ≠ n → t.seat m = s.seat m) :
    t.tally f + weigh f (s.seat n) = s.tally f + weigh f (t.seat n) := by
  have rest := total_eq_of_get f (Table.wf_erase _ n ht) (Table.wf_erase _ n hs) fun k => by
    rw [Table.get_erase, Table.get_erase]
    split
    · rfl
    · next hk => exact other k hk
  rw [tally_eq s f n hs, tally_eq t f n ht, rest]
  omega

theorem tally_congr {s t : State} (f : Seat → Bool) (hs : Table.wf s.sess.records = true)
    (ht : Table.wf t.sess.records = true) (seat : ∀ m, t.seat m = s.seat m) : t.tally f = s.tally f :=
  total_eq_of_get f ht hs seat

/-- A count above 0 counts some session. -/
theorem exists_of_tally_pos {s : State} {f : Seat → Bool} (hw : Table.wf s.sess.records = true) (h : 0 < s.tally f) :
    ∃ n p, s.seat n = some p ∧ f p = true := by
  by_contra none_such
  push Not at none_such
  refine absurd h (Nat.not_lt.2 (Nat.le_of_eq (List.sum_eq_zero fun k hk => ?_)))
  obtain ⟨q, hq, rfl⟩ := List.mem_map.1 hk
  have := none_such q.1 q.2.seat (seat_of_ses (Table.get_of_mem hw hq))
  simp [this]

/-! ### The counts, in agreement with the seats (R40, R44, R115, R116, R130) -/

/-- R40, R44, R115, R116: every count of the links and the stranded count agree with the open sessions, and bound plus
reserved is within capacity. -/
structure Tallied (s : State) : Prop where
  wf : Table.wf s.sess.records = true
  bound : ∀ l, (s.link l).bound = s.tally (boundOn l)
  emergency : ∀ l, (s.link l).emergency = s.tally (emergencyOn l)
  reserved : ∀ l, (s.link l).reserved = s.tally (reservedOn l)
  stranded : s.sess.stranded = s.tally strandedSeat
  capacity : ∀ l, (s.link l).bound + (s.link l).reserved ≤ (s.link l).capacity

/-- Whether the session open at a handle is MOVING. -/
def State.moves (s : State) (n : Nat) : Prop := ∃ p, s.seat n = some p ∧ p.2.isMoving = true

/-- R129, R130: a batch holds exactly the MOVING sessions. -/
structure Holds (b : Batch) (s : State) : Prop where
  nodup : b.sessions.Nodup
  moving : ∀ n ∈ b.sessions, ∃ c, s.seat n = some (c, .moving b.source b.dest b.number)
  all : ∀ n, s.moves n → n ∈ b.sessions

/-- R130, R135: the in-flight batch holds exactly the MOVING sessions, and its destination is UP. -/
def Batched (s : State) : Prop :=
  (s.mig.batch = none → ∀ n, ¬ s.moves n) ∧ ∀ b, s.mig.batch = some b → Holds b s ∧ (s.link b.dest).state = .up

/-- R116: nothing is reserved on a link to which no session is MOVING. -/
theorem Tallied.reserved_eq_zero {s : State} (hs : Tallied s) {l : LinkId}
    (h : ∀ n p, s.seat n = some p → p.2.movingTo l = false) : (s.link l).reserved = 0 := by
  rw [hs.reserved l]
  by_contra pos
  obtain ⟨n, p, hp, hf⟩ := exists_of_tally_pos hs.wf (Nat.pos_of_ne_zero pos)
  simp [reservedOn, h n p hp] at hf

theorem Binding.isMoving_of_movingTo {b : Binding} {l : LinkId} (h : b.movingTo l = true) : b.isMoving = true := by
  cases b with
  | moving => rfl
  | bound => cases h
  | stranded => cases h

/-- R116, R130: what is reserved is reserved for the in-flight batch, on its destination. -/
theorem Batched.reserved_eq_zero {s : State} (hb : Batched s) (hs : Tallied s) {l : LinkId}
    (hl : (s.link l).state ≠ .up) : (s.link l).reserved = 0 := by
  refine hs.reserved_eq_zero fun n p hp => Bool.eq_false_iff.2 fun hm => ?_
  have moves : s.moves n := ⟨p, hp, Binding.isMoving_of_movingTo hm⟩
  cases hbatch : s.mig.batch with
  | none => exact hb.1 hbatch n moves
  | some b =>
    obtain ⟨holds, up⟩ := hb.2 b hbatch
    obtain ⟨c, hc⟩ := holds.moving n (holds.all n moves)
    rw [hp] at hc
    cases hc
    have : b.dest = l := by simpa [Binding.movingTo] using hm
    exact hl (this ▸ up)

theorem linkCounted_iff (s : State) (l : LinkId) :
    s.linkCounted l ↔ (s.link l).bound = s.tally (boundOn l) ∧ (s.link l).emergency = s.tally (emergencyOn l)
      ∧ (s.link l).reserved = s.tally (reservedOn l) := by
  simp only [← countSessions_eq]
  rfl

theorem batchOk_iff {s : State} (hw : Table.wf s.sess.records = true) : s.batchOk ↔ Batched s := by
  have moves (n : Nat) : s.moves n ↔ ∃ x, s.ses n = some x ∧ x.binding.isMoving = true := by
    simp [State.moves, State.seat, Session.seat]
  unfold State.batchOk Batched
  cases s.mig.batch with
  | none =>
    simp only [Table.forall_mem_iff (P := fun _ (x : Session) => x.binding.isMoving = false) hw, moves]
    simp [State.ses]
  | some b =>
    simp only [Table.forall_mem_iff (P := fun n (x : Session) => x.binding.isMoving = true → n ∈ b.sessions) hw]
    have held (n : Nat) : ((s.ses n).any fun x => x.binding == .moving b.source b.dest b.number) = true
        ↔ ∃ c, s.seat n = some (c, .moving b.source b.dest b.number) := by
      cases hx : s.ses n <;> simp [State.seat, Session.seat, hx]
    constructor
    · rintro ⟨nodup, up, moving, all⟩
      refine ⟨nofun, fun c hc => ?_⟩
      cases hc
      refine ⟨⟨nodup, fun n hn => (held n).1 (moving n hn), fun n hn => ?_⟩, up⟩
      obtain ⟨x, hx, hm⟩ := (moves n).1 hn
      exact all n x hx hm
    · rintro ⟨-, h⟩
      obtain ⟨holds, up⟩ := h b rfl
      exact ⟨holds.nodup, up, fun n hn => (held n).2 (holds.moving n hn),
        fun n x hx hm => holds.all n ((moves n).2 ⟨x, hx, hm⟩)⟩

/-- The counts, as tallies of the seats; that nothing is reserved on a link that is not UP follows from the batch. -/
theorem counts_iff (s : State) : Counts s ↔ Tallied s ∧ Batched s := by
  unfold Counts Link.withinCapacity
  simp only [linkCounted_iff]
  constructor
  · rintro ⟨wf, counted, capacity, stranded, batch⟩
    exact ⟨⟨wf, fun l => (counted l).1, fun l => (counted l).2.1, fun l => (counted l).2.2,
      stranded.trans (countSessions_eq s strandedSeat), fun l => (capacity l).1⟩, (batchOk_iff wf).1 batch⟩
  · rintro ⟨tallied, batched⟩
    exact ⟨tallied.wf, fun l => ⟨tallied.bound l, tallied.emergency l, tallied.reserved l⟩,
      fun l => ⟨tallied.capacity l, batched.reserved_eq_zero tallied⟩,
      tallied.stranded.trans (countSessions_eq s strandedSeat).symm, (batchOk_iff tallied.wf).2 batched⟩

/-- A session that is counted on a link is in its count. -/
theorem Tallied.weigh_le {s : State} (hs : Tallied s) (l : LinkId) (n : Nat) :
    weigh (boundOn l) (s.seat n) ≤ (s.link l).bound ∧ weigh (emergencyOn l) (s.seat n) ≤ (s.link l).emergency
      ∧ weigh (reservedOn l) (s.seat n) ≤ (s.link l).reserved ∧ weigh strandedSeat (s.seat n) ≤ s.sess.stranded := by
  rw [hs.bound, hs.emergency, hs.reserved, hs.stranded]
  exact ⟨weigh_le_tally s _ n hs.wf, weigh_le_tally s _ n hs.wf, weigh_le_tally s _ n hs.wf, weigh_le_tally s _ n hs.wf⟩

/-- The counts go on agreeing when the seat at one handle changes and each count gives up what the old seat added to it
for what the new one adds. -/
theorem Tallied.move {s t : State} (n : Nat) (hs : Tallied s) (wf : Table.wf t.sess.records = true)
    (other : ∀ m, m ≠ n → t.seat m = s.seat m)
    (bound : ∀ l, (t.link l).bound + weigh (boundOn l) (s.seat n) = (s.link l).bound + weigh (boundOn l) (t.seat n))
    (emergency : ∀ l, (t.link l).emergency + weigh (emergencyOn l) (s.seat n) =
      (s.link l).emergency + weigh (emergencyOn l) (t.seat n))
    (reserved : ∀ l, (t.link l).reserved + weigh (reservedOn l) (s.seat n) =
      (s.link l).reserved + weigh (reservedOn l) (t.seat n))
    (stranded : t.sess.stranded + weigh strandedSeat (s.seat n) = s.sess.stranded + weigh strandedSeat (t.seat n))
    (capacity : ∀ l, (t.link l).bound + (t.link l).reserved ≤ (t.link l).capacity) : Tallied t := by
  have moved (f : Seat → Bool) := tally_move f n hs.wf wf other
  exact {
    wf := wf
    bound := fun l => by have := moved (boundOn l); have := bound l; have := hs.bound l; omega
    emergency := fun l => by have := moved (emergencyOn l); have := emergency l; have := hs.emergency l; omega
    reserved := fun l => by have := moved (reservedOn l); have := reserved l; have := hs.reserved l; omega
    stranded := by have := moved strandedSeat; have := hs.stranded; omega
    capacity := capacity }

end Sys2Proof.Machine
end

section
/-! Chapter 3, second part: charges, cuts and final rating leave the seats, the links and the Migration Engine. -/

namespace Sys2Proof.Machine

/-! ### The relation -/

/-- `t` is `s` after charges: session records, contexts and partners may differ, and notices may have been raised, but
every session keeps its class and its binding, and none is opened or closed. -/
structure Rates (s t : State) : Prop where
  frame : t = { s with
    sess := { s.sess with records := t.sess.records }
    subs := { s.subs with contexts := t.subs.contexts }
    tariff := { s.tariff with partners := t.tariff.partners }
    raised := t.raised }
  wf : Table.wf s.sess.records = true → Table.wf t.sess.records = true
  seat : ∀ n, t.seat n = s.seat n

theorem Rates.refl (s : State) : Rates s s := ⟨rfl, id, fun _ => rfl⟩

theorem Rates.trans {s t u : State} (h₁ : Rates s t) (h₂ : Rates t u) : Rates s u where
  frame := by
    have e := h₂.frame
    rw [h₁.frame] at e
    exact e
  wf := h₂.wf ∘ h₁.wf
  seat n := (h₂.seat n).trans (h₁.seat n)

/-- An operation on each element of a list in turn. -/
theorem Rates.foldl {α : Type} {f : State → α → State} (hf : ∀ s a, Rates s (f s a)) (l : List α) (s : State) :
    Rates s (l.foldl f s) := by
  induction l generalizing s with
  | nil => exact .refl s
  | cons a l ih => exact (hf s a).trans (ih _)

theorem Rates.link {s t : State} (h : Rates s t) (l : LinkId) : t.link l = s.link l := by rw [h.frame]; rfl

theorem Rates.mig {s t : State} (h : Rates s t) : t.mig = s.mig := by rw [h.frame]

/-! ### Writes -/

theorem seat_setSes (s : State) (n : Nat) (y : Session) (m : Nat) :
    (s.setSes n y).seat m = if m = n then some y.seat else s.seat m := by
  by_cases hm : m = n
  · subst hm; simp [State.seat]
  · simp [State.seat, State.ses_setSes_other _ _ hm, hm]

theorem rates_setSes {s : State} {n : Nat} {x y : Session} (hx : s.ses n = some x) (hy : y.seat = x.seat) :
    Rates s (s.setSes n y) where
  frame := rfl
  wf := Table.wf_set _ _ _
  seat m := by
    rw [seat_setSes]
    split
    · next hm => rw [hm, seat_of_ses hx, hy]
    · rfl

theorem rates_modSes {n : Nat} {f : Session → Session} (hf : ∀ x, (f x).seat = x.seat) (s : State) :
    Rates s (s.modSes n f) := by
  unfold State.modSes
  split
  · exact .refl s
  · next x hx => exact rates_setSes hx (hf x)

theorem rates_setCtx (h : Nat) (c : Context) (s : State) : Rates s (s.setCtx h c) := ⟨rfl, id, fun _ => rfl⟩

theorem rates_modPar (i : Nat) (f : Partner → Partner) (s : State) : Rates s (s.modPar i f) := by
  unfold State.modPar
  split
  · exact .refl s
  · exact ⟨rfl, id, fun _ => rfl⟩

theorem rates_raise (n : Notice) (s : State) : Rates s (s.raise n) := ⟨rfl, id, fun _ => rfl⟩

theorem rates_setService (v : Service) (ns : List Nat) (s : State) : Rates s (setService v ns s) :=
  .foldl (fun s _ => rates_modSes (f := fun x => { x with service := v }) (fun _ => rfl) s) ns s

/-! ### A charge and its evaluation (R75, R76, R85, R86, R93) -/

theorem rates_issueAsk (h amount : Nat) (s : State) : Rates s (issueAsk h amount s) := by
  unfold issueAsk
  split
  · exact .refl s
  · exact (rates_setCtx _ _ s).trans (rates_raise _ _)

theorem rates_judgeAsk (h : Nat) (s : State) : Rates s (judgeAsk h s) := by
  unfold judgeAsk
  split
  · exact .refl s
  · split
    · exact .refl s
    · split
      · exact rates_issueAsk _ _ s
      · exact .refl s

theorem rates_judgeExhaustion (h : Nat) (s : State) : Rates s (judgeExhaustion h s) := by
  unfold judgeExhaustion
  split
  · exact .refl s
  · split
    · exact (rates_setCtx _ _ s).trans ((rates_setService _ _ _).trans (rates_raise _ _))
    · exact .refl s

theorem rates_applyAmount (n : Nat) (z : ZoneClass) (k : Nat) (s : State) : Rates s (applyAmount n z k s) := by
  unfold applyAmount
  split
  · exact .refl s
  · next x hx =>
    split
    · exact .refl s
    · next c _ =>
      have written : Rates s (s.setSes n { x with charge := x.charge + headroomOf c k }) := rates_setSes hx rfl
      exact written.trans ((rates_setCtx _ _ _).trans (rates_modPar _ _ _))

theorem rates_charge (n : Nat) (z : ZoneClass) (k : Nat) (s : State) : Rates s (charge n z k s) := by
  unfold charge
  split
  · exact .refl s
  · split
    · exact .refl s
    · exact (rates_applyAmount n z k s).trans ((rates_judgeExhaustion _ _).trans (rates_judgeAsk _ _))

theorem rates_chargeThousandths (n : Nat) (z : ZoneClass) (a : Nat) (s : State) :
    Rates s (chargeThousandths n z a s) :=
  (rates_modSes (f := fun x => { x with carry := a % 1000 }) (fun _ => rfl) s).trans (rates_charge n z _ _)

/-- A session rewritten in its seat and then charged. -/
theorem rates_setSes_charge {s : State} {n : Nat} {x y : Session} (z : ZoneClass) (a : Nat) (hx : s.ses n = some x)
    (hy : y.seat = x.seat) : Rates s (chargeThousandths n z a (s.setSes n y)) :=
  (rates_setSes hx hy).trans (rates_chargeThousandths n z a _)

/-! ### Cuts and final rating (R70 to R73) -/

theorem rates_cutAt (n : Nat) (q : Price) (s : State) : Rates s (cutAt n q s) := by
  unfold cutAt
  split
  · exact .refl s
  · next x hx =>
    split
    · exact rates_setSes_charge (y := { x with residue := 0, epoch := s.tariff.epoch }) _ _ hx rfl
    · exact rates_setSes hx rfl

theorem rates_epochCutOf (n : Nat) (s : State) : Rates s (epochCutOf n s) := by
  unfold epochCutOf
  split
  · next x prev hx _ =>
    split
    · split
      · exact rates_setSes hx rfl
      · exact rates_cutAt n _ s
    · exact .refl s
  · exact .refl s

theorem rates_bindingCutOf (n : Nat) (s : State) : Rates s (bindingCutOf n s) := by
  have cut := rates_epochCutOf n s
  simp only [bindingCutOf]
  split
  · exact cut
  · split
    · exact cut
    · exact cut.trans (rates_cutAt n _ _)

theorem rates_closeResidue (n : Nat) (q : Price) (s : State) : Rates s (closeResidue n q s) := by
  unfold closeResidue
  split
  · exact .refl s
  · next x hx =>
    split
    · split
      · exact rates_setSes_charge (y := { x with residue := 0, blocks := saturate blocksMax (x.blocks + 1) }) _ _ hx rfl
      · exact rates_cutAt n q s
    · exact .refl s

theorem rates_closeMinimum (n : Nat) (q : Price) (s : State) : Rates s (closeMinimum n q s) := by
  unfold closeMinimum
  split
  · exact .refl s
  · next x hx =>
    split
    · exact rates_setSes_charge (y := { x with blocks := q.cell.minimum }) _ _ hx rfl
    · exact .refl s

theorem rates_closeCarry (n : Nat) (z : ZoneClass) (s : State) : Rates s (closeCarry n z s) := by
  unfold closeCarry
  split
  · exact .refl s
  · next x hx =>
    have written : Rates s (s.setSes n { x with carry := 0 }) := rates_setSes hx rfl
    exact written.trans (rates_charge n z _ _)

theorem rates_finalRating (n : Nat) (s : State) : Rates s (finalRating n s) := by
  have cut := rates_epochCutOf n s
  simp only [finalRating]
  split
  · exact cut
  · split
    · exact cut
    · split
      · exact cut
      · exact cut.trans ((rates_closeResidue n _ _).trans ((rates_closeMinimum n _ _).trans (rates_closeCarry n _ _)))

theorem rates_rateUnits (n u : Nat) (p : Price) (s : State) : Rates s (rateUnits n u p s) := by
  unfold rateUnits
  split
  · exact .refl s
  · next x hx =>
    have charged (z : ZoneClass) (a : Nat) {y : Session} (hy : y.seat = x.seat) :
        Rates s (chargeThousandths n z a (s.setSes n y)) := rates_setSes_charge z a hx hy
    split
    · exact .refl s
    · exact charged _ _ rfl
    · exact charged _ _ rfl

/-! ### Grants (R91) -/

theorem rates_addGrant (h amount : Nat) (s : State) : Rates s (addGrant h amount s) := by
  unfold addGrant
  split
  · exact .refl s
  · dsimp only
    split
    · split
      · exact (rates_setCtx _ _ s).trans ((rates_setService _ _ _).trans (rates_raise _ _))
      · exact rates_setCtx _ _ s
    · exact rates_setCtx _ _ s

end Sys2Proof.Machine
end

section
/-! Chapter 3, third part: operations that leave every count, and those that move one session from count to count. -/

namespace Sys2Proof.Machine

/-! ### What leaves every count -/

/-- What the counts involve of a link: its counts, its capacity and its state. -/
def Link.counts (k : Link) : Nat × Nat × Nat × Nat × LinkState :=
  (k.bound, k.emergency, k.reserved, k.capacity, k.state)

/-- `t` is `s` after an operation that leaves every seat, every count, the capacities and states of the links and the
in-flight batch. -/
structure Seated (s t : State) : Prop where
  wf : Table.wf s.sess.records = true → Table.wf t.sess.records = true
  seat : ∀ n, t.seat n = s.seat n
  link : ∀ l, (t.link l).counts = (s.link l).counts
  stranded : t.sess.stranded = s.sess.stranded
  batch : t.mig.batch = s.mig.batch

theorem Seated.refl (s : State) : Seated s s := ⟨id, fun _ => rfl, fun _ => rfl, rfl, rfl⟩

theorem Seated.trans {s t u : State} (h₁ : Seated s t) (h₂ : Seated t u) : Seated s u where
  wf := h₂.wf ∘ h₁.wf
  seat n := (h₂.seat n).trans (h₁.seat n)
  link l := (h₂.link l).trans (h₁.link l)
  stranded := h₂.stranded.trans h₁.stranded
  batch := h₂.batch.trans h₁.batch

theorem Seated.foldl {α : Type} {f : State → α → State} (hf : ∀ s a, Seated s (f s a)) (l : List α) (s : State) :
    Seated s (l.foldl f s) := by
  induction l generalizing s with
  | nil => exact .refl s
  | cons a l ih => exact (hf s a).trans (ih _)

theorem Link.counts_eq_iff (j k : Link) : j.counts = k.counts ↔
    j.bound = k.bound ∧ j.emergency = k.emergency ∧ j.reserved = k.reserved ∧ j.capacity = k.capacity
      ∧ j.state = k.state := by
  simp [Link.counts]

/-- The counts go on agreeing where every seat and every count stays and the capacities still suffice. -/
theorem Tallied.congr {s t : State} (hs : Tallied s)
    (wf : Table.wf s.sess.records = true → Table.wf t.sess.records = true)
    (seat : ∀ n, t.seat n = s.seat n) (stranded : t.sess.stranded = s.sess.stranded)
    (link : ∀ l, (t.link l).bound = (s.link l).bound ∧ (t.link l).emergency = (s.link l).emergency
      ∧ (t.link l).reserved = (s.link l).reserved ∧ (s.link l).bound + (s.link l).reserved ≤ (t.link l).capacity) :
    Tallied t := by
  have tally (f : Seat → Bool) := tally_congr f hs.wf (wf hs.wf) seat
  exact {
    wf := wf hs.wf
    bound := fun l => by rw [(link l).1, tally, hs.bound]
    emergency := fun l => by rw [(link l).2.1, tally, hs.emergency]
    reserved := fun l => by rw [(link l).2.2.1, tally, hs.reserved]
    stranded := by rw [stranded, tally, hs.stranded]
    capacity := fun l => by rw [(link l).1, (link l).2.2.1]; exact (link l).2.2.2 }

theorem Tallied.of_same {s t : State} (hs : Tallied s) (he : t.sess = s.sess := by rfl)
    (hl : t.links = s.links := by rfl) : Tallied t :=
  hs.congr (fun h => he ▸ h) (fun n => by simp only [State.seat, State.ses, he]) (by rw [he])
    fun l => by rw [State.link, hl]; exact ⟨rfl, rfl, rfl, hs.capacity l⟩

theorem Seated.tallied {s t : State} (h : Seated s t) (hs : Tallied s) : Tallied t :=
  hs.congr h.wf h.seat h.stranded fun l => by
    obtain ⟨bound, emergency, reserved, capacity, -⟩ := (Link.counts_eq_iff _ _).1 (h.link l)
    exact ⟨bound, emergency, reserved, capacity ▸ hs.capacity l⟩

theorem batched_none {s : State} (hb : s.mig.batch = none) (h : ∀ n, ¬ s.moves n) : Batched s :=
  ⟨fun _ => h, fun _ e => nomatch hb.symm.trans e⟩

theorem batched_some {s : State} {b : Batch} (hb : s.mig.batch = some b) (holds : Holds b s)
    (up : (s.link b.dest).state = .up) : Batched s :=
  ⟨fun e => (nomatch hb.symm.trans e), fun _ e => Option.some.inj (hb.symm.trans e) ▸ ⟨holds, up⟩⟩

theorem moves_congr {s t : State} (seat : ∀ n, t.seat n = s.seat n) (n : Nat) : t.moves n ↔ s.moves n := by
  simp only [State.moves, seat]

theorem Holds.congr {s t : State} {b : Batch} (hb : Holds b s) (seat : ∀ n, t.seat n = s.seat n) : Holds b t where
  nodup := hb.nodup
  moving n hn := by rw [seat]; exact hb.moving n hn
  all n hn := hb.all n ((moves_congr seat n).1 hn)

/-- The counts go from a state to the one after it. -/
def KeepsCounts (s t : State) : Prop := Counts s → Counts t

theorem KeepsCounts.refl (s : State) : KeepsCounts s s := id

theorem KeepsCounts.trans {s t u : State} (h₁ : KeepsCounts s t) (h₂ : KeepsCounts t u) : KeepsCounts s u := h₂ ∘ h₁

theorem KeepsCounts.foldl {α : Type} {f : State → α → State} (hf : ∀ s a, KeepsCounts s (f s a)) (l : List α)
    (s : State) : KeepsCounts s (l.foldl f s) := by
  induction l generalizing s with
  | nil => exact .refl s
  | cons a l ih => exact (hf s a).trans (ih _)

theorem Seated.keeps {s t : State} (h : Seated s t) : KeepsCounts s t := fun hs => by
  obtain ⟨tallied, still, held⟩ := (counts_iff s).1 hs
  refine (counts_iff t).2 ⟨h.tallied tallied, fun hb n => ?_, fun b hb => ?_⟩
  · rw [moves_congr h.seat]; exact still (h.batch ▸ hb) n
  · obtain ⟨holds, up⟩ := held b (h.batch ▸ hb)
    exact ⟨holds.congr h.seat, ((Link.counts_eq_iff _ _).1 (h.link b.dest)).2.2.2.2.trans up⟩

/-- An operation that leaves the sessions, the links and the in-flight batch. -/
theorem Seated.of_same {s t : State} (hs : t.sess = s.sess := by rfl) (hl : t.links = s.links := by rfl)
    (hb : t.mig.batch = s.mig.batch := by rfl) : Seated s t where
  wf h := hs ▸ h
  seat n := by simp only [State.seat, State.ses, hs]
  link l := by simp only [State.link, hl]
  stranded := by rw [hs]
  batch := hb

theorem Rates.seated {s t : State} (h : Rates s t) : Seated s t where
  wf := h.wf
  seat := h.seat
  link l := by rw [h.link]
  stranded := by rw [h.frame]
  batch := by rw [h.mig]

theorem seated_raise (n : Notice) (s : State) : Seated s (s.raise n) := .of_same

theorem seated_setQueue (q : List Order) (s : State) : Seated s (s.setQueue q) := .of_same

theorem State.link_modLink_eq (s : State) (l m : LinkId) (f : Link → Link) :
    (s.modLink l f).link m = if m = l then f (s.link m) else s.link m := by
  split
  · next h => rw [h, State.link_modLink]
  · next h => exact State.link_modLink_other s f h

/-- A link rewritten with its counts, its capacity and its state unchanged. -/
theorem seated_modLink {f : Link → Link} (hf : ∀ k, (f k).counts = k.counts) (l : LinkId) (s : State) :
    Seated s (s.modLink l f) where
  wf := id
  seat _ := rfl
  link m := by
    rw [State.link_modLink_eq]
    split
    · exact hf _
    · rfl
  stranded := rfl
  batch := rfl

/-! ### What moves a session -/

/-- R44, R115: a link after a session has left the count that holds it. -/
theorem loseCount_link (x : Session) (s : State) (m : LinkId) :
    (loseCount x s).link m = { s.link m with
      bound := (s.link m).bound - weigh (boundOn m) (some x.seat)
      emergency := (s.link m).emergency - weigh (emergencyOn m) (some x.seat) } := by
  unfold loseCount
  split
  · next l hl =>
    rw [State.link_modLink_eq]
    by_cases hm : m = l
    · subst hm
      cases hx : x.nonEmergency <;> simp [Link.lose, boundOn, emergencyOn, Session.seat, hl, hx]
    · simp [boundOn, emergencyOn, Session.seat, hl, hm, Ne.symm hm]
  · next hl => simp [boundOn, emergencyOn, Session.seat, hl, State.modStranded, State.link]

/-- R40: the stranded count after a session has left the count that holds it. -/
theorem loseCount_stranded (x : Session) (s : State) :
    (loseCount x s).sess.stranded = s.sess.stranded - weigh strandedSeat (some x.seat) := by
  unfold loseCount
  split
  · next l hl => simp [strandedSeat, Session.seat, hl]
  · next hl => simp [strandedSeat, Session.seat, hl, State.modStranded]

/-- A session that leaves its count changes links and the stranded count and nothing else. -/
theorem loseCount_frame (x : Session) (s : State) :
    loseCount x s = { s with
      links := (loseCount x s).links, sess := { s.sess with stranded := (loseCount x s).sess.stranded } } := by
  unfold loseCount
  split <;> rfl

/-- R115: a link after a slot reserved for a session has been released. -/
theorem releaseSlot_link (src : Source) (d : LinkId) (b : Nat) (x : Session) (s : State) (m : LinkId) :
    (releaseSlot d x s).link m = { s.link m with
      reserved := (s.link m).reserved - weigh (reservedOn m) (some (x.nonEmergency, .moving src d b)) } := by
  unfold releaseSlot
  cases hx : x.nonEmergency with
  | false => simp [reservedOn]
  | true =>
    simp only [if_true, State.link_modLink_eq]
    by_cases hm : m = d
    · subst hm; simp [reservedOn, Binding.movingTo]
    · simp [reservedOn, Binding.movingTo, hm, Ne.symm hm]

/-- A release of a slot changes links and nothing else. -/
theorem releaseSlot_frame (d : LinkId) (x : Session) (s : State) :
    releaseSlot d x s = { s with links := (releaseSlot d x s).links } := by
  unfold releaseSlot
  split <;> rfl

/-- R115: a link after it has gained a session. -/
theorem gain_link (d : LinkId) (x : Session) (s : State) (m : LinkId) :
    (s.modLink d fun k => k.gain x).link m = { s.link m with
      bound := (s.link m).bound + weigh (boundOn m) (some (x.nonEmergency, .bound d))
      emergency := (s.link m).emergency + weigh (emergencyOn m) (some (x.nonEmergency, .bound d)) } := by
  rw [State.link_modLink_eq]
  by_cases hm : m = d
  · subst hm
    cases hx : x.nonEmergency <;> simp [Link.gain, boundOn, emergencyOn, Binding.countedOn, hx]
  · simp [boundOn, emergencyOn, Binding.countedOn, hm, Ne.symm hm]

/-- R44, R133: a session of a batch is counted where it was, and reserves nothing once it is home again. -/
theorem homeBinding_countedOn (src : Source) (d : LinkId) (b : Nat) :
    (homeBinding src).countedOn = (Binding.moving src d b).countedOn := by
  cases src <;> rfl

theorem homeBinding_isMoving (src : Source) : (homeBinding src).isMoving = false := by cases src <;> rfl

theorem Binding.movingTo_eq_false {b : Binding} (hb : b.isMoving = false) (l : LinkId) : b.movingTo l = false := by
  cases b with
  | moving => cases hb
  | bound => rfl
  | stranded => rfl

end Sys2Proof.Machine
end

section
/-! Chapter 3, fourth part: closing a session, ending a batch and stranding keep the counts. -/

namespace Sys2Proof.Machine

theorem seat_congr {s t : State} (h : t.sess.records = s.sess.records) (n : Nat) : t.seat n = s.seat n := by
  simp only [State.seat, State.ses, h]

/-! ### A session of a batch goes home (R133, R136) -/

@[simp] theorem releaseSlot_sess (d : LinkId) (x : Session) (s : State) : (releaseSlot d x s).sess = s.sess := by
  rw [releaseSlot_frame]

@[simp] theorem releaseSlot_mig (d : LinkId) (x : Session) (s : State) : (releaseSlot d x s).mig = s.mig := by
  rw [releaseSlot_frame]

/-- R133: the seats after a session has gone back to a binding. -/
theorem seat_goHome (s : State) (n : Nat) (x : Session) (d : LinkId) (b : Binding) (m : Nat) :
    (releaseSlot d x (s.setSes n { x with binding := b })).seat m =
      if m = n then some (x.nonEmergency, b) else s.seat m := by
  rw [seat_congr (congrArg Sessions.records (releaseSlot_sess ..)), seat_setSes]
  rfl

/-- R133: a MOVING session that goes home gives up its slot and stays in the count that holds it. -/
theorem tallied_goHome {s : State} {n : Nat} {x : Session} {src : Source} {d : LinkId} {b : Nat} (hs : Tallied s)
    (hx : s.ses n = some x) (hb : x.binding = .moving src d b) :
    Tallied (releaseSlot d x (s.setSes n { x with binding := homeBinding src })) := by
  have before : s.seat n = some (x.nonEmergency, .moving src d b) := by rw [seat_of_ses hx, Session.seat, hb]
  have after := (seat_goHome s n x d (homeBinding src) n).trans (if_pos rfl)
  have link := releaseSlot_link src d b x (s.setSes n { x with binding := homeBinding src })
  have counted := homeBinding_countedOn src d b
  have still := Binding.movingTo_eq_false (homeBinding_isMoving src)
  refine hs.move n ?_ (fun m hm => (seat_goHome ..).trans (if_neg hm)) (fun l => ?_) (fun l => ?_) (fun l => ?_) ?_
    fun l => ?_
  · rw [releaseSlot_sess]; exact Table.wf_set _ _ _ hs.wf
  · rw [link, before, after]; simp [boundOn, counted]
  · rw [link, before, after]; simp [emergencyOn, counted]
  · have held := (hs.weigh_le l n).2.2.1
    rw [before] at held
    have gone : weigh (reservedOn l) (some (x.nonEmergency, homeBinding src)) = 0 := by simp [reservedOn, still]
    rw [link, before, after, gone, Nat.add_zero]
    exact Nat.sub_add_cancel held
  · rw [before, after, releaseSlot_sess]; simp [strandedSeat, counted, State.setSes]
  · rw [link]
    have := hs.capacity l
    simp only [State.link_setSes] at this ⊢
    omega

/-! ### Ends of a batch (R133) -/

/-- Operations on sessions of one binding, each of which keeps the tallies and gives its session the binding `new`. -/
theorem tallied_reseatAll {f : State → Nat → State} {old new : Binding}
    (step : ∀ s n c, Tallied s → s.seat n = some (c, old) →
      Tallied (f s n) ∧ ∀ m, (f s n).seat m = if m = n then some (c, new) else s.seat m)
    {ns : List Nat} {s : State} (hs : Tallied s) (hd : ns.Nodup) (hn : ∀ n ∈ ns, ∃ c, s.seat n = some (c, old)) :
    Tallied (ns.foldl f s)
      ∧ ∀ m, (ns.foldl f s).seat m = if m ∈ ns then (s.seat m).map fun p => (p.1, new) else s.seat m := by
  induction ns generalizing s with
  | nil => exact ⟨hs, by simp⟩
  | cons n ns ih =>
    rw [List.nodup_cons] at hd
    rw [List.forall_mem_cons] at hn
    obtain ⟨⟨c, hc⟩, rest⟩ := hn
    obtain ⟨tallied, seat⟩ := step s n c hs hc
    have apart {m : Nat} (hm : m ∈ ns) : m ≠ n := fun e => hd.1 (e ▸ hm)
    obtain ⟨tallied, seats⟩ := ih tallied hd.2 fun m hm => by rw [seat, if_neg (apart hm)]; exact rest m hm
    refine ⟨tallied, fun m => ?_⟩
    rw [List.foldl_cons, seats, seat]
    by_cases hm : m = n
    · subst hm; simp [hd.1, hc]
    · simp [hm]

/-- R132, R133: once every session of its batch has another binding, no session is MOVING. -/
theorem counts_endBatch {f : State → Nat → State} {b : Batch} {new : Binding} (still : new.isMoving = false)
    (step : ∀ s n c, Tallied s → s.seat n = some (c, .moving b.source b.dest b.number) →
      Tallied (f s n) ∧ ∀ m, (f s n).seat m = if m = n then some (c, new) else s.seat m)
    {s t : State} (hs : Tallied s) (hb : Holds b s) (sess : t.sess = (b.sessions.foldl f s).sess)
    (links : t.links = (b.sessions.foldl f s).links) (ended : t.mig.batch = none) : Counts t := by
  obtain ⟨tallied, seats⟩ := tallied_reseatAll step hs hb.nodup hb.moving
  refine (counts_iff t).2 ⟨tallied.of_same sess links, batched_none ended fun n ⟨p, hp, hm⟩ => ?_⟩
  rw [seat_congr (congrArg Sessions.records sess), seats] at hp
  split at hp
  · obtain ⟨q, -, rfl⟩ := Option.map_eq_some_iff.1 hp
    rw [still] at hm
    cases hm
  · next out => exact out (hb.all n ⟨p, hp, hm⟩)

theorem tallied_returnOne {b : Batch} {n : Nat} {s : State} {c : Bool} (hs : Tallied s)
    (hn : s.seat n = some (c, .moving b.source b.dest b.number)) :
    Tallied (returnOne b n s)
      ∧ ∀ m, (returnOne b n s).seat m = if m = n then some (c, homeBinding b.source) else s.seat m := by
  obtain ⟨x, hx, hseat⟩ := (seat_eq_some_iff ..).1 hn
  obtain ⟨rfl, hb⟩ : x.nonEmergency = c ∧ x.binding = .moving b.source b.dest b.number := Prod.mk.injEq .. ▸ hseat
  simp only [returnOne, hx]
  exact ⟨tallied_goHome hs hx hb, seat_goHome s n x b.dest (homeBinding b.source)⟩

theorem counts_returnBatch {b : Batch} {s : State} (hs : Tallied s) (hb : Holds b s) : Counts (returnBatch b s) :=
  counts_endBatch (homeBinding_isMoving b.source) (fun _ _ _ => tallied_returnOne) hs hb rfl rfl rfl

/-! ### Stranding and the end of an order (R138, R139) -/

theorem tallied_strandOne {l : LinkId} {n : Nat} {s : State} {c : Bool} (hs : Tallied s)
    (hn : s.seat n = some (c, .bound l)) :
    Tallied (strandOne l n s) ∧ (strandOne l n s).mig = s.mig
      ∧ (∀ m, ((strandOne l n s).link m).state = (s.link m).state)
      ∧ ∀ m, (strandOne l n s).seat m = if m = n then some (c, .stranded) else s.seat m := by
  have cut := rates_bindingCutOf n s
  have hs := cut.seated.tallied hs
  have before : (bindingCutOf n s).seat n = some (c, .bound l) := (cut.seat n).trans hn
  obtain ⟨x, hx, hseat⟩ := (seat_eq_some_iff ..).1 before
  obtain ⟨rfl, hb⟩ : x.nonEmergency = c ∧ x.binding = .bound l := Prod.mk.injEq .. ▸ hseat
  simp only [strandOne, hx]
  generalize bindingCutOf n s = u at *
  have lost : (u.modLink l fun k => k.lose x) = loseCount x u := by simp only [loseCount, hb, Binding.countedOn]
  rw [lost]
  generalize ht : (((loseCount x u).setSes n { x with binding := .stranded }).modStranded (· + 1)).raise _ = t
  have records : t.sess.records = Table.set u.sess.records n { x with binding := .stranded } := by
    rw [← ht, loseCount_frame]; rfl
  have seat (m : Nat) : t.seat m = if m = n then some (x.nonEmergency, .stranded) else u.seat m := by
    rw [seat_congr (s := u.setSes n { x with binding := .stranded }) records, seat_setSes]; rfl
  have link (m : LinkId) : t.link m = (loseCount x u).link m := by rw [← ht]; rfl
  have stranded : t.sess.stranded = (loseCount x u).sess.stranded + 1 := by rw [← ht]; rfl
  have seated : x.seat = (x.nonEmergency, .bound l) := hseat
  refine ⟨hs.move n ?_ (fun m hm => (seat m).trans (if_neg hm)) (fun m => ?_) (fun m => ?_) (fun m => ?_) ?_
    fun m => ?_,
    ?_, fun m => ?_, fun m => ?_⟩
  · rw [records]; exact Table.wf_set _ _ _ hs.wf
  · have := (hs.weigh_le m n).1
    rw [link, loseCount_link, seated, seat, if_pos rfl, before] at *
    simp [boundOn, Binding.countedOn] at this ⊢
    omega
  · have := (hs.weigh_le m n).2.1
    rw [link, loseCount_link, seated, seat, if_pos rfl, before] at *
    simp [emergencyOn, Binding.countedOn] at this ⊢
    omega
  · rw [link, loseCount_link, seat, if_pos rfl, before]; rfl
  · rw [stranded, loseCount_stranded, seated, seat, if_pos rfl, before]; simp [strandedSeat, Binding.countedOn]
  · have := hs.capacity m
    rw [link, loseCount_link]
    simp only
    omega
  · rw [← ht, ← cut.mig, loseCount_frame]; rfl
  · rw [link, loseCount_link, ← cut.link]
  · rw [seat, ← cut.seat]

/-- R130: a change at one handle, of a session that is MOVING neither before nor after it, leaves the batch in order. -/
theorem Batched.change {s t : State} (n : Nat) (hs : Batched s) (batch : t.mig.batch = s.mig.batch)
    (state : ∀ l, (t.link l).state = (s.link l).state) (other : ∀ m, m ≠ n → t.seat m = s.seat m)
    (before : ¬ s.moves n) (after : ¬ t.moves n) : Batched t := by
  have apart {m : Nat} (hm : t.moves m) : s.moves m := by
    have hn : m ≠ n := fun e => after (e ▸ hm)
    simpa only [State.moves, other m hn] using hm
  refine ⟨fun hb m hm => hs.1 (batch ▸ hb) m (apart hm), fun b hb => ?_⟩
  obtain ⟨holds, up⟩ := hs.2 b (batch ▸ hb)
  refine ⟨⟨holds.nodup, fun m hm => ?_, fun m hm => holds.all m (apart hm)⟩, (state _).trans up⟩
  obtain ⟨c, hc⟩ := holds.moving m hm
  have moves : s.moves m := ⟨_, hc, rfl⟩
  exact ⟨c, (other m fun e => before (by rwa [e] at moves)).trans hc⟩

theorem not_moves_of_seat {s : State} {n : Nat} {p : Seat} (hp : s.seat n = some p) (hm : p.2.isMoving = false) :
    ¬ s.moves n := by
  rintro ⟨q, hq, moving⟩
  rw [hp] at hq
  cases hq
  rw [hm] at moving
  cases moving

theorem counts_strandOne {l : LinkId} {n : Nat} {s : State} {c : Bool} (hs : Counts s)
    (hn : s.seat n = some (c, .bound l)) : Counts (strandOne l n s) := by
  obtain ⟨tallied, batched⟩ := (counts_iff s).1 hs
  obtain ⟨tallied, mig, state, seat⟩ := tallied_strandOne tallied hn
  exact (counts_iff _).2 ⟨tallied, batched.change n (by rw [mig]) state (fun m hm => (seat m).trans (if_neg hm))
    (not_moves_of_seat hn rfl) (not_moves_of_seat ((seat n).trans (if_pos rfl)) rfl)⟩

/-- R139: sessions of a link stranded one after another. -/
theorem counts_strandList {l : LinkId} {ns : List Nat} {s : State} (hs : Counts s) (hd : ns.Nodup)
    (hn : ∀ n ∈ ns, ∃ c, s.seat n = some (c, .bound l)) : Counts (ns.foldl (fun s n => strandOne l n s) s) := by
  induction ns generalizing s with
  | nil => exact hs
  | cons n ns ih =>
    rw [List.nodup_cons] at hd
    rw [List.forall_mem_cons] at hn
    obtain ⟨⟨c, hc⟩, rest⟩ := hn
    obtain ⟨-, -, -, seat⟩ := tallied_strandOne ((counts_iff s).1 hs).1 hc
    refine ih (counts_strandOne hs hc) hd.2 fun m hm => ?_
    have apart : m ≠ n := fun e => hd.1 (e ▸ hm)
    rw [seat, if_neg apart]
    exact rest m hm

/-- In the canonical form no number is listed twice. -/
theorem Table.nodup_keys {α : Type} {t : Table α} (ht : t.wf = true) : (t.map Prod.fst).Nodup := by
  unfold Table.wf at ht
  generalize (none : Option Nat) = b at ht
  induction t generalizing b with
  | nil => exact List.nodup_nil
  | cons p t ih =>
    simp only [Table.risingFrom, Bool.and_eq_true] at ht
    refine List.nodup_cons.2 ⟨fun hp => ?_, ih _ ht.2⟩
    obtain ⟨q, hq, e⟩ := List.mem_map.1 hp
    exact absurd (Table.above_of_rising ht.2 q hq) (by omega)

theorem inScope_nodup (o : Order) {s : State} (hw : Table.wf s.sess.records = true) :
    ((s.inScope o).map Prod.fst).Nodup :=
  (Table.nodup_keys hw).sublist (List.filter_sublist.map Prod.fst)

/-- R122: a session in scope of an order is counted on its source. -/
theorem mem_inScope {o : Order} {s : State} {p : Nat × Session} (hw : Table.wf s.sess.records = true)
    (hp : p ∈ s.inScope o) : s.ses p.1 = some p.2 ∧ p.2.binding = homeBinding o.source := by
  obtain ⟨hmem, test⟩ := List.mem_filter.1 hp
  refine ⟨Table.get_of_mem hw hmem, ?_⟩
  have on : onSource o.source p.2.binding = true := by
    simp only [Bool.and_eq_true] at test
    exact test.1
  unfold onSource at on
  split at on
  · next l m hsrc hb => rw [hsrc, hb, eq_of_beq on]; rfl
  · next hsrc hb => rw [hsrc, hb]; rfl
  · cases on

/-- R138: the sessions that an order's end strands are BOUND to its source, each named once. -/
theorem strandedBy_spec {o : Order} {l : LinkId} (outcome : OrderOutcome) {s : State} (hsrc : o.source = .link l)
    (hw : Table.wf s.sess.records = true) :
    (strandedBy o outcome s).Nodup ∧ ∀ n ∈ strandedBy o outcome s, ∃ c, s.seat n = some (c, .bound l) := by
  simp only [strandedBy, hsrc]
  split
  · refine ⟨inScope_nodup o hw, fun n hn => ?_⟩
    obtain ⟨p, hp, rfl⟩ := List.mem_map.1 hn
    obtain ⟨hx, hb⟩ := mem_inScope hw hp
    exact ⟨p.2.nonEmergency, by rw [seat_of_ses hx, Session.seat, hb, hsrc]; rfl⟩
  · exact ⟨List.nodup_nil, nofun⟩

theorem counts_endOrder (outcome : OrderOutcome) (s : State) : KeepsCounts s (endOrder outcome s) := by
  intro hs
  unfold endOrder
  split
  · exact hs
  · next o rest _ =>
    have stranded : Counts (strandAll o (strandedBy o outcome s) s) := by
      unfold strandAll
      split
      · exact hs
      · next l hsrc =>
        obtain ⟨nodup, bound⟩ := strandedBy_spec outcome hsrc hs.1
        exact counts_strandList hs nodup bound
    exact ((seated_raise _ _).trans (seated_setQueue _ _)).keeps stranded

theorem counts_batchFailed (d : LinkId) (s : State) : KeepsCounts s (batchFailed d s) := by
  unfold batchFailed
  split
  · exact .refl s
  · split
    · exact counts_endOrder _ s
    · exact (seated_setQueue _ s).keeps

theorem counts_refuseBatch {b : Batch} {s : State} (hs : Tallied s) (hb : Holds b s) : Counts (refuseBatch b s) :=
  counts_batchFailed _ _ (counts_returnBatch hs hb)

theorem counts_abandonBatch {b : Batch} (cause : AbandonCause) {s : State} (hs : Tallied s) (hb : Holds b s) :
    Counts (abandonBatch b cause s) :=
  counts_batchFailed _ _ ((seated_raise _ _).keeps (counts_returnBatch hs hb))

theorem counts_batchTimeoutEffect (s : State) : KeepsCounts s (batchTimeoutEffect s) := by
  unfold batchTimeoutEffect
  split
  · exact .refl s
  · next b hb =>
    split
    · intro hs
      obtain ⟨tallied, batched⟩ := (counts_iff s).1 hs
      exact counts_abandonBatch _ tallied (batched.2 b hb).1
    · exact .refl s

/-! ### A change of a link's state (R110, R111, R135) -/

theorem seated_raiseOrder (src : Source) (sc : Scope) (ca : OrderCause) (s : State) :
    Seated s (raiseOrder src sc ca s) := by
  rw [raiseOrder_eq]
  exact .of_same

theorem seated_raiseForState (l : LinkId) (before after : LinkState) (s : State) :
    Seated s (raiseForState l before after s) := by
  have rescue : Seated s (if 0 < s.sess.stranded then raiseOrder .rescue .all .rescue s else s) := by
    split
    · exact seated_raiseOrder _ _ _ s
    · exact .refl s
  unfold raiseForState
  split
  iterate 7 exact seated_raiseOrder _ _ _ s
  iterate 2 exact rescue
  exact .refl s

/-- R110, R135: a link that leaves UP loses the batch that it is the destination of, so that no destination is ever
other than UP. -/
theorem counts_changeState (l : LinkId) (after : LinkState) (cause : LinkCause) (s : State) :
    KeepsCounts s (changeState l after cause s) := by
  intro hs
  obtain ⟨tallied, still, held⟩ := (counts_iff s).1 hs
  simp only [changeState]
  refine (seated_raiseForState l _ after _).keeps ?_
  generalize hu : (s.modLink l fun k => { k with state := after, streak := 0 }).raise _ = u
  have seat (n : Nat) : u.seat n = s.seat n := by rw [← hu]; rfl
  have batch : u.mig.batch = s.mig.batch := by rw [← hu]; rfl
  have link (m : LinkId) : u.link m = if m = l then { s.link m with state := after, streak := 0 } else s.link m := by
    rw [← hu, State.link_raise, State.link_modLink_eq]
  have tallied : Tallied u := tallied.congr (fun h => by rw [← hu]; exact h) seat (by rw [← hu]; rfl) fun m => by
    rw [link]
    split <;> exact ⟨rfl, rfl, rfl, tallied.capacity m⟩
  unfold loseDestination
  split
  · next hb =>
    refine (counts_iff u).2 ⟨tallied, batched_none hb fun n => ?_⟩
    rw [moves_congr seat]
    exact still (batch ▸ hb) n
  · next b hb =>
    obtain ⟨holds, up⟩ := held b (batch ▸ hb)
    have holds : Holds b u := holds.congr seat
    split
    · exact counts_abandonBatch _ tallied holds
    · next kept =>
      refine (counts_iff u).2 ⟨tallied, batched_some hb holds ?_⟩
      rw [link]
      split
      · next e => exact by_contra fun down => kept ⟨e ▸ up, down, e⟩
      · exact up

end Sys2Proof.Machine
end

section
/-! Chapter 3, fifth part: opening and closing a session, and forming and accepting a batch, keep the counts. -/

namespace Sys2Proof.Machine

/-! ### Withdrawal from the batch (R136) -/

/-- R136: a session that has been withdrawn is where it was counted, and is not MOVING. -/
theorem withdraw_seat {n : Nat} {s : State} {x : Session} (hx : s.ses n = some x) :
    ∃ b, (withdraw n s).ses n = some { x with binding := b } ∧ b.isMoving = false
      ∧ b.countedOn = x.binding.countedOn := by
  unfold withdraw
  simp only [hx]
  split
  · next src d k hb =>
    refine ⟨homeBinding src, ?_, homeBinding_isMoving src, by rw [hb, homeBinding_countedOn]⟩
    have home : (releaseSlot d x (s.setSes n { x with binding := homeBinding src })).ses n =
        some { x with binding := homeBinding src } := by
      rw [State.ses, releaseSlot_sess]; exact State.ses_setSes ..
    split
    · exact home
    · split <;> exact home
  · next still =>
    refine ⟨x.binding, hx, ?_, rfl⟩
    cases hb : x.binding with
    | moving src d k => exact absurd hb (still src d k)
    | bound => rfl
    | stranded => rfl

/-- R130, R136: the batch goes on with the sessions left in it, or ends with the last of them. -/
theorem counts_withdraw (n : Nat) (s : State) : KeepsCounts s (withdraw n s) := by
  intro hs
  obtain ⟨tallied, still, held⟩ := (counts_iff s).1 hs
  unfold withdraw
  split
  · exact hs
  · next x hx =>
    split
    · next src d k hb =>
      have home := tallied_goHome tallied hx hb
      have seat := seat_goHome s n x d (homeBinding src)
      have mig : (releaseSlot d x (s.setSes n { x with binding := homeBinding src })).mig = s.mig := releaseSlot_mig ..
      have state (l : LinkId) : ((releaseSlot d x (s.setSes n { x with binding := homeBinding src })).link l).state =
          (s.link l).state := by rw [releaseSlot_link src d k]; rfl
      have left {m : Nat} (hm : State.moves (releaseSlot d x (s.setSes n { x with binding := homeBinding src })) m) :
          m ≠ n ∧ s.moves m := by
        have hmn : m ≠ n := fun e => not_moves_of_seat ((seat m).trans (if_pos e)) (homeBinding_isMoving src) hm
        refine ⟨hmn, ?_⟩
        simpa only [State.moves, seat, if_neg hmn] using hm
      have moves : s.moves n := ⟨x.seat, seat_of_ses hx, by rw [Session.seat, hb]; rfl⟩
      dsimp only
      generalize releaseSlot d x (s.setSes n { x with binding := homeBinding src }) = u at *
      split
      · next none_left => exact absurd moves (still (mig ▸ none_left) n)
      · next b hbatch =>
        obtain ⟨holds, up⟩ := held b (mig ▸ hbatch)
        have mem {m : Nat} (hm : u.moves m) : m ∈ b.sessions.filter fun m => m != n :=
          List.mem_filter.2 ⟨holds.all m (left hm).2, by simpa using (left hm).1⟩
        split
        · next empty =>
          refine (counts_iff _).2 ⟨home.of_same, batched_none rfl fun m hm => ?_⟩
          rw [List.isEmpty_iff.1 empty] at mem
          cases mem hm
        · refine (counts_iff _).2 ⟨home.of_same,
            batched_some rfl ⟨holds.nodup.filter _, fun m hm => ?_, fun m => mem⟩ ((state _).trans up)⟩
          obtain ⟨hm, hmn⟩ := List.mem_filter.1 hm
          exact ((seat m).trans (if_neg (by simpa using hmn))) ▸ holds.moving m hm
    · exact hs

/-! ### Closing (R50) -/

theorem loseUse_frame (x : Session) (s : State) : loseUse x s = { s with tariff := (loseUse x s).tariff } := by
  unfold loseUse
  split <;> rfl

/-- R50 step 4: uncounting a session changes the count that holds it, and for a charged one its partner and plan. -/
theorem uncount_eq {s : State} {n : Nat} {x : Session} (hx : s.ses n = some x) :
    uncount n s = { loseCount x s with tariff := (uncount n s).tariff } := by
  simp only [uncount, hx]
  split
  · exact loseUse_frame x _
  · rfl

theorem notifyClose_frame (n : Nat) (reason : CloseReason) (s : State) :
    notifyClose n reason s = { s with raised := (notifyClose n reason s).raised } := by
  unfold notifyClose
  split
  · rfl
  · split <;> rfl

/-- R50 steps 4 to 6, without the tariff and the notices: what they leave of the rest of the state. -/
theorem closing_frame {s : State} {n : Nat} {x : Session} (reason : CloseReason) (hx : s.ses n = some x) :
    let t := (notifyClose n reason (uncount n s)).freeSession n
    t = { s with
      sess := { records := Table.erase s.sess.records n, stranded := (loseCount x s).sess.stranded }
      links := (loseCount x s).links, tariff := t.tariff, raised := t.raised } := by
  dsimp only
  rw [notifyClose_frame, uncount_eq hx, loseCount_frame]
  rfl

theorem seat_freed {s t : State} {n : Nat} (h : t.sess.records = Table.erase s.sess.records n) (m : Nat) :
    t.seat m = if m = n then none else s.seat m := by
  simp only [State.seat, State.ses, h, Table.get_erase]
  split <;> rfl

/-- R50 steps 4 to 6: a session that is not MOVING leaves the count that holds it and the table. -/
theorem counts_closing {s : State} {n : Nat} {x : Session} (reason : CloseReason) (hs : Counts s)
    (hx : s.ses n = some x) (hm : x.binding.isMoving = false) :
    Counts ((notifyClose n reason (uncount n s)).freeSession n) := by
  obtain ⟨tallied, batched⟩ := (counts_iff s).1 hs
  have frame := closing_frame reason hx
  generalize (notifyClose n reason (uncount n s)).freeSession n = t at frame
  dsimp only at frame
  have seat := seat_freed (s := s) (t := t) (n := n) (by rw [frame])
  have link (l : LinkId) : t.link l = (loseCount x s).link l := by rw [frame]; rfl
  have stranded : t.sess.stranded = (loseCount x s).sess.stranded := by rw [frame]
  have before := seat_of_ses hx
  have after := (seat n).trans (if_pos rfl)
  have held := fun l => tallied.weigh_le l n
  simp only [before] at held
  refine (counts_iff t).2 ⟨tallied.move n ?_ (fun m hm => (seat m).trans (if_neg hm)) (fun l => ?_) (fun l => ?_)
    (fun l => ?_) ?_ fun l => ?_, batched.change n (by rw [frame]) (fun l => by rw [link, loseCount_link])
    (fun m hm => (seat m).trans (if_neg hm)) (not_moves_of_seat before hm) ?_⟩
  · rw [frame]; exact Table.wf_erase _ _ tallied.wf
  · have := (held l).1
    rw [link, loseCount_link, before, after, weigh_none]
    exact Nat.sub_add_cancel this
  · have := (held l).2.1
    rw [link, loseCount_link, before, after, weigh_none]
    exact Nat.sub_add_cancel this
  · have unreserved : weigh (reservedOn l) (some x.seat) = 0 := by
      simp [reservedOn, Session.seat, Binding.movingTo_eq_false hm]
    rw [link, loseCount_link, before, after, weigh_none, unreserved]
  · have := (held 0).2.2.2
    rw [stranded, loseCount_stranded, before, after, weigh_none]
    exact Nat.sub_add_cancel this
  · have := tallied.capacity l
    rw [link, loseCount_link]
    dsimp only
    omega
  · rintro ⟨p, hp, -⟩
    rw [after] at hp
    cases hp

theorem rates_unlist (n : Nat) (s : State) : Rates s (unlist n s) := by
  unfold unlist State.modCtx
  split
  · exact .refl s
  · split
    · exact .refl s
    · exact rates_setCtx _ _ s

theorem counts_closeSession (n : Nat) (reason : CloseReason) (s : State) :
    KeepsCounts s (closeSession n reason s) := by
  intro hs
  cases hx : s.ses n with
  | none =>
    rw [closeSession_absent reason hx]
    refine Seated.keeps ⟨Table.wf_erase _ _, fun m => ?_, fun _ => rfl, rfl, rfl⟩ hs
    rw [seat_freed (s := s) rfl]
    split
    · next e => rw [e, State.seat, hx]; rfl
    · rfl
  | some x =>
    obtain ⟨b, hw, still, -⟩ := withdraw_seat hx
    have rates : Rates (withdraw n s) (closeRated n s) := (rates_unlist n _).trans (rates_finalRating n _)
    have rated := rates.seated.keeps (counts_withdraw n s hs)
    obtain ⟨y, hy, hseat⟩ := (seat_eq_some_iff ..).1 ((rates.seat n).trans (seat_of_ses hw))
    have same : y.binding = b := congrArg Prod.snd hseat
    exact counts_closing reason rated hy (same ▸ still)

theorem counts_closeList (ns : List Nat) (reason : CloseReason) (s : State) :
    KeepsCounts s (closeList ns reason s) :=
  .foldl (fun s n => counts_closeSession n reason s) ns s

/-! ### Opening (R47, R48) -/

/-- R44, R115: a session opened at a free handle joins the count that its binding names. -/
theorem counts_openRecord {n : Nat} {x : Session} {s : State} (hs : Counts s) (free : s.ses n = none)
    (still : x.binding.isMoving = false)
    (room : ∀ l, x.binding = .bound l → x.nonEmergency = true →
      (s.link l).bound + (s.link l).reserved < (s.link l).capacity) : Counts (openRecord n x s) := by
  obtain ⟨tallied, batched⟩ := (counts_iff s).1 hs
  have before : s.seat n = none := by rw [State.seat, free]; rfl
  have seat (t : State) (ht : t.sess.records = Table.set s.sess.records n x) (m : Nat) :
      t.seat m = if m = n then some x.seat else s.seat m := by
    rw [seat_congr (s := s.setSes n x) ht, seat_setSes]
  have idle : ¬ s.moves n := fun ⟨p, hp, _⟩ => by rw [before] at hp; cases hp
  cases hb : x.binding with
  | moving src d k => rw [hb] at still; cases still
  | bound l =>
    have opened : openRecord n x s = (s.setSes n x).modLink l fun k => k.gain x := by
      simp only [openRecord, hb, Binding.countedOn]
    have seated : x.seat = (x.nonEmergency, .bound l) := by rw [Session.seat, hb]
    rw [opened]
    have link (m : LinkId) := gain_link l x (s.setSes n x) m
    have seat := seat ((s.setSes n x).modLink l fun k => k.gain x) rfl
    have after := (seat n).trans (if_pos rfl)
    refine (counts_iff _).2 ⟨tallied.move n (Table.wf_set _ _ _ tallied.wf) (fun m hm => (seat m).trans (if_neg hm))
      (fun m => ?_) (fun m => ?_) (fun m => ?_) ?_ fun m => ?_, batched.change n rfl (fun m => by rw [link]; rfl)
      (fun m hm => (seat m).trans (if_neg hm)) idle (not_moves_of_seat after still)⟩
    · rw [link, before, after, seated]; rfl
    · rw [link, before, after, seated]; rfl
    · rw [link, before, after, seated]; simp [reservedOn, Binding.movingTo]
    · rw [before, after, seated]; simp [strandedSeat, Binding.countedOn, State.setSes]
    · rw [link]
      have fits := tallied.capacity m
      have room := room l hb
      by_cases hm : l = m
      · subst hm
        cases hx : x.nonEmergency with
        | false => simpa [boundOn] using fits
        | true =>
          have := room hx
          simp [boundOn, Binding.countedOn]
          omega
      · simpa [boundOn, Binding.countedOn, hm] using fits
  | stranded =>
    have opened : openRecord n x s =
        ((s.setSes n x).modStranded (· + 1)).raise (.stranded n x.subscriber x.cls none x.ref) := by
      simp only [openRecord, hb, Binding.countedOn]
    have seated : x.seat = (x.nonEmergency, .stranded) := by rw [Session.seat, hb]
    rw [opened]
    have seat := seat (((s.setSes n x).modStranded (· + 1)).raise (.stranded n x.subscriber x.cls none x.ref)) rfl
    have after := (seat n).trans (if_pos rfl)
    refine (counts_iff _).2 ⟨tallied.move n (Table.wf_set _ _ _ tallied.wf) (fun m hm => (seat m).trans (if_neg hm))
      (fun m => ?_) (fun m => ?_) (fun m => ?_) ?_ fun m => tallied.capacity m, batched.change n rfl (fun m => rfl)
      (fun m hm => (seat m).trans (if_neg hm)) idle (not_moves_of_seat after still)⟩
    · rw [before, after, seated]; simp [boundOn, Binding.countedOn]; rfl
    · rw [before, after, seated]; simp [emergencyOn, Binding.countedOn]; rfl
    · rw [before, after, seated]; simp [reservedOn, Binding.movingTo]; rfl
    · rw [before, after, seated]; simp [strandedSeat, Binding.countedOn, State.setSes, State.modStranded]

/-! ### Forming a batch (R128 to R130) -/

/-- R129: the handles of sessions rewritten with a binding, and the others. -/
theorem rebind_seat (taken : List (Nat × Session)) (b : Binding) (s : State) (m : Nat) :
    let t := taken.foldl (fun s p => s.setSes p.1 { p.2 with binding := b }) s
    (m ∈ taken.map Prod.fst → ∃ c, t.seat m = some (c, b)) ∧ (m ∉ taken.map Prod.fst → t.seat m = s.seat m) := by
  induction taken generalizing s with
  | nil => exact ⟨nofun, fun _ => rfl⟩
  | cons p taken ih =>
    obtain ⟨moved, kept⟩ := ih (s.setSes p.1 { p.2 with binding := b })
    rw [seat_setSes] at kept
    simp only [List.map_cons, List.mem_cons, not_or, List.foldl_cons]
    refine ⟨fun hm => ?_, fun hm => (kept hm.2).trans (if_neg hm.1)⟩
    by_cases later : m ∈ taken.map Prod.fst
    · exact moved later
    · exact ⟨_, (kept later).trans (if_pos (hm.resolve_right later))⟩

/-- Sessions are rewritten and a link changed in either order. -/
theorem rebind_modLink (taken : List (Nat × Session)) (b : Binding) (d : LinkId) (f : Link → Link) (s : State) :
    taken.foldl (fun s p => s.setSes p.1 { p.2 with binding := b }) (s.modLink d f) =
      (taken.foldl (fun s p => s.setSes p.1 { p.2 with binding := b }) s).modLink d f := by
  induction taken generalizing s with
  | nil => rfl
  | cons p taken ih => exact ih (s.setSes p.1 { p.2 with binding := b })

/-- R115: a link with a number of slots more reserved. -/
def Link.reserve (j : Nat) (k : Link) : Link := { k with reserved := k.reserved + j }

theorem reserve_reserve (s : State) (d : LinkId) (i j : Nat) :
    (s.modLink d (Link.reserve i)).modLink d (Link.reserve j) = s.modLink d (Link.reserve (i + j)) := by
  simp [State.modLink, Link.reserve, Nat.add_assoc]

/-- R115: what reserving slots for a session does to the reserved counts. -/
theorem reserve_link (src : Source) (d : LinkId) (b : Nat) (x : Session) (s : State) (m : LinkId) :
    (s.modLink d (Link.reserve (if x.nonEmergency then 1 else 0))).link m = { s.link m with
      reserved := (s.link m).reserved + weigh (reservedOn m) (some (x.nonEmergency, .moving src d b)) } := by
  rw [State.link_modLink_eq]
  by_cases hm : m = d
  · subst hm; cases hx : x.nonEmergency <;> simp [Link.reserve, reservedOn, Binding.movingTo]
  · simp [reservedOn, Binding.movingTo, hm, Ne.symm hm]

/-- R115: a session counted on a source that starts to move stays in its count, and its slot is reserved. -/
theorem tallied_depart {s : State} {n : Nat} {x : Session} {src : Source} {d : LinkId} {b : Nat} (hs : Tallied s)
    (hx : s.ses n = some x) (hb : x.binding = homeBinding src)
    (room : (s.link d).bound + (s.link d).reserved + (if x.nonEmergency then 1 else 0) ≤ (s.link d).capacity) :
    Tallied ((s.setSes n { x with binding := .moving src d b }).modLink d
      (Link.reserve (if x.nonEmergency then 1 else 0))) := by
  have before : s.seat n = some (x.nonEmergency, homeBinding src) := by rw [seat_of_ses hx, Session.seat, hb]
  have seat (m : Nat) : ((s.setSes n { x with binding := .moving src d b }).modLink d
      (Link.reserve (if x.nonEmergency then 1 else 0))).seat m =
        if m = n then some (x.nonEmergency, .moving src d b) else s.seat m := seat_setSes s n _ m
  have after := (seat n).trans (if_pos rfl)
  have link := reserve_link src d b x (s.setSes n { x with binding := .moving src d b })
  have counted := homeBinding_countedOn src d b
  have still := Binding.movingTo_eq_false (homeBinding_isMoving src)
  refine hs.move n (Table.wf_set _ _ _ hs.wf) (fun m hm => (seat m).trans (if_neg hm)) (fun l => ?_) (fun l => ?_)
    (fun l => ?_) ?_ fun l => ?_
  · rw [link, before, after]; simp [boundOn, counted]
  · rw [link, before, after]; simp [emergencyOn, counted]
  · have unreserved : weigh (reservedOn l) (some (x.nonEmergency, homeBinding src)) = 0 := by simp [reservedOn, still]
    rw [link, before, after, unreserved]
    rfl
  · rw [before, after]; simp [strandedSeat, counted, State.setSes]
  · rw [State.link_modLink_eq]
    have := hs.capacity l
    split
    · next e => rw [e]; simp only [Link.reserve, State.link_setSes]; omega
    · exact this

/-- R129: the non-emergency sessions of a batch, counted. -/
def slotsOf (taken : List (Nat × Session)) : Nat := (taken.filter fun p => p.2.nonEmergency).length

theorem slotsOf_cons (p : Nat × Session) (taken : List (Nat × Session)) :
    slotsOf (p :: taken) = (if p.2.nonEmergency then 1 else 0) + slotsOf taken := by
  by_cases hp : p.2.nonEmergency = true <;> simp [slotsOf, hp, Nat.add_comm]

/-- R115, R129: the sessions that a batch takes stay in the counts of its source, and their slots are reserved. -/
theorem tallied_rebind {taken : List (Nat × Session)} {src : Source} {d : LinkId} (b : Nat) {s : State}
    (hs : Tallied s) (hd : (taken.map Prod.fst).Nodup)
    (ht : ∀ p ∈ taken, s.ses p.1 = some p.2 ∧ p.2.binding = homeBinding src)
    (room : (s.link d).bound + (s.link d).reserved + slotsOf taken ≤ (s.link d).capacity) :
    Tallied ((taken.foldl (fun s p => s.setSes p.1 { p.2 with binding := .moving src d b }) s).modLink d
      (Link.reserve (slotsOf taken))) := by
  induction taken generalizing s with
  | nil =>
    refine hs.congr id (fun _ => rfl) rfl fun l => ?_
    rw [State.link_modLink_eq]
    split <;> exact ⟨rfl, rfl, rfl, hs.capacity l⟩
  | cons p taken ih =>
    rw [List.map_cons, List.nodup_cons] at hd
    rw [List.forall_mem_cons] at ht
    obtain ⟨⟨hx, hb⟩, rest⟩ := ht
    rw [slotsOf_cons] at room ⊢
    have first := tallied_depart (b := b) hs hx hb (Nat.le_trans (Nat.add_le_add_left (Nat.le_add_right _ _) _) room)
    have later := ih first hd.2 (fun q hq => ?_) ?_
    · rw [rebind_modLink, reserve_reserve] at later
      exact later
    · have apart : q.1 ≠ p.1 := fun e => hd.1 (e ▸ List.mem_map_of_mem hq)
      rw [State.ses_modLink, State.ses_setSes_other _ _ apart]
      exact rest q hq
    · simp only [State.link_modLink, State.link_setSes, Link.reserve]
      omega

/-- R129: the walk takes no more non-emergency sessions than there is room for. -/
theorem slotsOf_takeSessions_le (l : List (Nat × Session)) (room slots : Nat) :
    slotsOf (takeSessions l room slots) ≤ room := by
  fun_induction takeSessions l room slots with
  | case1 => exact Nat.zero_le _
  | case2 => exact Nat.zero_le _
  | case3 p rest room slots h ih => rw [slotsOf_cons]; simp at h; simpa [h] using ih
  | case4 p rest slots h ih => exact ih
  | case5 p rest slots h r ih => rw [slotsOf_cons]; simp at h; simp [h]; omega

end Sys2Proof.Machine
end

section
/-! Chapter 3, sixth part: the batch step, acceptance, silence, reset and the requests that touch links or sessions keep
the counts. -/

namespace Sys2Proof.Machine

/-! ### The batch step (R125 to R130) -/

/-- R127, R128: a batch goes to a link that is UP. -/
theorem destination_up {s : State} {o : Order} {scope : List (Nat × Session)} {d : LinkId} {ne : Bool}
    (h : s.destination o scope = .batch d ne) : (s.link d).state = .up := by
  have candidate_up {d : LinkId} (hd : s.candidate o d = true) : (s.link d).state = .up := by
    simp only [State.candidate, Bool.and_eq_true, beq_iff_eq] at hd
    exact hd.1.1
  unfold State.destination at h
  dsimp only at h
  split at h
  · next e _ =>
    split at h
    · cases h
    · next up =>
      split at h
      · cases h
      · cases h
        exact not_not.1 up
  · split at h
    · split at h
      · cases h
      · next hd => cases h; exact candidate_up (bestLink_admits hd)
    · split at h
      · next hd =>
        cases h
        have both := bestLink_admits hd
        exact candidate_up (by simp only [Bool.and_eq_true] at both; exact both.1)
      · split at h
        · split at h
          · cases h
          · next hd => cases h; exact candidate_up (bestLink_admits hd)
        · cases h

theorem stepChoice_up {s : State} {o : Order} {d : LinkId} {ne : Bool} (h : s.stepChoice o = .batch d ne) :
    (s.link d).state = .up := by
  unfold State.stepChoice at h
  dsimp only at h
  split at h
  · cases h
  · split at h
    · cases h
    · exact destination_up h

/-- R129: the sessions that a batch takes fit the destination's free capacity. -/
theorem slotsOf_batchSessions_le (s : State) (o : Order) (d : LinkId) (ne : Bool)
    (hd : (s.link d).bound + (s.link d).reserved ≤ (s.link d).capacity) :
    (s.link d).bound + (s.link d).reserved + slotsOf (s.batchSessions o d ne) ≤ (s.link d).capacity := by
  have room := slotsOf_takeSessions_le (s.inScope o) (if ne then (s.link d).free else 0) batchMax
  have free : (if ne then (s.link d).free else 0) ≤ (s.link d).capacity - (s.link d).bound - (s.link d).reserved := by
    split
    · exact Nat.le_refl _
    · exact Nat.zero_le _
  unfold State.batchSessions
  omega

theorem counts_formBatch {s : State} {o : Order} {rest : List Order} {d : LinkId} {taken : List (Nat × Session)}
    (hs : Counts s) (none_yet : s.mig.batch = none) (up : (s.link d).state = .up)
    (sub : taken.Sublist (s.inScope o))
    (room : (s.link d).bound + (s.link d).reserved + slotsOf taken ≤ (s.link d).capacity) :
    Counts (formBatch o rest d taken s) := by
  obtain ⟨tallied, batched⟩ := (counts_iff s).1 hs
  have nodup : (taken.map Prod.fst).Nodup := (inScope_nodup o tallied.wf).sublist (sub.map _)
  have moved := tallied_rebind (nextBatch s.mig.counter) tallied nodup
    (fun p hp => mem_inScope tallied.wf (sub.subset hp)) room
  have frame := rebind_frame taken (.moving o.source d (nextBatch s.mig.counter)) s
  have seats := rebind_seat taken (.moving o.source d (nextBatch s.mig.counter)) s
  have seat (m : Nat) : (formBatch o rest d taken s).seat m = (taken.foldl (fun u p =>
      u.setSes p.1 { p.2 with binding := .moving o.source d (nextBatch s.mig.counter) }) s).seat m := rfl
  have link : ((formBatch o rest d taken s).link d).state = (s.link d).state := by
    have written : (formBatch o rest d taken s).link d = ((taken.foldl (fun u p =>
        u.setSes p.1 { p.2 with binding := .moving o.source d (nextBatch s.mig.counter) }) s).modLink d
          (Link.reserve (slotsOf taken))).link d := rfl
    rw [written, State.link_modLink, frame]
    rfl
  refine (counts_iff _).2 ⟨moved.of_same, batched_some rfl ⟨nodup, fun n hn => ?_, fun n ⟨p, hp, hm⟩ => ?_⟩
    (link.trans up)⟩
  · rw [seat]
    exact (seats n).1 hn
  · by_contra out
    rw [seat, (seats n).2 out] at hp
    exact batched.1 none_yet n ⟨p, hp, hm⟩

theorem counts_batchStepEffect (s : State) : KeepsCounts s (batchStepEffect s) := by
  unfold batchStepEffect
  split
  · next o rest _ hb =>
    split
    · exact counts_endOrder _ s
    · next d ne hd =>
      exact fun hs => counts_formBatch hs hb (stepChoice_up hd) (takeSessions_sublist _ _ _)
        (slotsOf_batchSessions_le s o d ne (((counts_iff s).1 hs).1.capacity d))
  · exact .refl s

/-! ### Acceptance (R132) -/

/-- R115: the count that a session of a batch leaves is that of the batch's source. -/
theorem loseFrom_eq {x : Session} {src : Source} {d : LinkId} {b : Nat} (hb : x.binding = .moving src d b) (s : State) :
    loseFrom src x s = loseCount x s := by
  cases src <;> simp [loseFrom, loseCount, hb, Binding.countedOn]

/-- R115: the slot reserved for a session of a batch becomes the one it holds at the destination. -/
theorem weigh_boundOn_eq (l d : LinkId) (c : Bool) (src : Source) (b : Nat) :
    weigh (boundOn l) (some (c, .bound d)) = weigh (reservedOn l) (some (c, .moving src d b)) := by
  simp [boundOn, reservedOn, Binding.countedOn, Binding.movingTo]

theorem tallied_acceptOne {b : Batch} {n : Nat} {s : State} {c : Bool} (hs : Tallied s)
    (hn : s.seat n = some (c, .moving b.source b.dest b.number)) :
    Tallied (acceptOne b n s)
      ∧ ∀ m, (acceptOne b n s).seat m = if m = n then some (c, .bound b.dest) else s.seat m := by
  have cut := rates_bindingCutOf n s
  have hs := cut.seated.tallied hs
  have before : (bindingCutOf n s).seat n = some (c, .moving b.source b.dest b.number) := (cut.seat n).trans hn
  obtain ⟨x, hx, hseat⟩ := (seat_eq_some_iff ..).1 before
  obtain ⟨rfl, hb⟩ : x.nonEmergency = c ∧ x.binding = .moving b.source b.dest b.number := Prod.mk.injEq .. ▸ hseat
  simp only [acceptOne, hx, ← cut.seat]
  generalize bindingCutOf n s = u at *
  rw [loseFrom_eq hb]
  have link (m : LinkId) := gain_link b.dest x
    (releaseSlot b.dest x (loseCount x (u.setSes n { x with binding := .bound b.dest }))) m
  have sess : ((releaseSlot b.dest x (loseCount x (u.setSes n { x with binding := .bound b.dest }))).modLink b.dest
      fun k => k.gain x).sess = (loseCount x (u.setSes n { x with binding := .bound b.dest })).sess := by
    rw [State.modLink_sess, releaseSlot_sess]
  have records : (loseCount x (u.setSes n { x with binding := .bound b.dest })).sess.records =
      Table.set u.sess.records n { x with binding := .bound b.dest } := by rw [loseCount_frame]; rfl
  have lost := loseCount_stranded x (u.setSes n { x with binding := .bound b.dest })
  simp only [releaseSlot_link b.source b.dest b.number, loseCount_link, State.link_setSes, hseat] at link lost
  generalize (releaseSlot b.dest x (loseCount x (u.setSes n { x with binding := .bound b.dest }))).modLink b.dest
    (fun k => k.gain x) = t at link sess
  have seat (m : Nat) : t.seat m = if m = n then some (x.nonEmergency, .bound b.dest) else u.seat m := by
    rw [seat_congr (s := u.setSes n { x with binding := .bound b.dest })
      ((congrArg Sessions.records sess).trans records),
      seat_setSes]
    rfl
  have after := (seat n).trans (if_pos rfl)
  have held (l : LinkId) := hs.weigh_le l n
  simp only [before] at held
  have slot (l : LinkId) := weigh_boundOn_eq l b.dest x.nonEmergency b.source b.number
  refine ⟨hs.move n ?_ (fun m hm => (seat m).trans (if_neg hm)) (fun l => ?_) (fun l => ?_) (fun l => ?_) ?_
    fun l => ?_, seat⟩
  · rw [sess, records]; exact Table.wf_set _ _ _ hs.wf
  · have := (held l).1
    rw [link, before, after]
    dsimp only
    omega
  · have := (held l).2.1
    rw [link, before, after]
    dsimp only
    omega
  · have := (held l).2.2.1
    have unreserved : weigh (reservedOn l) (some (x.nonEmergency, .bound b.dest)) = 0 := by
      simp [reservedOn, Binding.movingTo]
    rw [link, before, after, unreserved]
    dsimp only
    omega
  · have := (held 0).2.2.2
    have counted : weigh strandedSeat (some (x.nonEmergency, .bound b.dest)) = 0 := by
      simp [strandedSeat, Binding.countedOn]
    rw [sess, lost, before, after, counted, State.setSes]
    dsimp only
    omega
  · have := hs.capacity l
    have := (held l).2.2.1
    have := slot l
    rw [link]
    dsimp only
    omega

theorem addMoved_eq (k : Nat) (s : State) :
    addMoved k s = s.setQueue (addMoved k s).mig.queue := by
  unfold addMoved
  split <;> rfl

/-- R132: an accepted batch leaves no session MOVING. -/
theorem counts_acceptBatch {b : Batch} {s : State} (hs : Tallied s) (hb : Holds b s) : Counts (acceptBatch b s) := by
  refine counts_endBatch (f := fun s n => acceptOne b n s) (new := .bound b.dest) rfl (fun _ _ _ => tallied_acceptOne)
    hs hb ?_ ?_ rfl
  · unfold acceptBatch; rw [addMoved_eq]; rfl
  · unfold acceptBatch; rw [addMoved_eq]; rfl

theorem counts_batchAnswerAnswer (number : Nat) (verdict : Option Verdict) (who : Sender) (s : State) :
    KeepsCounts s (batchAnswerAnswer number verdict who s).state := by
  unfold batchAnswerAnswer
  split
  · exact .refl s
  · split
    · exact .refl s
    · next b hb =>
      intro hs
      obtain ⟨tallied, batched⟩ := (counts_iff s).1 hs
      have holds := (batched.2 b (Option.filter_eq_some_iff.1 hb).1).1
      unfold answerBatch
      split
      · exact counts_acceptBatch tallied holds
      · exact counts_refuseBatch tallied holds

/-! ### Silence (R141, R159) -/

theorem seated_raiseAll (os : List Order) (f : Order → Notice) (s : State) :
    Seated s (os.foldl (fun s o => s.raise (f o)) s) :=
  .foldl (fun s o => seated_raise (f o) s) os s

theorem counts_silenceMigration (s : State) : KeepsCounts s (silenceMigration s) := by
  intro hs
  obtain ⟨tallied, batched⟩ := (counts_iff s).1 hs
  have abandoned : Counts (match s.mig.batch with
      | none => s
      | some b => (returnBatch b s).raise (abandonNotice b .silence b.sessions.length)) := by
    split
    · exact hs
    · next b hb => exact (seated_raise _ _).keeps (counts_returnBatch tallied (batched.2 b hb).1)
  exact ((seated_raiseAll _ _ _).trans (seated_setQueue [] _)).keeps abandoned

theorem counts_dropContext (h : Nat) (c : Context) (reason : CloseReason) (s : State) :
    KeepsCounts s (dropContext h c reason s) :=
  (rates_setCtx _ _ s).seated.keeps.trans (counts_closeList _ _ _)

theorem counts_silenceContext (h : Nat) (s : State) : KeepsCounts s (silenceContext h s) := by
  unfold silenceContext
  split
  · exact .refl s
  · exact counts_dropContext h _ _ s

theorem counts_enterSilence (s : State) : KeepsCounts s (enterSilence s) :=
  (counts_silenceMigration s).trans
    ((KeepsCounts.foldl (fun s h => counts_silenceContext h s) _ _).trans (seated_raise _ _).keeps)

theorem counts_setSilence (line flag : Bool) (s : State) : KeepsCounts s (setSilence line flag s) := by
  have taken : Seated s (s.modZone fun z => { z with line := line, flag := flag }) := .of_same
  simp only [setSilence]
  split
  · exact taken.keeps.trans (counts_enterSilence _)
  · split
    · exact (taken.trans (seated_raise _ _)).keeps
    · exact taken.keeps

/-! ### SERVICE_RESET (R182) -/

theorem resetContext_links (h : Nat) (s : State) : (resetContext h s).links = s.links := by
  unfold resetContext
  split
  · rfl
  · split
    · rfl
    · simp only [foldAndFree]
      split
      · rfl
      · simp only [State.modPar]
        split <;> rfl

theorem resetContexts_links (hs : List Nat) (s : State) :
    (hs.foldl (fun s h => resetContext h s) s).links = s.links := by
  induction hs generalizing s with
  | nil => rfl
  | cons h hs ih => exact (ih _).trans (resetContext_links h s)

/-- R121, R182: a service reset frees every session and zeroes every count. -/
theorem counts_serviceReset (s : State) : Counts (serviceReset s) := by
  obtain ⟨-, -, sess, mig⟩ := resetContexts_lists (Table.keys s.subs.contexts) (dropRevisions (dropSessions s))
  have links := resetContexts_links (Table.keys s.subs.contexts) (dropRevisions (dropSessions s))
  have same : Seated (dropRevisions (dropSessions s)) (serviceReset s) :=
      .of_same sess links (congrArg Migration.batch mig)
  refine same.keeps ((counts_iff _).2 ⟨⟨rfl, fun l => ?_, fun l => ?_, fun l => ?_, rfl, fun l => ?_⟩, ?_⟩)
  · simp [dropRevisions, dropSessions, State.link, Link.serviceReset, State.tally]
  · simp [dropRevisions, dropSessions, State.link, Link.serviceReset, State.tally]
  · simp [dropRevisions, dropSessions, State.link, Link.serviceReset, State.tally]
  · simp [dropRevisions, dropSessions, State.link, Link.serviceReset]
  · refine batched_none rfl fun n ⟨p, hp, _⟩ => ?_
    cases hp

end Sys2Proof.Machine
end

section
/-! Chapter 3, seventh part: the requests that change a link, rate usage or open a session keep the counts; those of the
tariff, of contexts and of zones leave them. -/

namespace Sys2Proof.Machine

/-! ### Links (R105 to R109, R117, R118) -/

theorem counts_takeAction (l : LinkId) (a : LinkAction) (s : State) : KeepsCounts s (takeAction l a s) := by
  unfold takeAction
  split
  · exact counts_changeState l _ _ s
  · exact .refl s
  · exact (seated_modLink (f := fun k => { k with quality := 0, discrepancy := 0 }) (fun _ => rfl) l s).keeps.trans
      (counts_changeState l _ _ _)
  · exact (seated_modLink (f := fun k => { k with discrepancy := 0 }) (fun _ => rfl) l s).keeps.trans
      (counts_changeState l _ _ _)
  · exact .refl s

/-- R106: a link that the latch does not hold carries no session and is not the destination of the batch. -/
theorem not_latched {s : State} {l : LinkId} (h : s.latched l = false) :
    (s.link l).bound = 0 ∧ (s.link l).reserved = 0 ∧ ∀ b, s.mig.batch = some b → b.dest ≠ l := by
  simp only [State.latched, State.heldByMigration, Bool.or_eq_false_iff, decide_eq_false_iff_not] at h
  obtain ⟨⟨carried, reserved⟩, -, dest⟩ := h
  refine ⟨by omega, by omega, fun b hb => ?_⟩
  simpa [hb] using dest

/-- R110: a change of state that loses no batch leaves what its link carries. -/
theorem changeState_carried {l : LinkId} {st : LinkState} {ca : LinkCause} {s : State}
    (hb : ∀ b, s.mig.batch = some b → b.dest = l → (s.link l).state = .up → st = .up) :
    ((changeState l st ca s).link l).bound = (s.link l).bound
      ∧ ((changeState l st ca s).link l).reserved = (s.link l).reserved := by
  have link : (changeState l st ca s).link l = { s.link l with state := st, streak := 0 } := by
    rw [changeState_eq l st ca s hb]
    exact (State.link_set s l l _).trans (if_pos rfl)
  rw [link]
  exact ⟨rfl, rfl⟩

/-- R107: an action leaves what its link carries, where an ADMIN_OFF loses no batch. -/
theorem takeAction_carried {l : LinkId} {a : LinkAction} {s : State}
    (hb : a = .adminOff → ∀ b, s.mig.batch = some b → b.dest ≠ l) :
    ((takeAction l a s).link l).bound = (s.link l).bound
      ∧ ((takeAction l a s).link l).reserved = (s.link l).reserved := by
  have zeroed (f : Link → Link) : (s.modLink l f).link l = f (s.link l) := State.link_modLink s l f
  unfold takeAction
  split
  · next off => exact changeState_carried fun b _ _ up => by rw [off] at up; cases up
  · exact ⟨rfl, rfl⟩
  · have := changeState_carried (l := l) (st := .offline) (ca := .admin)
      (s := s.modLink l fun k => { k with quality := 0, discrepancy := 0 })
      fun b hbatch hd _ => absurd hd (hb rfl b hbatch)
    rwa [zeroed] at this
  · next suspect =>
    have := changeState_carried (l := l) (st := .down) (ca := .admin)
      (s := s.modLink l fun k => { k with discrepancy := 0 })
      fun b _ _ up => by simp [zeroed, suspect] at up
    rwa [zeroed] at this
  · exact ⟨rfl, rfl⟩

/-- R107, R116: a profile whose capacity holds what the link carries. -/
theorem counts_setProfile {l : LinkId} {kind : LinkKind} {p : ProfileDef} {s : State} (hs : Counts s)
    (fits : (s.link l).bound + (s.link l).reserved ≤ p.capacity) :
    Counts (s.modLink l fun k => k.setProfile kind p) := by
  obtain ⟨tallied, batched⟩ := (counts_iff s).1 hs
  have link := s.link_modLink_eq l (f := fun k => k.setProfile kind p)
  refine (counts_iff _).2 ⟨tallied.congr id (fun _ => rfl) rfl fun m => ?_, batched.1, fun b hb => ?_⟩
  · rw [link]
    split
    · next e => exact ⟨rfl, rfl, rfl, e ▸ fits⟩
    · exact ⟨rfl, rfl, rfl, tallied.capacity m⟩
  · obtain ⟨holds, up⟩ := batched.2 b hb
    refine ⟨holds.congr fun _ => rfl, ?_⟩
    rw [link]
    split <;> exact up

/-- R106, R116: the latch keeps the capacity of a link that carries sessions. -/
theorem counts_linkSetAnswer (link : Nat) (action : Option LinkAction) (p : ProfileDef) (who : Sender) (s : State) :
    KeepsCounts s (linkSetAnswer link action p who s).state := by
  unfold linkSetAnswer
  split
  · next l a kind _ _ =>
    split
    · exact .refl s
    · split
      · exact .refl s
      · next admitted =>
        intro hs
        have free (h : guardedChange a kind p (s.link l) = true) :=
          not_latched (s := s) (l := l) (by simpa [h] using admitted)
        have off : a = .adminOff → ∀ b, s.mig.batch = some b → b.dest ≠ l := fun e =>
          (free (by simp [guardedChange, e])).2.2
        obtain ⟨bound, reserved⟩ := takeAction_carried off
        refine counts_setProfile (counts_takeAction l a s hs) ?_
        rw [bound, reserved]
        by_cases same : p.capacity = (s.link l).capacity
        · exact same ▸ (((counts_iff s).1 hs).1.capacity l)
        · obtain ⟨bound, reserved, -⟩ := free (by simp [guardedChange, same])
          rw [bound, reserved]
          exact Nat.zero_le _
  · exact .refl s

theorem counts_linkReportAnswer (link : Nat) (indication : Option Indication) (quality : Nat) (who : Sender)
    (s : State) : KeepsCounts s (linkReportAnswer link indication quality who s).state := by
  unfold linkReportAnswer
  split
  · next l i _ =>
    have stored := seated_modLink (f := fun k => { k with quality := min quality qualityMax }) (fun _ => rfl) l s
    simp only [takeReport]
    split
    · exact stored.keeps.trans (counts_changeState l _ _ _)
    · next n _ =>
      exact (stored.trans (seated_modLink (f := fun k => { k with streak := n }) (fun _ => rfl) l _)).keeps
  · exact .refl s

theorem counts_reconcile (l : LinkId) (outside : Bool) (s : State) : KeepsCounts s (reconcile l outside s) := by
  have zeroed := seated_modLink (f := fun k => { k with accumulator := 0 }) (fun _ => rfl) l s
  have judged (j : Link → Nat) (u : State) : Seated u (u.modLink l fun k => { k with discrepancy := j k }) :=
    seated_modLink (f := fun k => { k with discrepancy := j k }) (fun _ => rfl) l u
  simp only [reconcile]
  split
  · exact zeroed.keeps
  · split
    · exact (zeroed.trans (judged (fun _ => 0) _)).keeps
    · split
      · exact (zeroed.trans (judged (fun _ => 0) _)).keeps.trans (counts_changeState l _ _ _)
      · exact (zeroed.trans (judged (fun k => k.discrepancy + 1) _)).keeps

theorem counts_reconcileAnswer (link bytes : Nat) (who : Sender) (s : State) :
    KeepsCounts s (reconcileAnswer link bytes who s).state := by
  unfold reconcileAnswer
  split
  · exact .refl s
  · dsimp only
    split
    · exact .refl s
    · exact counts_reconcile _ _ s

theorem seated_moveOrderAnswer (source : Option Source) (dest : Option Dest) (scope : Option Scope) (who : Sender)
    (s : State) : Seated s (moveOrderAnswer source dest scope who s).state := by
  unfold moveOrderAnswer
  split
  · exact .refl s
  · split
    · split
      · exact .refl s
      · split
        · exact .refl s
        · exact seated_setQueue _ s
        · exact seated_setQueue _ s
    · exact .refl s

/-! ### Usage (R60 to R64) -/

theorem seated_countBytes (x : Session) (u : Nat) (s : State) : Seated s (countBytes x u s) := by
  unfold countBytes
  split
  · split
    · exact .refl s
    · exact seated_modLink (f := fun k => { k with accumulator := saturate accumulatorMax (k.accumulator + u) })
        (fun _ => rfl) _ s
  · exact .refl s

theorem seated_rateEntry {e : UsageEntry} {x : Session} {s : State} (hx : s.ses e.session = some x) :
    Seated s (rateEntry e x s) := by
  have stamped : Seated s ((countBytes x (unitsOf x.cls e) s).setSes e.session (x.stamp e s.now)) :=
    (seated_countBytes x _ s).trans (rates_setSes (y := x.stamp e s.now) ((countBytes_ses ..).trans hx) rfl).seated
  simp only [rateEntry]
  split
  · exact stamped
  · exact stamped.trans (rates_rateUnits _ _ _ _).seated

theorem seated_resolveEntry (e : UsageEntry) (s : State) : Seated s (resolveEntry e s).1 := by
  unfold resolveEntry
  split
  · exact .refl s
  · next s1 x h =>
    unfold entrySession at h
    split at h
    · cases h
    · simp only [Option.map_eq_some_iff, Prod.mk.injEq] at h
      obtain ⟨y, hy, rfl, rfl⟩ := h
      exact (rates_epochCutOf e.session s).seated.trans (seated_rateEntry hy)

theorem seated_resolveEntries (es : List UsageEntry) (s : State) : Seated s (resolveEntries es s).1 := by
  induction es generalizing s with
  | nil => exact .refl s
  | cons e es ih => exact (seated_resolveEntry e s).trans (ih _)

theorem seated_usageAnswer (h : Header) (count : Nat) (entries : List UsageEntry) (who : Sender) (s : State) :
    Seated s (usageAnswer h count entries who s).state := by
  unfold usageAnswer
  split
  · exact .refl s
  · split
    · exact .refl s
    · split
      · exact .refl s
      · exact seated_resolveEntries entries s

/-! ### SESSION_OPEN (R45 to R48) -/

theorem rates_enlist (h n : Nat) (s : State) : Rates s (s.enlist h n) := by
  unfold State.enlist State.modCtx
  split
  · exact .refl s
  · exact rates_setCtx _ _ s

theorem seated_gainUse (x : Session) (s : State) : Seated s (gainUse x s) := by
  unfold gainUse
  split
  · exact .refl s
  · exact .of_same

/-- R113: a link that may take a session has free capacity. -/
theorem room_of_takes {s : State} {l : LinkId} (h : s.takes l = true) :
    (s.link l).bound + (s.link l).reserved < (s.link l).capacity := by
  simp only [State.takes, Bool.and_eq_true] at h
  have free : 1 ≤ (s.link l).free := of_decide_eq_true h.2
  unfold Link.free at free
  omega

theorem counts_openEmergency {n : Nat} (h : Nat) (ref : BitVec 32) {s : State} (free : s.ses n = none) :
    KeepsCounts s (openEmergency n h ref s).state := fun hs => by
  refine (rates_enlist _ _ _).seated.keeps (counts_openRecord hs free ?_ fun l _ charged => nomatch charged)
  simp only [newSession]
  split <;> rfl

theorem counts_openNonEmergency {n : Nat} (h : Nat) (c : Context) (cls : TrafficClass) (col : Nat) (ref : BitVec 32)
    {s : State} (free : s.ses n = none) : KeepsCounts s (openNonEmergency n h c cls col ref s).state := by
  unfold openNonEmergency
  split
  · exact .refl s
  · split
    · exact .refl s
    · split
      · exact .refl s
      · next l hl =>
        intro hs
        have room := room_of_takes (bestLink_admits hl)
        have opened : Counts (openRecord n (newSession h cls (.bound l) ref s) s) :=
          counts_openRecord hs free rfl fun m hm _ => by cases hm; exact room
        exact ((seated_gainUse _ _).trans (rates_enlist _ _ _).seated).keeps opened

theorem counts_sessionOpenAnswer (h : Nat) (cls : Option TrafficClass) (ref : BitVec 32) (who : Sender) (s : State) :
    KeepsCounts s (sessionOpenAnswer h cls ref who s).state := by
  unfold sessionOpenAnswer
  split
  · exact .refl s
  · split
    · exact .refl s
    · split
      · exact .refl s
      · split
        · exact .refl s
        · split
          · exact .refl s
          · split
            · exact .refl s
            · next n hn =>
              have free := ses_of_freeSessionHandle hn
              split
              · exact counts_openEmergency h ref free
              · exact counts_openNonEmergency h _ _ _ ref free

theorem counts_sessionCloseAnswer (n subscriber : Nat) (who : Sender) (s : State) :
    KeepsCounts s (sessionCloseAnswer n subscriber who s).state := by
  unfold sessionCloseAnswer
  split
  · exact .refl s
  · exact counts_closeSession n .radio s

/-! ### Partners and plans (Chapter 1) -/

theorem seated_partnerSetAnswer (d : PartnerDef) (who : Sender) (s : State) :
    Seated s (partnerSetAnswer d who s).state := by
  unfold partnerSetAnswer
  split
  · next kind plan _ _ =>
    split
    · exact .refl s
    · split
      · unfold createPartner
        split
        · exact .refl s
        · exact .of_same
      · next i p _ =>
        have moved (u : State) (m : TariffMove) : Seated u (applyMove i plan d.adjustment m u) := by
          unfold applyMove
          split
          · exact .refl u
          · exact .refl u
          · exact (rates_modPar i _ u).seated
          · exact .of_same
          · exact .of_same
        have told (u : State) (after : Partner) : Seated u (raiseWindow p after u) := by
          unfold raiseWindow
          split
          · exact seated_raise _ u
          · exact .refl u
        unfold redefinePartner
        split
        · exact .refl s
        · dsimp only
          split
          · exact .refl s
          · have immediate : Seated s (s.setPar i (p.setImmediate d kind)) := .of_same
            exact (immediate.trans (moved _ _)).trans (told _ _)
  · exact .refl s

theorem seated_partnerStatusAnswer (code : Nat) (status : Option PartnerStatus) (who : Sender) (s : State) :
    Seated s (partnerStatusAnswer code status who s).state := by
  unfold partnerStatusAnswer
  split
  · exact .refl s
  · split
    · exact .refl s
    · split
      · exact .refl s
      · split
        · exact .refl s
        · exact .of_same

theorem seated_partnerRemoveAnswer (code : Nat) (who : Sender) (s : State) :
    Seated s (partnerRemoveAnswer code who s).state := by
  unfold partnerRemoveAnswer
  split
  · exact .refl s
  · split
    · exact .refl s
    · split
      · exact .refl s
      · exact .of_same

theorem seated_settlementAnswer (code : Nat) (who : Sender) (s : State) :
    Seated s (settlementAnswer code who s).state := by
  unfold settlementAnswer
  split
  · exact .refl s
  · split
    · exact .refl s
    · split
      · exact .refl s
      · exact .of_same

theorem seated_rateSetAnswer (r : RateDef) (who : Sender) (s : State) : Seated s (rateSetAnswer r who s).state := by
  unfold rateSetAnswer
  split
  · exact .refl s
  · split
    · exact .refl s
    · split
      · exact .of_same
      · split
        · exact .of_same
        · split
          · exact .refl s
          · exact .of_same

theorem seated_openEpoch (z : ZoneClass) (s : State) : Seated s (openEpoch z s) := by
  rw [openEpoch_eq]
  exact .of_same

theorem seated_epochCutAnswer (who : Sender) (s : State) : Seated s (epochCutAnswer who s).state := by
  unfold epochCutAnswer
  split
  · exact .refl s
  · exact seated_openEpoch _ s

/-! ### Contexts and grants (Chapters 2 and 5) -/

theorem seated_attachNew (identity : Nat) (ref : BitVec 32) (s : State) :
    Seated s (attachNew identity ref s).state := by
  unfold attachNew
  split
  · exact .refl s
  · split
    · exact .refl s
    · next i p _ =>
      split
      · exact .refl s
      · split
        · exact .refl s
        · split
          · exact .refl s
          · split
            · exact .refl s
            · next h _ =>
              have created : Seated s ((s.setCtx h (newContext identity i ref s.now)).setPar i
                  { p with present := p.present + 1 }) := .of_same
              simp only [attachGive, createContext]
              split
              · exact created.trans (rates_issueAsk _ _ _).seated
              · exact created

theorem seated_attachAnswer (identity : Nat) (ref : BitVec 32) (who : Sender) (s : State) :
    Seated s (attachAnswer identity ref who s).state := by
  unfold attachAnswer
  split
  · exact .refl s
  · split
    · exact .refl s
    · split
      · exact seated_attachNew identity ref s
      · split
        · exact seated_attachNew identity ref s
        · split
          · exact .refl s
          · unfold attachAgain
            split
            · exact .refl s
            · exact (rates_setCtx _ _ s).seated

theorem counts_detachAnswer (h : Nat) (who : Sender) (s : State) : KeepsCounts s (detachAnswer h who s).state := by
  unfold detachAnswer
  split
  · exact .refl s
  · split
    · exact .refl s
    · exact counts_dropContext h _ .detach s

theorem seated_gateSetAnswer (position : Option Gate) (who : Sender) (s : State) :
    Seated s (gateSetAnswer position who s).state := by
  unfold gateSetAnswer
  split
  · exact .refl s
  · split
    · exact .refl s
    · exact .of_same

theorem seated_pinAnswer (h identity : Nat) (who : Sender) (s : State) :
    Seated s (pinAnswer h identity who s).state := by
  unfold pinAnswer
  split
  · exact .refl s
  · split
    · exact .refl s
    · split
      · exact .refl s
      · split
        · exact .refl s
        · exact .of_same

theorem seated_unpinAnswer (h identity : Nat) (who : Sender) (s : State) :
    Seated s (unpinAnswer h identity who s).state := by
  unfold unpinAnswer
  split
  · exact .refl s
  · split
    · exact .refl s
    · split
      · exact .refl s
      · exact .of_same

theorem seated_raiseRetirement (h : Nat) (c : Context) (p : Partner) (s : State) :
    Seated s (raiseRetirement h c p s) := by
  rw [raiseRetirement_eq]
  exact .of_same

theorem seated_retireContext (h : Nat) (s : State) : Seated s (retireContext h s) := by
  have freed (u : State) : Seated u (u.freeSlot h) := .of_same
  unfold retireContext
  split
  · exact .refl s
  · split
    · exact freed s
    · next c _ _ p _ =>
      refine (seated_raiseRetirement h c p s).trans ?_
      unfold foldAndFree
      split
      · exact .refl _
      · exact (rates_modPar _ _ _).seated.trans (freed _)

theorem seated_retireAnswer (h identity : Nat) (who : Sender) (s : State) :
    Seated s (retireAnswer h identity who s).state := by
  unfold retireAnswer
  split
  · exact .refl s
  · split
    · exact .refl s
    · split
      · exact .refl s
      · split
        · exact .refl s
        · exact seated_retireContext h s

theorem rates_grantAnswer (h identity ask amount : Nat) (who : Sender) (s : State) :
    Rates s (grantAnswer h identity ask amount who s).state := by
  unfold grantAnswer
  split
  · exact .refl s
  · split
    · exact .refl s
    · split
      · exact .refl s
      · split
        · exact .refl s
        · split
          · exact .refl s
          · split
            · simp only [grantGive, unsolicitedGrant]
              split
              · exact rates_setCtx _ _ s
              · exact (rates_setCtx _ _ s).trans (rates_addGrant _ _ _)
            · split
              · exact .refl s
              · simp only [grantGive, matchedGrant]
                split
                · exact rates_setCtx _ _ s
                · exact (rates_setCtx _ _ s).trans (rates_addGrant _ _ _)

/-! ### Zones (Chapter 8) -/

theorem seated_modZone (f : ZoneTracker → ZoneTracker) (s : State) : Seated s (s.modZone f) := .of_same

theorem seated_tellZone (c : ZoneCause) (s : State) : Seated s (tellZone c s) := .of_same

theorem seated_zoneSetAnswer (zone : Nat) (cls : Option ZoneClass) (level : Option ServiceLevel) (window : Nat)
    (who : Sender) (s : State) : Seated s (zoneSetAnswer zone cls level window who s).state := by
  have written (z : ZoneId) (r : Zone) : Seated s (s.setZone z r) := .of_same
  unfold zoneSetAnswer
  split
  · split
    · exact .refl s
    · dsimp only
      split
      · exact written _ _
      · split
        · simp only [setEffectiveZone]
          split
          · exact .refl s
          · split
            · exact .refl s
            · exact (written _ _).trans (seated_tellZone _ _)
        · split
          · exact .refl s
          · exact written _ _
  · exact .refl s

theorem seated_crossing (target : Option ZoneId) (confirmed : Bool) (s : State) :
    Seated s (crossing target confirmed s) := by
  have orders (u : State) : Seated u (zoneOrders u) := by
    refine Seated.foldl (fun s l => ?_) allLinks u
    unfold zoneOrder
    split
    · exact seated_raiseOrder _ _ _ s
    · exact .refl s
  have crossed : Seated s (crossZone target confirmed s) := seated_modZone _ s
  exact ((crossed.trans (seated_openEpoch _ _)).trans (orders _)).trans (seated_tellZone _ _)

theorem seated_placeAgain (s : State) : Seated s (placeAgain s) := (seated_modZone _ s).trans (seated_tellZone _ _)

theorem seated_takeFix (zone : Nat) (s : State) : Seated s (takeFix zone s).2 := by
  have judged (c : Candidate) (o : FixOutcome) (u : State) : Seated u (judgeCandidate c o u).2 := by
    unfold judgeCandidate
    split
    · exact .refl u
    · split
      · exact .refl u
      · split
        · exact seated_placeAgain u
        · split
          · exact seated_modZone (fun z => { z with deferred := true }) u
          · exact seated_crossing _ _ u
  unfold takeFix
  split
  · exact seated_modZone _ s
  · simp only [validFix]
    split
    · exact (seated_modZone _ s).trans (seated_modZone _ _)
    · exact ((seated_modZone _ s).trans (seated_modZone _ _)).trans (judged _ _ _)

theorem seated_staleExpiryEffect (s : State) : Seated s (staleExpiryEffect s) := by
  unfold staleExpiryEffect
  split
  · exact .refl s
  · dsimp only
    split
    · exact (seated_modZone _ s).trans (seated_crossing _ _ _)
    · exact seated_modZone _ s

theorem seated_releaseEffect (s : State) : Seated s (releaseEffect s) := by
  have cleared := (seated_modZone (fun z => { z with releaseDue := false }) s).trans
    (seated_modZone (fun z => { z with deferred := false }) _)
  unfold releaseEffect
  split
  · exact .refl s
  · dsimp only
    split
    · exact seated_modZone _ s
    · split
      · exact cleared
      · refine cleared.trans ?_
        unfold confirm
        split
        · exact seated_placeAgain _
        · exact seated_crossing _ _ _

end Sys2Proof.Machine
end

section
/-! Chapter 3, eighth part: every request, every event and every step keep the counts. -/

namespace Sys2Proof.Machine

/-! ### The subscriber pass and the cut pass (R79, R81, R167) -/

theorem rates_lapseAsk (h : Nat) (s : State) : Rates s (lapseAsk h s) := by
  unfold lapseAsk
  split
  · exact .refl s
  · split
    · exact .refl s
    · split
      · exact rates_setCtx _ _ s
      · exact .refl s

theorem counts_visitSession (n : Nat) (s : State) : KeepsCounts s (visitSession n s) := by
  unfold visitSession
  split
  · exact .refl s
  · split
    · exact counts_closeSession n _ s
    · split
      · exact counts_closeSession n _ s
      · exact .refl s

theorem counts_visitSessions (h : Nat) (s : State) : KeepsCounts s (visitSessions h s) := by
  unfold visitSessions
  split
  · exact .refl s
  · split
    · exact .refl s
    · exact .foldl (fun s n => counts_visitSession n s) _ s

theorem seated_visitRetire (h : Nat) (s : State) : Seated s (visitRetire h s) := by
  unfold visitRetire
  split
  · exact .refl s
  · split
    · exact seated_retireContext h s
    · exact .refl s

theorem counts_passVisitEffect (s : State) : KeepsCounts s (passVisitEffect s) := by
  unfold passVisitEffect
  split
  · have asked := (rates_lapseAsk s.time.passPos s).trans (rates_judgeAsk s.time.passPos _)
    have advanced (u : State) : Seated u (u.modTime fun t => { t with passPos := t.passPos + 1 }) := .of_same
    exact (asked.seated.keeps.trans (counts_visitSessions _ _)).trans
      ((seated_visitRetire _ _).trans (advanced _)).keeps
  · exact .refl s

theorem seated_cutVisitEffect (s : State) : Seated s (cutVisitEffect s) := by
  unfold cutVisitEffect
  split
  · exact .refl s
  · next n _ =>
    have cut := (rates_epochCutOf n s).seated
    dsimp only
    split
    · exact cut.trans .of_same
    · exact cut.trans .of_same

theorem seated_passStartEffect (s : State) : Seated s (passStartEffect s) := by
  unfold passStartEffect
  split
  · exact .of_same
  · exact .refl s

/-! ### Requests, events and steps -/

theorem seated_clientSetAnswer (k : Nat) (action : Option ClientAction) (role : Option Role) (address : Option Mac)
    (who : Sender) (s : State) : Seated s (clientSetAnswer k action role address who s).state := by
  unfold clientSetAnswer
  split
  · split
    · exact .refl s
    · split
      iterate 6 exact .of_same
  · exact .refl s

theorem counts_silenceSetAnswer (value : Option Bool) (who : Sender) (s : State) :
    KeepsCounts s (silenceSetAnswer value who s).state := by
  unfold silenceSetAnswer
  split
  · exact .refl s
  · split
    · exact .refl s
    · exact counts_setSilence _ _ s

theorem Handler.reads.keepsCounts {f : Handler} (h : f.reads) (who : Sender) (s : State) :
    KeepsCounts s (f who s).state := by
  rw [h who s]; exact .refl s

/-- Every owner of a request keeps the counts. -/
theorem counts_handlerOf {i : Instr} {f : Handler} (hf : handlerOf i = some f) (who : Sender) (s : State) :
    KeepsCounts s (f who s).state := by
  cases i with
  | clientSet h client action role address =>
    cases hf; exact (seated_clientSetAnswer client action role address who s).keeps
  | generalSet h flags v => cases hf; exact (Seated.of_same (s := s)).keeps
  | partnerSet h d => cases hf; exact (seated_partnerSetAnswer d who s).keeps
  | partnerStatus h code status => cases hf; exact (seated_partnerStatusAnswer code status who s).keeps
  | partnerRemove h code => cases hf; exact (seated_partnerRemoveAnswer code who s).keeps
  | rateSet h r => cases hf; exact (seated_rateSetAnswer r who s).keeps
  | epochCut h => cases hf; exact (seated_epochCutAnswer who s).keeps
  | zoneSet h zone cls level window => cases hf; exact (seated_zoneSetAnswer zone cls level window who s).keeps
  | linkSet h link action p => cases hf; exact counts_linkSetAnswer link action p who s
  | gateSet h position => cases hf; exact (seated_gateSetAnswer position who s).keeps
  | pin h handle identity => cases hf; exact (seated_pinAnswer handle identity who s).keeps
  | unpin h handle identity => cases hf; exact (seated_unpinAnswer handle identity who s).keeps
  | retire h handle identity => cases hf; exact (seated_retireAnswer handle identity who s).keeps
  | grant h handle identity ask amount =>
    cases hf; exact (rates_grantAnswer handle identity ask amount who s).seated.keeps
  | serviceReset h => cases hf; exact fun _ => counts_serviceReset s
  | attach h identity ref => cases hf; exact (seated_attachAnswer identity ref who s).keeps
  | detach h handle => cases hf; exact counts_detachAnswer handle who s
  | lookup h identity => cases hf; exact (reads_lookupAnswer identity).keepsCounts who s
  | sessionOpen h handle cls ref => cases hf; exact counts_sessionOpenAnswer handle cls ref who s
  | sessionClose h session subscriber => cases hf; exact counts_sessionCloseAnswer session subscriber who s
  | silenceSet h value => cases hf; exact counts_silenceSetAnswer value who s
  | usage h count entries => cases hf; exact (seated_usageAnswer h count entries who s).keeps
  | linkReport h link indication quality => cases hf; exact counts_linkReportAnswer link indication quality who s
  | reconcile h link bytes => cases hf; exact counts_reconcileAnswer link bytes who s
  | moveOrder h source dest scope => cases hf; exact (seated_moveOrderAnswer source dest scope who s).keeps
  | batchAnswer h number verdict => cases hf; exact counts_batchAnswerAnswer number verdict who s
  | fix h zone => cases hf; exact (seated_takeFix zone s).keeps
  | status h => cases hf; exact .refl s
  | readContext h ref => cases hf; exact (reads_readContextAnswer ref).keepsCounts who s
  | readSession h session => cases hf; exact (reads_readSessionAnswer session).keepsCounts who s
  | readFolio h ref => cases hf; exact (reads_readFolioAnswer ref).keepsCounts who s
  | readPartner h code => cases hf; exact (reads_readPartnerAnswer code).keepsCounts who s
  | readPartnerList h start settle => cases hf; exact (reads_readPartnerListAnswer start settle).keepsCounts who s
  | settlement h code => cases hf; exact (seated_settlementAnswer code who s).keeps
  | readLink h link => cases hf; exact (reads_readLinkAnswer link).keepsCounts who s
  | readZone h zone => cases hf; exact (reads_readZoneAnswer zone).keepsCounts who s
  | readOrders h => cases hf; exact .refl s
  | _ => cases hf

theorem seated_join (fs : List OutFrame) (s : State) : Seated s (s.join fs) := by
  unfold State.join
  split
  · exact .refl s
  · exact .of_same

theorem seated_flush (s : State) : Seated s s.flush := (seated_join (s.raised.flatMap s.copies) s).trans .of_same

theorem seated_respond (h : Header) (code : Nat) (taken : State) (a : Answer) :
    Seated a.state (respond h code taken a) :=
  (seated_join _ a.state).trans .of_same

theorem seated_admission {s t : State} {h : Header} {who : Sender} (ha : s.admission h = .from_ who t) :
    Seated s t := by
  unfold State.admission at ha
  split at ha
  · cases ha
  · split at ha
    · cases ha
    · split at ha
      · cases ha
      · split at ha
        · cases ha; exact .of_same
        · split at ha
          · cases ha; exact .refl s
          · cases ha

theorem counts_request {f : Handler} (h : Header) (k : Kind) (hf : ∀ who s, KeepsCounts s (f who s).state) (s : State) :
    KeepsCounts s (request h k f s) := by
  unfold request
  split
  · exact .refl s
  · split
    · exact .refl s
    · exact (seated_respond h _ s (refuse .notClient s)).keeps
    · next who s1 ha =>
      have bound := seated_admission ha
      split
      · exact (bound.trans (seated_respond h _ s (refuse .notPermitted s1))).keeps
      · split
        · exact (bound.trans (seated_respond h _ s (refuse .badLength s1))).keeps
        · exact bound.keeps.trans ((hf who s1).trans (seated_respond h _ s _).keeps)

theorem seated_unlisted (h : Header) (code : Nat) (s : State) : Seated s (unlisted h code s) := by
  unfold unlisted
  split
  · exact .refl s
  · split
    · exact .refl s
    · exact seated_respond h _ s (refuse .notClient s)
    · next who s1 ha => exact (seated_admission ha).trans (seated_respond h _ s (refuse .unknownKind s1))

theorem counts_takeFrame (f : Frame) (s : State) : KeepsCounts s (takeFrame f s) := by
  unfold takeFrame
  split
  · exact (seated_unlisted _ _ s).keeps
  · split
    · next hf => exact counts_request _ _ (counts_handlerOf hf) s
    · exact .refl s

theorem counts_event {effect : State → State} {s t : State} (he : KeepsCounts s (effect s))
    (ht : event effect s = .next t) : KeepsCounts s t := by
  cases ht
  exact he.trans (seated_flush _).keeps

theorem seated_arrive (f : Frame) (s : State) : Seated s (arrive f s) := by
  unfold arrive
  split
  · exact .refl s
  · exact .of_same

theorem seated_transmitNext (s : State) : Seated s (transmitNext s) := by
  unfold transmitNext
  split
  · exact .refl s
  · exact .of_same

theorem counts_lineEffect (level : Bool) (s : State) : KeepsCounts s (lineEffect level s) := by
  unfold lineEffect
  split
  · exact .refl s
  · exact counts_setSilence _ _ s

theorem counts_exec {i : Instr} {s t : State} (ht : exec i s = .next t) : KeepsCounts s t := by
  cases hf : handlerOf i with
  | some f =>
    obtain ⟨h, k, he⟩ := exec_request hf s
    rw [he] at ht
    cases ht
    exact counts_request h k (counts_handlerOf hf) s
  | none =>
    cases i with
    | frameArrival f => exact counts_event (seated_arrive f s).keeps ht
    | notClient f => cases ht; exact counts_takeFrame f s
    | unknownKind f => cases ht; exact counts_takeFrame f s
    | frameTransmit => exact counts_event (seated_transmitNext s).keeps ht
    | powerOn line => cases ht; exact fun _ => counts_powerOn _ _ _
    | silenceLineChange level => exact counts_event (counts_lineEffect level s) ht
    | passStart => exact counts_event (seated_passStartEffect s).keeps ht
    | passVisit => exact counts_event (counts_passVisitEffect s) ht
    | cutPassVisit => exact counts_event (seated_cutVisitEffect s).keeps ht
    | batchStep => exact counts_event (counts_batchStepEffect s) ht
    | batchTimeout => exact counts_event (counts_batchTimeoutEffect s) ht
    | staleExpiry => exact counts_event (seated_staleExpiryEffect s).keeps ht
    | deferralRelease => exact counts_event (seated_releaseEffect s).keeps ht
    | nresetAsserted => exact counts_event (effect := assertReset) (Seated.of_same (s := s)).keeps ht
    | _ => cases hf

/-- The part's own event is taken in the state, or with the frame that is taken out of the input queue. -/
theorem seated_ownEvent {s t : State} {c : Instr} (h : s.ownEvent = some (c, t)) : Seated s t := by
  unfold State.ownEvent at h
  split at h
  · cases h
  · split at h
    · cases h; exact .refl s
    · split at h
      · cases h; exact .of_same
      · iterate 7
          split at h
          · cases h; exact .refl s
        cases h

theorem counts_step {s t : State} (ht : step s = .next t) : KeepsCounts s t := by
  unfold step at ht
  split at ht
  · next c rest _ =>
    have taken : Seated s { s with pending := rest } := .of_same
    exact taken.keeps.trans (counts_exec ht)
  · split at ht
    · next c s1 h => exact (seated_ownEvent h).keeps.trans (counts_exec ht)
    · cases ht
      unfold State.idle
      split
      · exact .refl s
      · exact (Seated.of_same (s := s)).keeps

/-- Settles O60: a session moves from count to count with its binding, and a batch ends before its destination leaves
UP. -/
theorem stepKeepsCounts : Obligations.StepKeepsCounts := fun _ _ hs ht => counts_step ht hs

end Sys2Proof.Machine
end

section
/-! Chapter 3: the checks of SESSION_OPEN and the record it writes (R45 to R48), and the refusals of SESSION_CLOSE. -/

namespace Sys2Proof.Machine

/-! ### The values the checks read (R10, R40, R42, R113) -/

/-- R10: every class but EMERGENCY has a column, its position in the list of classes. -/
theorem classColumn_eq {cls : TrafficClass} (hc : cls ≠ .emergency) : classColumn cls = some cls.code := by
  cases cls with
  | emergency => exact absurd rfl hc
  | _ => rfl

/-- R42: the levels that allow a VOICE, DATA or MESSAGE session. -/
theorem levelAllows_iff {cls : TrafficClass} (hc : cls ≠ .emergency) (level : ServiceLevel) :
    levelAllows level cls = true ↔ level = .full ∨ (level = .limited ∧ cls ≠ .data) := by
  cases level with
  | full => simp [levelAllows]
  | limited => cases cls <;> simp [levelAllows]
  | emergencyOnly => simp [levelAllows, hc]

/-- R113: the links that may take a VOICE, DATA or MESSAGE session. -/
theorem takes_iff (s : State) (l : LinkId) :
    s.takes l = true ↔ (s.link l).state = .up ∧ (s.link l).permits s.zone.effective = true
      ∧ (s.link l).bound + (s.link l).reserved < (s.link l).capacity := by
  have room : 1 ≤ (s.link l).free ↔ (s.link l).bound + (s.link l).reserved < (s.link l).capacity := by
    unfold Link.free; omega
  simp only [State.takes, State.permitted, Bool.and_eq_true, beq_iff_eq, decide_eq_true_eq, room, and_assoc]

theorem has_session_iff (s : State) (n : Nat) : Table.has s.sess.records n = true ↔ s.ses n ≠ none :=
  Option.isSome_iff_ne_none

/-- R40: a new session takes the lowest free handle. -/
theorem freeSessionHandle_eq_some {s : State} {n : Nat} (hn : n ≤ 8191) (free : s.ses n = none)
    (taken : ∀ m, m < n → s.ses m ≠ none) : s.freeSessionHandle = some n :=
  Table.firstFree_eq_some _ (Nat.zero_le n) (by simpa [sessionCount] using Nat.lt_succ_of_le hn)
    (Option.isSome_eq_false_iff.2 (Option.isNone_iff_eq_none.2 free))
    fun m _ hm => (has_session_iff s m).2 (taken m hm)

/-- R40: no handle is left when every record is taken. -/
theorem freeSessionHandle_eq_none {s : State} (taken : ∀ n, n ≤ 8191 → s.ses n ≠ none) : s.freeSessionHandle = none :=
  Table.firstFree_eq_none _ fun n _ hn =>
    (has_session_iff s n).2 (taken n (by simpa [sessionCount, Nat.lt_succ_iff] using hn))

/-- Without a free number in a range, every number of it is listed. -/
theorem Table.has_of_firstFree_eq_none {α : Type} {t : Table α} {b n : Nat} (hf : Table.firstFree t b n = none) :
    ∀ j, b ≤ j → j < b + n → Table.has t j = true := by
  induction n generalizing b with
  | zero => intro j hb hj; omega
  | succ n ih =>
    unfold Table.firstFree at hf
    split at hf
    · next used =>
      intro j hb hj
      rcases Nat.eq_or_lt_of_le hb with rfl | lt
      · exact used
      · exact ih hf j lt (by omega)
    · cases hf

/-- R40: some handle is left while a record is free. -/
theorem exists_freeSessionHandle {s : State} (free : ∃ n, n ≤ 8191 ∧ s.ses n = none) :
    ∃ n, s.freeSessionHandle = some n := by
  obtain ⟨n, hn, hfree⟩ := free
  refine Option.ne_none_iff_exists'.1 fun full => (has_session_iff s n).1 ?_ hfree
  exact Table.has_of_firstFree_eq_none full n (Nat.zero_le n) (by simpa [sessionCount] using Nat.lt_succ_of_le hn)

theorem awake {s : State} (hl : s.zone.line = false) (hf : s.zone.flag = false) : s.silent = false := by
  simp [State.silent, hl, hf]

/-! ### The order of the checks (R45, R46) -/

/-- R45: what a SESSION_OPEN meets that reaches the handle table: the part is not silent, and the context is attached
and has room. -/
structure Admits (s : State) (k : Nat) (c : Context) : Prop where
  awake : s.silent = false
  slot : s.slot k = some c
  attached : c.presence = .attached
  room : c.sessions.length < 8

/-- R45: without a free handle the SESSION_OPEN is refused. -/
theorem sessionOpenAnswer_full {s : State} {k : Nat} {cls : TrafficClass} {ref : BitVec 32} {c : Context} (who : Sender)
    (ha : Admits s k c) (hn : s.freeSessionHandle = none) :
    sessionOpenAnswer k (some cls) ref who s = refuse .tableFull s := by
  simp [sessionOpenAnswer, ha.awake, ha.slot, ha.attached, sessionsMax, ha.room, hn]

/-- R46: a VOICE, DATA or MESSAGE session that passed R45. -/
theorem sessionOpenAnswer_charged {s : State} {k n : Nat} {cls : TrafficClass} {ref : BitVec 32} {c : Context}
    (who : Sender) (ha : Admits s k c) (hn : s.freeSessionHandle = some n) (hcls : cls ≠ .emergency) :
    sessionOpenAnswer k (some cls) ref who s = openNonEmergency n k c cls cls.code ref s := by
  simp [sessionOpenAnswer, ha.awake, ha.slot, ha.attached, sessionsMax, ha.room, hn, classColumn_eq hcls]

/-- R48: an EMERGENCY session that passed R45. -/
theorem sessionOpenAnswer_emergency {s : State} {k n : Nat} {ref : BitVec 32} {c : Context} (who : Sender)
    (ha : Admits s k c) (hn : s.freeSessionHandle = some n) :
    sessionOpenAnswer k (some .emergency) ref who s = openEmergency n k ref s := by
  simp [sessionOpenAnswer, ha.awake, ha.slot, ha.attached, sessionsMax, ha.room, hn, classColumn]

theorem openNonEmergency_refuses {n k col : Nat} {cls : TrafficClass} {ref : BitVec 32} {c : Context} {p : Partner}
    {r : Result} {s : State} (hp : s.par c.partner = some p) (hr : chargedRefusal c p cls col s = some r) :
    openNonEmergency n k c cls col ref s = refuse r s := by
  simp only [openNonEmergency, hp, hr]

theorem openNonEmergency_opens {n k col : Nat} {cls : TrafficClass} {ref : BitVec 32} {c : Context} {p : Partner}
    {l : LinkId} {s : State} (hp : s.par c.partner = some p) (hr : chargedRefusal c p cls col s = none)
    (hl : s.bindingChoice = some l) :
    openNonEmergency n k c cls col ref s = openCharged n k p cls col l ref s := by
  simp only [openNonEmergency, hp, hr, hl]

/-- R46: what the last two checks decide once a session has passed those of its partner, the level and the tariff. -/
theorem chargedRefusal_admitted {c : Context} {p : Partner} {cls : TrafficClass} {col : Nat} {s : State}
    (hp : p.status = .active) (hl : levelAllows s.effectiveLevel cls = true)
    (hs : (Table.get s.tariff.cells (cellIndex p.plan s.effectiveClass col)).isSome = true) :
    chargedRefusal c p cls col s =
      if c.credit ≠ .funded then some .unfunded else if s.bindingChoice.isNone then some .noLink else none := by
  simp only [chargedRefusal, hp, hl, Table.has, hs, reduceCtorEq, if_false, Bool.not_true, Bool.false_eq_true]

/-! ### The refusals -/

/-- R46: the refusals of a VOICE, DATA or MESSAGE session that passed R45. -/
theorem chargedRefusal_cases {c : Context} {p : Partner} {cls : TrafficClass} {s : State} (hc : cls ≠ .emergency) :
    let allowed := s.effectiveLevel = .full ∨ (s.effectiveLevel = .limited ∧ cls ≠ .data)
    let isSet := (Table.get s.tariff.cells (p.plan.val * 12 + s.effectiveClass.code * 3 + cls.code)).isSome = true
    let refuses (r : Result) : Prop := chargedRefusal c p cls cls.code s = some r
    (p.status = .suspended → refuses .partnerSuspended) ∧ (p.status = .barred → refuses .partnerBarred)
      ∧ (p.status = .active → ¬ allowed → refuses .serviceForbidden)
      ∧ (p.status = .active → allowed → ¬ isSet → refuses .noTariff)
      ∧ (p.status = .active → allowed → isSet → c.credit ≠ .funded → refuses .unfunded)
      ∧ (p.status = .active → allowed → isSet → c.credit = .funded →
        (∀ l, ¬ ((s.link l).state = .up ∧ (s.link l).permits s.zone.effective = true
          ∧ (s.link l).bound + (s.link l).reserved < (s.link l).capacity)) → refuses .noLink) := by
  intro allowed isSet refuses
  have allows : levelAllows s.effectiveLevel cls = true ↔ allowed := levelAllows_iff hc _
  refine ⟨fun hp => ?_, fun hp => ?_, fun hp hl => ?_, fun hp hl hs => ?_, fun hp hl hs hf => ?_,
    fun hp hl hs hf noLink => ?_⟩
  · simp [refuses, chargedRefusal, hp]
  · simp [refuses, chargedRefusal, hp]
  · simp [refuses, chargedRefusal, hp, Bool.eq_false_iff.2 (mt allows.1 hl)]
  · have unset : Table.has s.tariff.cells (cellIndex p.plan s.effectiveClass cls.code) = false :=
      Bool.eq_false_iff.2 hs
    simp [refuses, chargedRefusal, hp, allows.2 hl, unset]
  · simp only [refuses, chargedRefusal_admitted hp (allows.2 hl) hs, hf, ne_eq, not_false_eq_true, if_true]
  · have noChoice : s.bindingChoice = none :=
      bestLink_eq_none fun l => Bool.eq_false_iff.2 (mt (takes_iff s l).1 (noLink l))
    simp [refuses, chargedRefusal_admitted hp (allows.2 hl) hs, hf, noChoice]

/-- R51: a handle that is free or above 8,191, or the session of another subscriber, names no session to close. -/
theorem sessionCloseAnswer_unknown {n k : Nat} (who : Sender) {s : State}
    (hn : 8191 < n ∨ ∀ x, s.ses n = some x → x.subscriber ≠ k) :
    sessionCloseAnswer n k who s = refuse .unknownHandle s := by
  have none : ((s.openAt n).filter fun x => x.subscriber == k) = none := by
    refine Option.filter_eq_none_iff.2 fun x hx => ?_
    unfold State.openAt at hx
    split at hx
    · next lt =>
      simpa using hn.resolve_left (Nat.not_lt.2 (Nat.le_of_lt_succ lt)) x hx
    · cases hx
  simp only [sessionCloseAnswer, none]

/-- Settles O39: each refusal is the first check that fails. -/
theorem sessionRefusals : Obligations.SessionRefusals := by
  refine ⟨fun h k cls ref s hr hh => ?_, fun h n k s hr hh hn =>
    request_refuses hr hh rfl (sessionCloseAnswer_unknown _ hn)⟩
  have refuses {r : Result} {o : Option TrafficClass}
      (ha : sessionOpenAnswer k o ref ⟨h.client, .radio⟩ s = refuse r s) :
      exec (.sessionOpen h k o ref) s = refused h .sessionOpen r s := request_refuses hr hh rfl ha
  refine ⟨fun hs => refuses (by simp [sessionOpenAnswer, hs]), fun hs =>
    ⟨refuses (by simp [sessionOpenAnswer, hs]),
      fun hk => refuses (by simp [sessionOpenAnswer, hs, slot_eq_none hk]), fun c hk hc => ?_⟩⟩
  have slot : s.slot k = some c := (slot_eq hk).trans hc
  refine ⟨fun hp => refuses (by simp [sessionOpenAnswer, hs, slot, hp]),
    fun hp hl => refuses (by simp [sessionOpenAnswer, hs, slot, hp, sessionsMax, hl]),
    fun hp hl taken => refuses (sessionOpenAnswer_full _ ⟨hs, slot, hp, hl⟩ (freeSessionHandle_eq_none taken)),
    fun hp hl free hcls p hpar => ?_⟩
  obtain ⟨n, hn⟩ := exists_freeSessionHandle free
  have charged {r : Result} (ha : chargedRefusal c p cls cls.code s = some r) :
      exec (.sessionOpen h k (some cls) ref) s = refused h .sessionOpen r s :=
    refuses ((sessionOpenAnswer_charged _ ⟨hs, slot, hp, hl⟩ hn hcls).trans (openNonEmergency_refuses hpar ha))
  obtain ⟨suspended, barred, forbidden, unset, unfunded, full⟩ := chargedRefusal_cases (c := c) (p := p) (s := s) hcls
  exact ⟨fun hst => charged (suspended hst), fun hst => charged (barred hst),
    fun hst ha => charged (forbidden hst ha), fun hst ha hset => charged (unset hst ha hset),
    fun hst ha hset hf => charged (unfunded hst ha hset hf),
    fun hst ha hset hf hn => charged (full hst ha hset hf hn)⟩

end Sys2Proof.Machine
end

section
/-! Chapter 3: what an admitted SESSION_OPEN writes (R47, R48). -/

namespace Sys2Proof.Machine

/-! ### The steps of an opening (R13, R47, R48) -/

/-- R19, R22: the partner of a session, by its context. -/
theorem partnerEntry_eq {s : State} {x : Session} {c : Context} {p : Partner} (hc : s.ctx x.subscriber = some c)
    (hp : s.par c.partner = some p) : s.partnerEntry x = some (c.partner, p) := by
  simp [State.partnerEntry, hc, hp]

theorem modCtx_eq {s : State} {k : Nat} {c : Context} (hc : s.ctx k = some c) (f : Context → Context) :
    s.modCtx k f = s.setCtx k (f c) := by
  simp only [State.modCtx, hc]

theorem gainUse_eq {s : State} {x : Session} {c : Context} {p : Partner} (hc : s.ctx x.subscriber = some c)
    (hp : s.par c.partner = some p) :
    gainUse x s = (s.setPar c.partner { p with sessions := p.sessions + 1 }).modPlanUse p.plan (· + 1) := by
  simp only [gainUse, partnerEntry_eq hc hp]

theorem enlist_eq {s : State} {k : Nat} {c : Context} (hc : s.ctx k = some c) (n : Nat) :
    s.enlist k n = s.setCtx k { c with sessions := c.sessions ++ [n] } := modCtx_eq hc _

/-- R47 step 2, R48 step 3: a session that opens bound is counted on its link. -/
theorem openRecord_bound {x : Session} {l : LinkId} (hb : x.binding = .bound l) (n : Nat) (s : State) :
    openRecord n x s = (s.setSes n x).modLink l fun k => k.gain x := by
  simp only [openRecord, hb, Binding.countedOn]

/-- R48 step 3: a session that opens STRANDED is counted so, and RADIO is told. -/
theorem openRecord_stranded {x : Session} (hb : x.binding = .stranded) (n : Nat) (s : State) :
    openRecord n x s =
      ((s.setSes n x).modStranded (· + 1)).raise (.stranded n x.subscriber x.cls none x.ref) := by
  simp only [openRecord, hb, Binding.countedOn]

/-- R115: a VOICE, DATA or MESSAGE session gains a link one bound session. -/
theorem gain_charged {x : Session} (hx : x.cls ≠ .emergency) (l : Link) :
    l.gain x = { l with bound := l.bound + 1 } := by
  simp [Link.gain, Session.nonEmergency, hx]

/-- R115: an EMERGENCY session gains a link one emergency session. -/
theorem gain_emergency {x : Session} (hx : x.cls = .emergency) (l : Link) :
    l.gain x = { l with emergency := l.emergency + 1 } := by
  simp [Link.gain, Session.nonEmergency, hx]

/-- Settles O37: every check passes, the choice is the link that leads, and the record is written and counted. -/
theorem sessionOpenBinds : Obligations.SessionOpenBinds := by
  intro h k n cls ref c p l s hr hh hline hflag hk hc hpres hlen hn free taken hp hst hcls hlevel i hset hcredit fits
    hl best
  have choice : s.bindingChoice = some l :=
    bestLink_eq_some ((takes_iff s l).2 hl) fun m hm => best m ((takes_iff s m).1 hm)
  have admitted : chargedRefusal c p cls cls.code s = none := by
    simp [chargedRefusal_admitted hst ((levelAllows_iff hcls _).2 hlevel) hset, hcredit, choice]
  have opens : sessionOpenAnswer k (some cls) ref ⟨h.client, .radio⟩ s = openCharged n k p cls cls.code l ref s :=
    (sessionOpenAnswer_charged _ ⟨awake hline hflag, (slot_eq hk).trans hc, hpres, hlen⟩
      (freeSessionHandle_eq_some hn free taken) hcls).trans (openNonEmergency_opens hp admitted choice)
  refine request_answers hr hh rfl (opens.trans ?_) hr.1 hr.2 rfl
  rw [openCharged, openRecord_bound rfl, funext (gain_charged hcls), gainUse_eq (c := c) (p := p), enlist_eq (c := c)]
  · rfl
  · exact hc
  · exact hc
  · exact hp

/-- Settles O38: the emergency choice takes the leading UP link, failing that the leading DEGRADED one, failing both
none. -/
theorem sessionOpenEmergency : Obligations.SessionOpenEmergency := by
  intro h k n ref c s hr hh hline hflag hk hc hpres hlen hn free taken best opened
  have opens : sessionOpenAnswer k (some .emergency) ref ⟨h.client, .radio⟩ s = openEmergency n k ref s :=
    sessionOpenAnswer_emergency _ ⟨awake hline hflag, (slot_eq hk).trans hc, hpres, hlen⟩
      (freeSessionHandle_eq_some hn free taken)
  have leader {st : LinkState} {l : LinkId} (hl : best st l) :
      s.bestLink (fun l => (s.link l).state == st) = some l :=
    bestLink_eq_some (by simpa using hl.1) fun m hm => hl.2 m (by simpa using hm)
  have nobody {st : LinkState} (hst : ∀ m, (s.link m).state ≠ st) :
      s.bestLink (fun l => (s.link l).state == st) = none :=
    bestLink_eq_none fun l => by simpa using hst l
  constructor
  · intro l hl
    have choice : s.emergencyChoice = some l := by
      unfold State.emergencyChoice
      obtain up | ⟨down, degraded⟩ := hl
      · rw [leader up]
      · rw [nobody down, leader degraded]
    refine request_answers hr hh rfl (opens.trans ?_) hr.1 hr.2 rfl
    simp only [openEmergency, choice]
    rw [openRecord_bound rfl, funext (gain_emergency rfl), enlist_eq (c := c)]
    · rfl
    · exact hc
  · intro down
    have choice : s.emergencyChoice = none := by
      unfold State.emergencyChoice
      rw [nobody fun m => (down m).1, nobody fun m => (down m).2]
    refine request_tells (t := let t := opened .stranded
        { t with sess := { t.sess with stranded := s.sess.stranded + 1 } }) hr hh rfl (opens.trans ?_) hr.1 hr.2
      rfl fun note hnote => by rw [List.mem_singleton.1 hnote]; rfl
    simp only [openEmergency, choice]
    rw [openRecord_stranded rfl, enlist_eq (c := c)]
    · simp only [State.raise, State.modStranded, State.setSes_raised, hr.1, List.nil_append]
      rfl
    · exact hc

end Sys2Proof.Machine
end

section
/-! Chapter 3: READ_SESSION (R58), and the release conditions it reports (R53, R54). -/

namespace Sys2Proof.Machine

/-- R51, R58, R61: a handle up to 8,191 names the session open at it. -/
theorem openAt_eq {n : Nat} (hn : n ≤ 8191) (s : State) : s.openAt n = s.ses n :=
  if_pos (Nat.lt_succ_of_le hn)

/-- R51, R58, R61: a handle above 8,191, or of a free record, names no session. -/
theorem openAt_eq_none {n : Nat} {s : State} (hn : 8191 < n ∨ s.ses n = none) : s.openAt n = none := by
  unfold State.openAt
  split
  · next lt => exact hn.resolve_left (Nat.not_lt.2 (Nat.le_of_lt_succ lt))
  · rfl

/-! ### Fields -/

theorem service_code_eq (v : Service) : v.code = if v = .blocked then 1 else 0 := by cases v <;> rfl

/-- R78: a session awaits a cut when its epoch is the previous epoch. -/
theorem inPrevious_iff (s : State) (x : Session) :
    s.inPrevious x = true ↔ s.tariff.previous.map Previous.epoch = some x.epoch := by
  unfold State.inPrevious
  cases s.tariff.previous with
  | none => simp
  | some p => exact beq_iff_eq.trans ⟨fun e => congrArg some e.symm, fun e => (Option.some.inj e).symm⟩

theorem nonEmergency_iff (x : Session) : x.nonEmergency = true ↔ x.cls ≠ .emergency := by
  simp [Session.nonEmergency]

/-! ### The release conditions (R53, R54) -/

/-- R53: the levels that put the zone condition on a VOICE, DATA or MESSAGE session. -/
theorem zoneCondition_iff {s : State} {x : Session} (hx : x.cls ≠ .emergency) :
    s.zoneCondition x = true ↔
      s.effectiveLevel = .emergencyOnly ∨ (s.effectiveLevel = .limited ∧ x.cls = .data) := by
  have refuses : s.zoneCondition x = true ↔ ¬ levelAllows s.effectiveLevel x.cls = true := by
    simp [State.zoneCondition]
  rw [refuses, levelAllows_iff hx]
  cases s.effectiveLevel with
  | full => simp
  | limited => simp
  | emergencyOnly => simp

theorem partnerOf_eq {s : State} {x : Session} {c : Context} {p : Partner} (hc : s.ctx x.subscriber = some c)
    (hp : s.par c.partner = some p) : s.partnerOf x = some p := by
  simp [State.partnerOf, hc, hp]

/-- R53: the partner condition of a session is that its partner is BARRED. -/
theorem partnerCondition_iff {s : State} {x : Session} {p : Partner} (hp : s.partnerOf x = some p) :
    s.partnerCondition x = true ↔ p.status = .barred := by
  simp [State.partnerCondition, hp]

/-- R7: the partner's deadline stands while it is BARRED. -/
theorem barDeadline_eq (p : Partner) : p.barDeadline =
    if p.status = .barred then p.barTime.map fun b => min (b + p.barWindow * 1000) 1099511627775 else none := by
  unfold Partner.barDeadline
  cases p.status with
  | barred => rfl
  | _ => rfl

/-- R54: the zone condition's deadline is the wind-down deadline, from the effective zone. -/
theorem windDown_eq (s : State) : s.windDown = match s.zone.effective with
    | none => s.zone.since
    | some z => min (s.zone.since + (s.zoneAt z).window * 1000) 1099511627775 := by
  unfold State.windDown
  cases s.zone.effective <;> rfl

/-- R54: the release deadline is the earlier of the deadlines of the conditions that hold. -/
theorem releaseDeadline_eq {s : State} {x : Session} {p : Partner} (hp : s.partnerOf x = some p) :
    s.releaseDeadline x = earlier
      (if x.cls ≠ .emergency ∧ s.zoneCondition x = true then some s.windDown else none)
      (if x.cls ≠ .emergency ∧ p.status = .barred then p.barDeadline else none) := by
  unfold State.releaseDeadline State.releasing
  rw [hp, Option.bind_some]
  by_cases hx : x.cls = .emergency
  · simp [hx, earlier]
  have noBar : p.status ≠ .barred → p.barDeadline = none := fun hb => by rw [barDeadline_eq, if_neg hb]
  have partner := partnerCondition_iff hp
  cases hz : s.zoneCondition x with
  | true => by_cases hb : p.status = .barred <;> simp [hx, hb, noBar]
  | false => by_cases hb : p.status = .barred <;> simp [hx, hb, partner, earlier]

/-- A flag byte is 1 exactly when its condition holds. -/
theorem fFlag_of_iff {b : Bool} {q : Prop} [Decidable q] (h : b = true ↔ q) : fFlag b = .u8 (if q then 1 else 0) := by
  rw [fFlag_eq]
  exact congrArg Field.u8 (if_congr h rfl rfl)

/-- Settles O42: the record is listed as the manual does, then its release conditions and their deadline. -/
theorem readSessionFields : Obligations.ReadSessionFields := by
  intro h n r s hr hh
  refine ⟨fun hn => request_refuses hr hh rfl (by simp only [readSessionAnswer, openAt_eq_none hn]), ?_⟩
  intro x c p hn hx hc hp flag level zone partner zoneDeadline partnerDeadline deadline
  have ofPartner := partnerOf_eq hc hp
  have charged := nonEmergency_iff x
  have zone_iff : (x.nonEmergency && s.zoneCondition x) = true ↔ zone := by
    rw [Bool.and_eq_true, charged]
    exact and_congr_right zoneCondition_iff
  have partner_iff : (x.nonEmergency && s.partnerCondition x) = true ↔ partner := by
    rw [Bool.and_eq_true, charged, partnerCondition_iff ofPartner]
  have releasing_iff : s.releasing x = true ↔ zone ∨ partner := by
    rw [← zone_iff, ← partner_iff, ← Bool.or_eq_true, ← Bool.and_or_distrib_left]
    rfl
  have zoneBranch :
      (if x.cls ≠ .emergency ∧ s.zoneCondition x = true then some s.windDown else none) = zoneDeadline := by
    rw [windDown_eq]
    exact if_congr (and_congr_right zoneCondition_iff) rfl rfl
  have partnerBranch : (if x.cls ≠ .emergency ∧ p.status = .barred then p.barDeadline else none) = partnerDeadline :=
    if_ctx_congr Iff.rfl (fun ⟨_, hb⟩ => (barDeadline_eq p).trans (if_pos hb)) fun _ => rfl
  have atDeadline : s.releaseDeadline x = deadline := by
    rw [releaseDeadline_eq ofPartner, zoneBranch, partnerBranch]
    unfold deadline earlier
    rfl
  refine request_answers hr hh rfl ?_ hr.1 hr.2 rfl
  simp only [readSessionAnswer, openAt_eq hn, hx, fSession, fOpt64, hc, service_code_eq, Option.map_some,
    Option.getD_some, fFlag_of_iff zone_iff, fFlag_of_iff partner_iff, fFlag_of_iff releasing_iff, atDeadline,
    fFlag_of_iff (inPrevious_iff s x), fFlag_eq, List.append_assoc]
  cases x.binding with
  | bound l => rfl
  | moving src d b => cases src <;> rfl
  | stranded => rfl

end Sys2Proof.Machine
end

section
/-! Chapter 4: what the final rating of a session adds up to (R73 to R75), a charge at a time. -/

namespace Sys2Proof.Machine

/-! ### Charges that add up (R75) -/

theorem headroomOf_eq (c : Context) (a : Nat) : headroomOf c a = min a (999999999999 - c.folio) := rfl

/-- R75: two charges in a row take of the folio what one charge of their sum takes. -/
theorem headroomOf_add {c d : Context} (a b : Nat) (hd : d.folio = c.folio + headroomOf c a) :
    headroomOf c a + headroomOf d b = headroomOf c (a + b) := by
  simp only [headroomOf_eq] at hd ⊢
  omega

theorem Subtotals.add_add (b : Subtotals) (z : ZoneClass) (h k : Nat) : (b.add z h).add z k = b.add z (h + k) := by
  cases z <;> simp [Subtotals.add, Nat.add_assoc]

/-- `t` is `s` after charges of `a` in all, in zone class `z`, to the session `x` open at `n`, whose context is `c`
under partner `p`; the session has come to `b` blocks charged and a carry of `r`. What the evaluation of the context's
credit decides is left open. -/
structure Billed (n : Nat) (x : Session) (c : Context) (p : Partner) (z : ZoneClass) (a b r : Nat) (s t : State) :
    Prop where
  own : ∃ y, t.ses n = some y ∧ y = { x with
    residue := y.residue, epoch := y.epoch, service := y.service, blocks := b, carry := r
    charge := x.charge + headroomOf c a }
  other : ∀ m y, m ≠ n → s.ses m = some y →
    ∃ v, t.ses m = some { y with service := v } ∧ (m ∉ c.sessions → v = y.service)
  free : ∀ m, m ≠ n → s.ses m = none → t.ses m = none
  context : ∃ d, t.ctx x.subscriber = some d ∧ d = { c.apply z (headroomOf c a) with
    credit := d.credit, ask := d.ask, lastAsk := d.lastAsk }
  contexts : ∀ m, m ≠ x.subscriber → t.ctx m = s.ctx m
  partner : t.par c.partner = some { p with openTotal := p.openTotal + headroomOf c a }
  partners : ∀ m, m ≠ c.partner → t.par m = s.par m

/-- The session open at `n` with its context and its partner. -/
structure Owned (s : State) (n : Nat) (x : Session) (c : Context) (p : Partner) : Prop where
  session : s.ses n = some x
  context : s.ctx x.subscriber = some c
  partner : s.par c.partner = some p

section
variable {n : Nat} {x : Session} {c : Context} {p : Partner} {z : ZoneClass} {a b r : Nat} {s t u : State}

theorem headroomOf_zero (c : Context) : headroomOf c 0 = 0 := by simp [headroomOf]

/-- A step that charges nothing. -/
theorem Billed.refl (z : ZoneClass) (ho : Owned s n x c p) : Billed n x c p z 0 x.blocks x.carry s s where
  own := ⟨x, ho.session, by rw [headroomOf_zero]; rfl⟩
  other m y _ hy := ⟨y.service, hy, fun _ => rfl⟩
  free _ _ h := h
  context := ⟨c, ho.context, by rw [headroomOf_zero, Context.apply, Subtotals.add_zero]; rfl⟩
  contexts _ _ := rfl
  partner := by rw [headroomOf_zero]; exact ho.partner
  partners _ _ := rfl

/-- One step of a rating after another. -/
theorem Billed.trans {a' b' r' : Nat} (h₁ : Billed n x c p z a b r s t)
    (h₂ : ∀ y d q, y.blocks = b → y.carry = r → Owned t n y d q → Billed n y d q z a' b' r' t u) :
    Billed n x c p z (a + a') b' r' s u := by
  obtain ⟨y, hy, same⟩ := h₁.own
  obtain ⟨d, hd, applied⟩ := h₁.context
  have subscriber : y.subscriber = x.subscriber := by rw [same]
  have under : d.partner = c.partner := by rw [applied]; rfl
  have listed : d.sessions = c.sessions := by rw [applied]; rfl
  have folio : d.folio = c.folio + headroomOf c a := by rw [applied]; rfl
  have sum := headroomOf_add a a' folio
  have step := h₂ y d _ (by rw [same]) (by rw [same]) ⟨hy, subscriber ▸ hd, under ▸ h₁.partner⟩
  refine ⟨?_, fun m w hm hw => ?_, fun m hm hw => step.free m hm (h₁.free m hm hw), ?_, fun m hm => ?_, ?_,
    fun m hm => ?_⟩
  · obtain ⟨w, hw, final⟩ := step.own
    refine ⟨w, hw, final.trans ?_⟩
    rw [same, ← sum, Nat.add_assoc]
  · obtain ⟨v, hv, kept₁⟩ := h₁.other m w hm hw
    obtain ⟨v', hv', kept₂⟩ := step.other m _ hm hv
    exact ⟨v', hv', fun out => (kept₂ (listed ▸ out)).trans (kept₁ out)⟩
  · obtain ⟨e, he, final⟩ := step.context
    refine ⟨e, subscriber ▸ he, final.trans ?_⟩
    rw [← sum]
    generalize headroomOf d a' = later
    rw [applied]
    simp only [Context.apply, Subtotals.add_add, Nat.add_assoc]
  · rw [step.contexts m (subscriber ▸ hm), h₁.contexts m hm]
  · rw [← under, step.partner, ← sum, Nat.add_assoc]
  · rw [step.partners m (under ▸ hm), h₁.partners m hm]

/-- R75: the record rewritten within the rating and then charged. -/
theorem billed_charge {w : Session} (z : ZoneClass) (a : Nat) (ho : Owned s n x c p)
    (hw : w = { x with residue := w.residue, epoch := w.epoch, blocks := w.blocks, carry := w.carry }) :
    Billed n x c p z a w.blocks w.carry s (charge n z a (s.setSes n w)) := by
  have subscriber : w.subscriber = x.subscriber := by rw [hw]
  have context : s.ctx w.subscriber = some c := subscriber ▸ ho.context
  obtain ⟨t, blocked, asked, charged, eq⟩ :=
    charge_charges z a ho.session (by rw [hw]) (by rw [hw]) context ho.partner
  obtain ⟨-, ses, ctx, par, -, -⟩ := charged c p context ho.partner
  rw [eq]
  refine ⟨?_, fun m y hm hy => ?_, fun m hm hy => ?_, ?_, fun m hm => ?_, ?_, fun m hm => ?_⟩
  · have written := ses n
    dsimp only at written
    rw [if_pos rfl] at written
    split at written
    · exact ⟨_, written, by rw [hw]; rfl⟩
    · exact ⟨_, written, by rw [hw]; rfl⟩
  · have left := ses m
    dsimp only at left
    rw [if_neg hm, hy] at left
    split at left
    · next ends => exact ⟨_, left, fun out => absurd (List.mem_of_mem_filter ends.2) out⟩
    · exact ⟨y.service, left, fun _ => rfl⟩
  · have left := ses m
    dsimp only at left
    rw [if_neg hm, hy] at left
    exact left.trans (ite_self _)
  · exact ⟨_, (ctx x.subscriber).trans (if_pos subscriber.symm), rfl⟩
  · exact (ctx m).trans (if_neg (subscriber ▸ hm))
  · exact (par c.partner).trans (if_pos rfl)
  · exact (par m).trans (if_neg hm)

/-- R68, R70, R73: an amount in thousandths: its whole micro-units are charged, the rest becomes the carry. -/
theorem billed_chargeThousandths {w : Session} (z : ZoneClass) (a : Nat) (ho : Owned s n x c p)
    (hw : w = { x with residue := w.residue, epoch := w.epoch, blocks := w.blocks, carry := w.carry }) :
    Billed n x c p z (a / 1000) w.blocks (a % 1000) s (chargeThousandths n z a (s.setSes n w)) := by
  have written : (s.setSes n w).modSes n (fun w => { w with carry := a % 1000 }) =
      s.setSes n { w with carry := a % 1000 } := by simp [State.modSes]
  rw [chargeThousandths, written]
  exact billed_charge (w := { w with carry := a % 1000 }) z (a / 1000) ho (by rw [hw])

/-! ### The steps of the final rating (R73, R74) -/

/-- R73 step 2: the residue is rounded as the cell says: to one whole block, or to its share of one. -/
theorem closeResidue_billed (q : Price) (ho : Owned s n x c p) :
    let rate := q.cell.price * q.factor
    let due := if x.hasResidue = true then (if q.cell.rounding = .whole then rate + x.carry
      else x.residue * q.cell.price * q.factor / q.cell.blockSize + x.carry) else x.carry
    Billed n x c p q.zoneClass (if x.hasResidue = true then due / 1000 else 0)
      (if x.hasResidue = true ∧ q.cell.rounding = .whole then min (x.blocks + 1) 4294967295 else x.blocks)
      (if x.hasResidue = true then due % 1000 else x.carry) s (closeResidue n q s) := by
  intro rate due
  simp only [closeResidue, ho.session]
  by_cases hr : x.hasResidue = true
  · simp only [hr, if_true, true_and]
    cases hround : q.cell.rounding with
    | whole =>
      have step := billed_chargeThousandths (w := { x with residue := 0, blocks := saturate blocksMax (x.blocks + 1) })
        q.zoneClass (blockThousandths 1 q.cell.price q.factor x.carry) ho rfl
      have amount : blockThousandths 1 q.cell.price q.factor x.carry = due := by
        simp [blockThousandths, due, rate, hr, hround]
      rw [amount] at step
      rw [if_pos rfl, amount]
      exact step
    | prorata =>
      have step := billed_chargeThousandths (w := { x with residue := 0, epoch := s.tariff.epoch })
        q.zoneClass (shareThousandths x.residue q.cell.blockSize q.cell.price q.factor x.carry) ho rfl
      have amount : shareThousandths x.residue q.cell.blockSize q.cell.price q.factor x.carry = due := by
        simp [shareThousandths, due, hr, hround]
      rw [amount] at step
      simpa only [cutAt, ho.session, hr, if_true, amount, reduceCtorEq, if_false] using step
  · simp only [hr]
    exact .refl _ ho

/-- R73 step 3: the blocks that the cell's minimum lacks are made up. -/
theorem closeMinimum_billed (q : Price) (ho : Owned s n x c p) (hb : x.blocks = b) (hr : x.carry = r) :
    let short := q.cell.minimum - b
    let due := short * (q.cell.price * q.factor) + r
    Billed n x c p q.zoneClass (if 0 < short then due / 1000 else 0) (b + short)
      (if 0 < short then due % 1000 else r) s (closeMinimum n q s) := by
  subst hb hr
  intro short due
  simp only [closeMinimum, ho.session]
  by_cases hs : x.blocks < q.cell.minimum
  · have step := billed_chargeThousandths (w := { x with blocks := q.cell.minimum })
      q.zoneClass (blockThousandths short q.cell.price q.factor x.carry) ho rfl
    have amount : blockThousandths short q.cell.price q.factor x.carry = due := by
      simp only [blockThousandths, due, Nat.mul_assoc]
    have reached : x.blocks + short = q.cell.minimum := Nat.add_sub_of_le hs.le
    rw [if_pos hs, if_pos (Nat.sub_pos_of_lt hs), if_pos (Nat.sub_pos_of_lt hs), reached]
    rwa [amount] at step ⊢
  · have reached : short = 0 := Nat.sub_eq_zero_of_le (Nat.le_of_not_lt hs)
    rw [if_neg hs, reached]
    exact .refl _ ho

/-- R73 step 4: a carry of half a micro-unit or more is charged as one. -/
theorem closeCarry_billed (z : ZoneClass) (ho : Owned s n x c p) (hb : x.blocks = b) (hr : x.carry = r) :
    Billed n x c p z (if 500 ≤ r then 1 else 0) b 0 s (closeCarry n z s) := by
  subst hb hr
  simp only [closeCarry, ho.session]
  exact billed_charge (w := { x with carry := 0 }) z _ ho rfl

end

end Sys2Proof.Machine
end

section
/-! Chapter 4: the final rating of a session of the current epoch, as the manual adds it up (R73, R74). -/

namespace Sys2Proof.Machine

/-- What a final rating asks for: an amount, and the blocks charged that the session comes to. -/
structure FinalBill where
  amount : Nat
  blocks : Nat

/-- R73, R74: the final rating of a session under a partner, each step at the values in force. -/
def State.finalBill (s : State) (x : Session) (p : Partner) : FinalBill :=
  let charged := x.cls ≠ .emergency
  let cell := s.cellValues p.plan s.effectiveClass x.cls
  let factor := s.factor x.cls x.binding p.adjustment
  let rate := cell.price * factor
  let rounds := charged ∧ x.cls ≠ .message ∧ 0 < x.residue
  let x1 := if rounds then (if cell.rounding = .whole then rate + x.carry
      else x.residue * cell.price * factor / cell.blockSize + x.carry) else x.carry
  let k1 := if rounds then x1 / 1000 else 0
  let c1 := if rounds then x1 % 1000 else x.carry
  let b1 := if rounds ∧ cell.rounding = .whole then min (x.blocks + 1) 4294967295 else x.blocks
  let short := if charged then cell.minimum - b1 else 0
  let x2 := short * rate + c1
  let k2 := if 0 < short then x2 / 1000 else 0
  let c2 := if 0 < short then x2 % 1000 else c1
  let k3 := if charged ∧ 500 ≤ c2 then 1 else 0
  ⟨k1 + k2 + k3, b1 + short⟩

/-! ### The values in force (R66, R67) -/

theorem factorOf_eq (cls : TrafficClass) (surcharge : Nat) (adjustment : Int) :
    factorOf cls surcharge adjustment =
      (1000 + (if cls = .message then 0 else (surcharge : Int)) + adjustment).toNat := by
  cases cls <;> simp [factorOf]

/-- R66, R67: a VOICE, DATA or MESSAGE session is priced at its cell and its factor. -/
theorem currentPrice_eq {x : Session} (hx : x.cls ≠ .emergency) (s : State) (p : Partner) :
    s.currentPrice x p =
      ⟨s.cellValues p.plan s.effectiveClass x.cls, s.factor x.cls x.binding p.adjustment, s.effectiveClass⟩ := by
  have cell : s.cellFor p.plan s.effectiveClass x.cls = s.cellValues p.plan s.effectiveClass x.cls := by
    rw [State.cellFor, classColumn_eq hx]
    rfl
  have factor : factorOf x.cls (s.surchargeOf x.binding) p.adjustment = s.factor x.cls x.binding p.adjustment := by
    rw [factorOf_eq]
    unfold State.surchargeOf State.factor
    cases x.binding.countedOn <;> rfl
  rw [State.currentPrice, cell, factor]

/-- R66, R67: what the final rating reads of the state and the session. -/
theorem finalBill_congr {s t : State} (x : Session) {b : Binding} (p : Partner) (hz : t.zone = s.zone)
    (hc : t.tariff.cells = s.tariff.cells) (hs : ∀ l, (t.link l).surcharge = (s.link l).surcharge)
    (hb : b.countedOn = x.binding.countedOn) : t.finalBill { x with binding := b } p = s.finalBill x p := by
  have cls : t.effectiveClass = s.effectiveClass := by simp only [State.effectiveClass, State.zoneAt, hz]
  have cell : t.cellValues p.plan s.effectiveClass x.cls = s.cellValues p.plan s.effectiveClass x.cls := by
    simp only [State.cellValues, hc]
  have factor : t.factor x.cls b p.adjustment = s.factor x.cls x.binding p.adjustment := by
    simp only [State.factor, hb, hs]
  simp only [State.finalBill, cls, cell, factor]

/-! ### The final rating (R73, R74) -/

/-- R70, R73: only VOICE and DATA leave a residue to round. -/
theorem hasResidue_iff (x : Session) :
    x.hasResidue = true ↔ x.cls ≠ .emergency ∧ x.cls ≠ .message ∧ 0 < x.residue := by
  cases h : x.cls <;> simp [Session.hasResidue, h]

/-- R78: a session of the current epoch needs no epoch cut. -/
theorem epochCutOf_current {s : State} {n : Nat} {x : Session} (hx : s.ses n = some x) (hp : s.inPrevious x = false) :
    epochCutOf n s = s := by
  unfold epochCutOf
  split
  · next y prev hy hprev =>
    obtain rfl : y = x := by rwa [hy, Option.some.injEq] at hx
    rw [if_neg fun e => ?_]
    simp [State.inPrevious, hprev, e] at hp
  · rfl

/-- R73, R74: the final rating of a session of the current epoch charges its bill. -/
theorem finalRating_billed {s : State} {n : Nat} {x : Session} {c : Context} {p : Partner} (ho : Owned s n x c p)
    (hp : s.inPrevious x = false) :
    ∃ r, Billed n x c p s.effectiveClass (s.finalBill x p).amount (s.finalBill x p).blocks r s (finalRating n s) := by
  have cut := epochCutOf_current ho.session hp
  by_cases hx : x.cls = .emergency
  · have idle : finalRating n s = s := by simp only [finalRating, cut, ho.session, hx, if_true]
    refine ⟨x.carry, ?_⟩
    rw [idle]
    simpa [State.finalBill, hx] using Billed.refl s.effectiveClass ho
  · have steps : finalRating n s = closeCarry n s.effectiveClass
        (closeMinimum n (s.currentPrice x p) (closeResidue n (s.currentPrice x p) s)) := by
      simp only [finalRating, cut, ho.session, hx, if_false, partnerOf_eq ho.context ho.partner]
      rfl
    refine ⟨0, ?_⟩
    rw [steps, currentPrice_eq hx]
    have bill := ((closeResidue_billed (s.currentPrice x p) ho).trans fun _ _ _ hb hr ho' =>
      closeMinimum_billed (s.currentPrice x p) ho' hb hr).trans fun _ _ _ hb hr ho' =>
        closeCarry_billed (s.currentPrice x p).zoneClass ho' hb hr
    rw [currentPrice_eq hx] at bill
    simp only [hasResidue_iff] at bill
    simp only [State.finalBill, ne_eq, hx, not_false_eq_true, true_and, if_true] at bill ⊢
    exact bill

end Sys2Proof.Machine
end

section
/-! Chapter 3: what SESSION_CLOSE takes out of the counts, and what it leaves (R50, R51). -/

namespace Sys2Proof.Machine

/-! ### What a session weighs in the counts (R40, R115) -/

theorem weigh_boundOn (x : Session) (l : LinkId) :
    weigh (boundOn l) (some x.seat) = if x.cls ≠ .emergency ∧ x.binding.countedOn = some l then 1 else 0 := by
  simp [boundOn, Session.seat, Session.nonEmergency]

theorem weigh_emergencyOn (x : Session) (l : LinkId) :
    weigh (emergencyOn l) (some x.seat) = if x.cls = .emergency ∧ x.binding.countedOn = some l then 1 else 0 := by
  simp [emergencyOn, Session.seat, Session.nonEmergency]

theorem weigh_reservedOn (x : Session) (l : LinkId) :
    weigh (reservedOn l) (some x.seat) = if x.cls ≠ .emergency ∧ x.binding.movingTo l = true then 1 else 0 := by
  simp [reservedOn, Session.seat, Session.nonEmergency]

theorem weigh_strandedSeat (x : Session) :
    weigh strandedSeat (some x.seat) = if x.binding.countedOn = none then 1 else 0 := by
  simp [strandedSeat, Session.seat]

/-! ### What a close may write -/

/-- `t` is `s` but for what a close may write. -/
def CloseWrites (s t : State) : Prop :=
  t = { s with
    sess := t.sess, subs := { s.subs with contexts := t.subs.contexts }, links := t.links
    tariff := { s.tariff with partners := t.tariff.partners, planUse := t.tariff.planUse }, mig := t.mig
    raised := t.raised }

theorem CloseWrites.trans {s t u : State} (h₁ : CloseWrites s t) (h₂ : CloseWrites t u) : CloseWrites s u := by
  unfold CloseWrites at h₂
  rw [show t = _ from h₁] at h₂
  exact h₂

theorem closeWrites_of_eq {s t : State} {sess : Sessions} {contexts : Table Context} {links : Vector Link 8}
    {partners : Table Partner} {planUse : Vector Nat 32} {mig : Migration} {raised : List Notice}
    (h : t = { s with
      sess := sess, subs := { s.subs with contexts := contexts }, links := links
      tariff := { s.tariff with partners := partners, planUse := planUse }, mig := mig, raised := raised }) :
    CloseWrites s t := by
  subst h
  rfl

theorem Rates.writes {s t : State} (h : Rates s t) : CloseWrites s t := closeWrites_of_eq h.frame

/-! ### Withdrawal (R50 step 1, R136) -/

/-- R50 step 1, R136: `t` is `s` after the session `x` open at `n` was withdrawn: it is counted where it was and is not
MOVING, and the batch it was in, if any, goes on without it or has ended. -/
structure Withdrawn (n : Nat) (x : Session) (s t : State) : Prop where
  own : ∃ b, t.ses n = some { x with binding := b } ∧ b.isMoving = false ∧ b.countedOn = x.binding.countedOn
  other : ∀ m, m ≠ n → t.ses m = s.ses m
  stranded : t.sess.stranded = s.sess.stranded
  link : ∀ l, t.link l = { s.link l with
    reserved := (s.link l).reserved - weigh (reservedOn l) (some x.seat) }
  queue : t.mig.queue = s.mig.queue
  still : x.binding.isMoving = false → t.mig = s.mig
  batch : ∀ b, x.binding.isMoving = true → s.mig.batch = some b → t.mig.batch =
    if b.sessions.filter (· ≠ n) = [] then none else some { b with sessions := b.sessions.filter (· ≠ n) }
  frame : t = { s with
    sess := { s.sess with records := t.sess.records }, links := t.links, mig := t.mig, raised := t.raised }

/-- A session that is not MOVING is withdrawn as it stands. -/
theorem withdraw_still {n : Nat} {s : State} {x : Session} (hx : s.ses n = some x) (hb : x.binding.isMoving = false) :
    withdraw n s = s := by
  unfold withdraw
  simp only [hx]
  split
  · next moving => rw [moving] at hb; cases hb
  · rfl

theorem filter_bne_eq (l : List Nat) (n : Nat) : l.filter (fun m => m != n) = l.filter (· ≠ n) :=
  List.filter_congr fun m _ => by by_cases h : m = n <;> simp [h]

/-- R136: a MOVING session is home again, whatever becomes of its batch. -/
theorem withdrawn_home {n : Nat} {s t : State} {x : Session} {src : Source} {d : LinkId} {k : Nat}
    (hb : x.binding = .moving src d k)
    (ht : t = { releaseSlot d x (s.setSes n { x with binding := homeBinding src }) with
      mig := t.mig, raised := t.raised })
    (queue : t.mig.queue = s.mig.queue)
    (batch : ∀ b, s.mig.batch = some b → t.mig.batch =
      if b.sessions.filter (· ≠ n) = [] then none else some { b with sessions := b.sessions.filter (· ≠ n) }) :
    Withdrawn n x s t := by
  have seat : x.seat = (x.nonEmergency, .moving src d k) := by rw [Session.seat, hb]
  have sess : t.sess = (s.setSes n { x with binding := homeBinding src }).sess := by rw [ht, releaseSlot_sess]
  have ses (m : Nat) : t.ses m = (s.setSes n { x with binding := homeBinding src }).ses m := by
    simp only [State.ses, sess]
  refine ⟨⟨homeBinding src, ?_, homeBinding_isMoving src, by rw [hb, homeBinding_countedOn]⟩, fun m hm => ?_, ?_,
    fun l => ?_, queue, fun still => ?_, fun b _ => batch b, ?_⟩
  · rw [ses, State.ses_setSes]
  · rw [ses, State.ses_setSes_other _ _ hm]
  · rw [sess]; rfl
  · rw [ht, seat]
    exact releaseSlot_link src d k x _ l
  · rw [hb] at still; cases still
  · have frame := ht
    rw [releaseSlot_frame] at frame
    generalize releaseSlot d x _ = u, t.mig = mig, t.raised = raised at frame
    subst frame
    rfl

theorem withdraw_withdrawn {n : Nat} {s : State} {x : Session} (hx : s.ses n = some x) :
    Withdrawn n x s (withdraw n s) := by
  cases hm : x.binding.isMoving with
  | false =>
    rw [withdraw_still hx hm]
    refine ⟨⟨x.binding, hx, hm, rfl⟩, fun _ _ => rfl, rfl, fun l => ?_, rfl, fun _ => rfl,
      fun _ moving => absurd (hm.symm.trans moving) Bool.false_ne_true, rfl⟩
    rw [weigh_reservedOn, Binding.movingTo_eq_false hm, if_neg (by simp)]
    rfl
  | true =>
    unfold withdraw
    simp only [hx]
    split
    · next src d k hb =>
      have mig : (releaseSlot d x (s.setSes n { x with binding := homeBinding src })).mig = s.mig := releaseSlot_mig ..
      split
      · next none_left =>
        refine withdrawn_home hb rfl (by rw [mig]) fun b hbatch => ?_
        rw [mig, hbatch] at none_left
        cases none_left
      · next b hbatch =>
        rw [mig] at hbatch
        simp only [filter_bne_eq, List.isEmpty_iff]
        split
        · next empty =>
          refine withdrawn_home hb rfl (by simp) fun b' hb' => ?_
          obtain rfl : b = b' := by simpa [hbatch] using hb'
          rw [if_pos empty]
          rfl
        · next more =>
          refine withdrawn_home hb rfl (by simp) fun b' hb' => ?_
          obtain rfl : b = b' := by simpa [hbatch] using hb'
          rw [if_neg more]
          rfl
    · next still =>
      cases hb : x.binding with
      | moving src d k => exact absurd hb (still src d k)
      | bound => rw [hb] at hm; cases hm
      | stranded => rw [hb] at hm; cases hm

/-! ### The other steps (R50) -/

/-- R50 step 2: the handle leaves the list of its context. -/
theorem unlist_eq {n : Nat} {s : State} {x : Session} {c : Context} (hx : s.ses n = some x)
    (hc : s.ctx x.subscriber = some c) :
    unlist n s = s.setCtx x.subscriber { c with sessions := c.sessions.filter (· ≠ n) } := by
  simp only [unlist, hx, modCtx_eq hc, filter_bne_eq]

/-- R13, R50 step 4: what uncounting a session takes from its partner and from the partner's plan. -/
theorem uncount_use {n : Nat} {s : State} {x : Session} {c : Context} {p : Partner} (ho : Owned s n x c p) :
    (uncount n s).par c.partner = some { p with sessions := p.sessions - if x.cls ≠ .emergency then 1 else 0 }
      ∧ (∀ m, m ≠ c.partner → (uncount n s).par m = s.par m)
      ∧ (∀ q : PlanId, (uncount n s).tariff.planUse[q] =
          s.tariff.planUse[q] - if x.cls ≠ .emergency ∧ q = p.plan then 1 else 0)
      ∧ (uncount n s).tariff = { s.tariff with
          partners := (uncount n s).tariff.partners, planUse := (uncount n s).tariff.planUse } := by
  have counted : (loseCount x s).tariff = s.tariff := by rw [loseCount_frame]
  have context : (loseCount x s).ctx x.subscriber = some c := by
    rw [loseCount_frame]; exact ho.context
  have partner : (loseCount x s).par c.partner = some p := by
    rw [loseCount_frame]; exact ho.partner
  have par (m : Nat) : (loseCount x s).par m = s.par m := by rw [loseCount_frame]; rfl
  by_cases hx : x.cls = .emergency
  · have free : uncount n s = loseCount x s := by simp [uncount, ho.session, Session.nonEmergency, hx]
    rw [free]
    refine ⟨by simpa [hx] using partner, fun m _ => par m, fun q => by simp [hx, counted], by rw [counted]⟩
  · have charged : uncount n s =
        ((loseCount x s).setPar c.partner { p with sessions := p.sessions - 1 }).modPlanUse p.plan (· - 1) := by
      simp only [uncount, ho.session, (nonEmergency_iff x).2 hx, if_true, loseUse, partnerEntry_eq context partner]
    rw [charged]
    refine ⟨?_, fun m hm => ?_, fun q => ?_, ?_⟩
    · rw [if_pos hx]
      exact State.par_setPar ..
    · exact (State.par_setPar_other _ _ hm).trans (par m)
    · have before : ((loseCount x s).setPar c.partner { p with sessions := p.sessions - 1 }).tariff.planUse =
          s.tariff.planUse := by rw [State.setPar, counted]
      rw [modPlanUse_planUse, before]
      by_cases hq : q = p.plan <;> simp [hq, hx]
    · rw [State.modPlanUse, State.setPar, counted]

end Sys2Proof.Machine
end

section
/-! Chapter 3: SESSION_CLOSE of a session of the current epoch, from its withdrawal to its free record (R50, R51). -/

namespace Sys2Proof.Machine

/-- R50 steps 1 and 2: the session withdrawn is taken off the list of its context. -/
theorem unlist_withdraw_eq {n : Nat} {s : State} {x : Session} {c : Context} (hx : s.ses n = some x)
    (hc : s.ctx x.subscriber = some c) :
    unlist n (withdraw n s) =
      (withdraw n s).setCtx x.subscriber { c with sessions := c.sessions.filter (· ≠ n) } := by
  have withdrawn := withdraw_withdrawn hx
  obtain ⟨b, own, -, -⟩ := withdrawn.own
  have context : (withdraw n s).ctx x.subscriber = some c := by rw [withdrawn.frame]; exact hc
  exact unlist_eq (x := { x with binding := b }) own context

/-- R50 steps 1 to 3: the session is counted where it was, is listed no more, and its final bill has been charged. -/
theorem closeRated_billed {n : Nat} {s : State} {x : Session} {c : Context} {p : Partner} (ho : Owned s n x c p)
    (hp : s.inPrevious x = false) :
    ∃ b r, b.countedOn = x.binding.countedOn ∧
      Billed n { x with binding := b } { c with sessions := c.sessions.filter (· ≠ n) } p s.effectiveClass
        (s.finalBill x p).amount (s.finalBill x p).blocks r (unlist n (withdraw n s)) (closeRated n s) := by
  have withdrawn := withdraw_withdrawn ho.session
  obtain ⟨b, own, -, counted⟩ := withdrawn.own
  have unlisted := unlist_withdraw_eq ho.session ho.context
  have owned : Owned (unlist n (withdraw n s)) n { x with binding := b }
      { c with sessions := c.sessions.filter (· ≠ n) } p := by
    rw [unlisted]
    refine ⟨own, State.ctx_setCtx .., ?_⟩
    rw [withdrawn.frame]
    exact ho.partner
  have zone : (unlist n (withdraw n s)).zone = s.zone := by rw [unlisted, withdrawn.frame]; rfl
  have tariff : (unlist n (withdraw n s)).tariff = s.tariff := by rw [unlisted, withdrawn.frame]; rfl
  have surcharge (l : LinkId) : ((unlist n (withdraw n s)).link l).surcharge = (s.link l).surcharge := by
    rw [unlisted, State.link_setCtx, withdrawn.link]
  have current : (unlist n (withdraw n s)).inPrevious { x with binding := b } = false := by
    simpa only [State.inPrevious, tariff] using hp
  have cls : (unlist n (withdraw n s)).effectiveClass = s.effectiveClass := by
    simp only [State.effectiveClass, State.zoneAt, zone]
  obtain ⟨r, bill⟩ := finalRating_billed owned current
  rw [finalBill_congr x p zone (by rw [tariff]) surcharge counted, cls] at bill
  exact ⟨b, r, counted, bill⟩

/-- R50: SESSION_CLOSE sends no SESSION_CLOSED notice; the record is freed once the session is uncounted. -/
theorem closeSession_radio (n : Nat) (s : State) :
    closeSession n .radio s = (uncount n (closeRated n s)).freeSession n := by
  have quiet (t : State) : notifyClose n .radio t = t := by
    unfold notifyClose
    split <;> rfl
  rw [closeSession, quiet]

/-- R50 steps 4 and 6: a session of the charged state leaves its counts, and its record is free. -/
structure Freed (n : Nat) (x : Session) (c : Context) (p : Partner) (s t : State) : Prop where
  ses : ∀ m, t.ses m = if m = n then none else s.ses m
  ctx : ∀ m, t.ctx m = s.ctx m
  partner : t.par c.partner = some { p with sessions := p.sessions - if x.cls ≠ .emergency then 1 else 0 }
  partners : ∀ m, m ≠ c.partner → t.par m = s.par m
  planUse : ∀ q : PlanId, t.tariff.planUse[q] =
    s.tariff.planUse[q] - if x.cls ≠ .emergency ∧ q = p.plan then 1 else 0
  link : ∀ l, t.link l = { s.link l with
    bound := (s.link l).bound - weigh (boundOn l) (some x.seat)
    emergency := (s.link l).emergency - weigh (emergencyOn l) (some x.seat) }
  stranded : t.sess.stranded = s.sess.stranded - weigh strandedSeat (some x.seat)
  mig : t.mig = s.mig
  writes : CloseWrites s t

theorem freeSession_freed {n : Nat} {s : State} {x : Session} {c : Context} {p : Partner} (ho : Owned s n x c p) :
    Freed n x c p s ((uncount n s).freeSession n) := by
  obtain ⟨partner, partners, planUse, tariff⟩ := uncount_use ho
  have counted := uncount_eq ho.session
  have lost := loseCount_frame x s
  have sess : (uncount n s).sess = { s.sess with stranded := (loseCount x s).sess.stranded } := by
    rw [counted, lost]
  refine ⟨fun m => ?_, fun m => ?_, partner, partners, planUse, fun l => ?_, ?_, ?_, ?_⟩
  · simp only [State.ses, State.freeSession, sess, Table.get_erase]
  · rw [State.freeSession, counted, lost]; rfl
  · rw [← loseCount_link, State.freeSession, counted]; rfl
  · rw [← loseCount_stranded, State.freeSession, counted]
  · rw [State.freeSession, counted, lost]
  · rw [State.freeSession, counted, lost, tariff]
    exact closeWrites_of_eq rfl

/-- R50: a close writes the sessions, contexts, links, partners, plan use counts and the batch, and nothing else. -/
theorem closeRated_writes {n : Nat} {s : State} {x : Session} (hx : s.ses n = some x) :
    CloseWrites s (closeRated n s) :=
  (closeWrites_of_eq (withdraw_withdrawn hx).frame).trans ((rates_unlist n _).trans (rates_finalRating n _)).writes

/-- R50, R51, R73: `t` is `s` after a SESSION_CLOSE of the session `x` open at `n`, whose context is `c` under partner
`p`, that charged `k`; the context has become `d`. -/
structure Closed (n : Nat) (x : Session) (c d : Context) (p : Partner) (k : Nat) (s t : State) : Prop where
  own : t.ses n = none
  other : ∀ m y, m ≠ n → s.ses m = some y →
    ∃ v, t.ses m = some { y with service := v } ∧ (m ∉ c.sessions → v = y.service)
  free : ∀ m, m ≠ n → s.ses m = none → t.ses m = none
  context : t.ctx x.subscriber = some d
  applied : d = { c with
    sessions := c.sessions.filter (· ≠ n), folio := c.folio + k, sub := c.sub.add s.effectiveClass k
    consumed := c.consumed + k, credit := d.credit, ask := d.ask, lastAsk := d.lastAsk }
  contexts : ∀ m, m ≠ x.subscriber → t.ctx m = s.ctx m
  partner : t.par c.partner = some { p with
    openTotal := p.openTotal + k, sessions := p.sessions - if x.cls ≠ .emergency then 1 else 0 }
  partners : ∀ m, m ≠ c.partner → t.par m = s.par m
  planUse : ∀ q : PlanId, t.tariff.planUse[q] =
    s.tariff.planUse[q] - if x.cls ≠ .emergency ∧ q = p.plan then 1 else 0
  link : ∀ l, t.link l = { s.link l with
    bound := (s.link l).bound - if x.cls ≠ .emergency ∧ x.binding.countedOn = some l then 1 else 0
    emergency := (s.link l).emergency - if x.cls = .emergency ∧ x.binding.countedOn = some l then 1 else 0
    reserved := (s.link l).reserved - if x.cls ≠ .emergency ∧ x.binding.movingTo l = true then 1 else 0 }
  stranded : t.sess.stranded = s.sess.stranded - if x.binding.countedOn = none then 1 else 0
  mig : t.mig = (withdraw n s).mig
  writes : CloseWrites s t

/-- R50, R51: what SESSION_CLOSE leaves, and the record it answers from. -/
theorem closeSession_closed {n k : Nat} {s : State} {x : Session} {c : Context} {p : Partner} (ho : Owned s n x c p)
    (hp : s.inPrevious x = false) (hk : headroomOf c (s.finalBill x p).amount = k) :
    (∃ y, (closeRated n s).ses n = some y ∧ y.charge = x.charge + k ∧ y.blocks = (s.finalBill x p).blocks)
      ∧ ∃ d, Closed n x c d p k s (closeSession n .radio s) := by
  have withdrawn := withdraw_withdrawn ho.session
  have unlisted := unlist_withdraw_eq ho.session ho.context
  have rates : Rates (withdraw n s) (closeRated n s) := (rates_unlist n _).trans (rates_finalRating n _)
  obtain ⟨b, r, counted, bill⟩ := closeRated_billed ho hp
  have head : headroomOf { c with sessions := c.sessions.filter (· ≠ n) } (s.finalBill x p).amount = k := hk
  generalize (s.finalBill x p).amount = amount, (s.finalBill x p).blocks = blocks at *
  obtain ⟨y, hy, same⟩ := bill.own
  obtain ⟨d, hd, applied⟩ := bill.context
  have partner := bill.partner
  rw [head] at same applied partner
  have subscriber : y.subscriber = x.subscriber := by rw [same]
  have cls : y.cls = x.cls := by rw [same]
  have binding : y.binding.countedOn = x.binding.countedOn := by rw [same]; exact counted
  have under : d.partner = c.partner := by rw [applied]; rfl
  have freed := freeSession_freed (n := n) (s := closeRated n s) ⟨hy, subscriber ▸ hd, under ▸ partner⟩
  rw [← closeSession_radio] at freed
  have ses (m : Nat) (hm : m ≠ n) : (unlist n (withdraw n s)).ses m = s.ses m := by
    rw [unlisted]; exact withdrawn.other m hm
  have tariff : (unlist n (withdraw n s)).tariff = s.tariff := by rw [unlisted, withdrawn.frame]; rfl
  refine ⟨⟨y, hy, by rw [same], by rw [same]⟩, d, ?_⟩
  refine ⟨(freed.ses n).trans (if_pos rfl), fun m w hm hw => ?_, fun m hm hw => ?_, (freed.ctx _).trans hd, applied,
    fun m hm => ?_, ?_, fun m hm => ?_, fun q => ?_, fun l => ?_, ?_, ?_,
    (closeRated_writes ho.session).trans freed.writes⟩
  · obtain ⟨v, hv, kept⟩ := bill.other m w hm ((ses m hm).trans hw)
    exact ⟨v, (freed.ses m).trans ((if_neg hm).trans hv),
      fun out => kept fun listed => out (List.mem_of_mem_filter listed)⟩
  · exact (freed.ses m).trans ((if_neg hm).trans (bill.free m hm ((ses m hm).trans hw)))
  · refine (freed.ctx m).trans ((bill.contexts m hm).trans ?_)
    rw [unlisted, State.ctx_setCtx_other _ _ hm, withdrawn.frame]
    rfl
  · have left := freed.partner
    rwa [cls, under] at left
  · refine (freed.partners m (under ▸ hm)).trans ((bill.partners m hm).trans ?_)
    rw [State.par, tariff, State.par]
  · have same : (closeRated n s).tariff.planUse = s.tariff.planUse := by rw [rates.frame, withdrawn.frame]
    rw [freed.planUse, cls, same]
  · rw [freed.link, rates.link, withdrawn.link, weigh_boundOn, weigh_emergencyOn, weigh_reservedOn, cls, binding]
  · have same : (closeRated n s).sess.stranded = s.sess.stranded := by rw [rates.frame, withdrawn.stranded]
    rw [freed.stranded, weigh_strandedSeat, binding, same]
  · exact freed.mig.trans rates.mig

/-- R51: the answer to SESSION_CLOSE of an open session of the subscriber named. -/
theorem sessionCloseAnswer_eq {n k : Nat} (who : Sender) {s : State} {x y : Session} {c d : Context} {p : Partner}
    (hn : n ≤ 8191) (hx : s.ses n = some x) (hy : (closeRated n s).ses n = some y) (charge : y.charge = x.charge + k)
    (closed : Closed n x c d p k s (closeSession n .radio s)) :
    sessionCloseAnswer n x.subscriber who s =
      ⟨.ok, [.u16 n, .u8 x.cls.code, .u64 (x.charge + k), .u32 y.blocks, .u64 (c.folio + k)],
        closeSession n .radio s⟩ := by
  have found : (s.openAt n).filter (fun y => y.subscriber == x.subscriber) = some x := by simp [openAt_eq hn, hx]
  have folio : (closeSession n .radio s).folioOf x.subscriber = c.folio + k := by
    rw [State.folioOf, closed.context, closed.applied]
    rfl
  simp only [sessionCloseAnswer, found, hy, Option.getD_some, charge, folio]

/-- Settles O40: each clause is read off the rule of the step of R50 that decides it. -/
theorem sessionCloseFinalRating : Obligations.SessionCloseFinalRating := by
  intro h n x c p s hr hh hn hx hcur hc hp _ charged z cell rate rounds x1 k1 c1 b1 short x2 k2 c2 k3 k lost
  have bill : (s.finalBill x p).blocks = b1 + short := rfl
  have head : headroomOf c (s.finalBill x p).amount = k := rfl
  clear_value k
  obtain ⟨⟨y, hy, charge, blocks⟩, d, closed⟩ := closeSession_closed ⟨hx, hc, hp⟩ hcur head
  have answer := sessionCloseAnswer_eq ⟨h.client, .radio⟩ hn hx hy charge closed
  rw [blocks, bill] at answer
  have withdrawn := withdraw_withdrawn hx
  generalize closeSession n .radio s = u at closed answer
  refine ⟨{ u with raised := [] }, d, _, _, request_raises (t := { u with raised := [] }) (ns := u.raised) hr hh rfl
    answer rfl ?_ ?_, closed.own, fun m w hm hw => ?_, closed.free, closed.context, closed.applied, closed.contexts,
    closed.partner, closed.partners, closed.planUse, closed.link, closed.stranded, ?_, fun still => ?_,
    fun batch moving hb => ?_, ?_⟩
  · rw [closed.writes]; exact hr.2
  · rw [closed.writes]
  · obtain ⟨v, hv, kept⟩ := closed.other m w hm hw
    exact ⟨_, hv, rfl, fun out => by rw [kept out]⟩
  · exact (congrArg Migration.queue closed.mig).trans withdrawn.queue
  · exact closed.mig.trans (withdrawn.still still)
  · exact (congrArg Migration.batch closed.mig).trans (withdrawn.batch batch moving hb)
  · rw [show u = _ from closed.writes, ← hr.1]

end Sys2Proof.Machine
end

section
/-! Chapter 4: a visit of the cut pass (R79, R81), and the previous values it cuts at (R16, R70, R71). -/

namespace Sys2Proof.Machine

/-! ### The visit (R79, R81) -/

/-- R79, R81: the state after the cut pass's visit to `n` has cut what it cuts: the pass goes on, or ends; `due` says
whether the stale instant has passed. -/
def State.visited (s : State) (n : Nat) (due : Bool) : State :=
  if n < 8191 then { s with cutPos := some (n + 1) }
  else { s with
    cutPos := none
    tariff := { s.tariff with revisions := [], previous := none }
    zone := { s.zone with releaseDue := true, expiryHeld := due } }

theorem State.visited_raised (s : State) (n : Nat) (due : Bool) : (s.visited n due).raised = s.raised := by
  unfold State.visited; split <;> rfl

theorem State.visited_port (s : State) (n : Nat) (due : Bool) : (s.visited n due).port = s.port := by
  unfold State.visited; split <;> rfl

theorem State.visited_raise (s : State) (n : Nat) (due : Bool) (ns : List Notice) :
    ({ s with raised := ns } : State).visited n due = { s.visited n due with raised := ns } := by
  unfold State.visited; split <;> rfl

/-- R79, R81: a visit makes the epoch cut of its handle and moves on. -/
theorem cutVisitEffect_eq {s : State} {n : Nat} (hc : s.cutPos = some n) :
    cutVisitEffect s = (epochCutOf n s).visited n s.staleDue := by
  have due : (epochCutOf n s).staleDue = s.staleDue := by rw [(rates_epochCutOf n s).frame]; rfl
  simp only [cutVisitEffect, hc, State.visited, sessionCount, endCutPass, due]
  by_cases hn : n < 8191
  · rw [if_pos (by omega), if_pos hn]
  · rw [if_neg (by omega), if_neg hn]
    rfl

theorem exec_cutPassVisit {s : State} {n : Nat} (hc : s.cutPos = some n) :
    exec .cutPassVisit s = .next ((epochCutOf n s).visited n s.staleDue).flush :=
  congrArg (fun t => Host.Outcome.next (State.flush t)) (cutVisitEffect_eq hc)

/-- R79: a visit that raises no notice. -/
theorem exec_cutPassVisit_quiet {s t : State} {n : Nat} (hc : s.cutPos = some n) (cut : epochCutOf n s = t)
    (hq : t.raised = []) : exec .cutPassVisit s = .next (t.visited n s.staleDue) := by
  rw [exec_cutPassVisit hc, cut, flush_quiet ((t.visited_raised ..).trans hq)]

/-- R79: a visit that raises the notices `ns` on a state `t`. -/
theorem exec_cutPassVisit_raises {s t : State} {n : Nat} {ns : List Notice} (hr : s.ready) (hc : s.cutPos = some n)
    (cut : epochCutOf n s = { t with raised := ns }) (hq : t.raised = s.raised) (hp : t.port = s.port) :
    exec .cutPassVisit s = noticed (t.visited n s.staleDue) ns := by
  rw [exec_cutPassVisit hc, cut, State.visited_raise]
  refine flush_raised ?_ ?_
  · rw [State.visited_raised, hq, hr.1]
  · rw [State.visited_port, hp, hr.2]

/-! ### The previous values (R16, R71) -/

/-- R71: a session of the previous epoch is cut at the previous values. -/
theorem epochCutOf_previous {s : State} {n : Nat} {x : Session} {prev : Previous} {c : Context} {p : Partner}
    (ho : Owned s n x c p) (hprev : s.tariff.previous = some prev) (he : x.epoch = prev.epoch) :
    epochCutOf n s = cutAt n (s.previousPrice x c.partner p prev) s := by
  simp only [epochCutOf, ho.session, hprev, he, if_true, partnerEntry_eq ho.context ho.partner]

/-- R14: in a revision list whose targets differ, an entry is the only one of its target. -/
theorem eq_of_same_target {rs : List Revision} {q r : Revision} (hd : (rs.map Revision.target).Nodup) (hq : q ∈ rs)
    (hr : r ∈ rs) (ht : q.target = r.target) : q = r := List.inj_on_of_nodup_map hd hq hr ht

/-- The first hit of a search that every hit answers alike. -/
theorem findSome?_eq_some_of_unique {α β : Type} {f : α → Option β} {l : List α} {a : α} {b : β} (ha : a ∈ l)
    (hb : f a = some b) (unique : ∀ a' ∈ l, ∀ b', f a' = some b' → b' = b) : l.findSome? f = some b := by
  cases hf : l.findSome? f with
  | none => rw [List.findSome?_eq_none_iff.1 hf a ha] at hb; cases hb
  | some b' =>
    obtain ⟨a', ha', hb'⟩ := List.exists_of_findSome?_eq_some hf
    rw [unique a' ha' b' hb']

/-- R16: the old plan and adjustment of the partner's applied entry, found whatever its place. -/
theorem oldTerms_eq_some {rs : List Revision} {i : Nat} {plan : PlanId} {a : Int} {old : PlanId × Int}
    (hd : (rs.map Revision.target).Nodup) (hr : .partner i plan a (some old) ∈ rs) : oldTerms rs i = some old := by
  refine findSome?_eq_some_of_unique hr (if_pos rfl) fun r hr' b hb => ?_
  cases r with
  | cell j v o => cases hb
  | partner j q a' o =>
    obtain ⟨rfl, rfl⟩ : j = i ∧ o = some b := by simpa using hb
    obtain ⟨-, -, -, same⟩ := Revision.partner.inj (eq_of_same_target hd hr hr' rfl)
    exact (Option.some.inj same).symm

theorem oldTerms_eq_none {rs : List Revision} {i : Nat} (hn : ∀ q a o, Revision.partner i q a o ∉ rs) :
    oldTerms rs i = none :=
  List.findSome?_eq_none_iff.2 fun r hr => by
    cases r with
    | cell j v o => rfl
    | partner j q a o => exact if_neg fun e : j = i => hn q a o (e ▸ hr)

/-- R16: the old values of the cell's applied entry, found whatever its place. -/
theorem oldCell_eq_some {rs : List Revision} {i : Nat} {new old : Cell} (hd : (rs.map Revision.target).Nodup)
    (hr : .cell i new (some old) ∈ rs) : oldCell rs i = some old := by
  refine findSome?_eq_some_of_unique hr (if_pos rfl) fun r hr' b hb => ?_
  cases r with
  | partner j q a' o => cases hb
  | cell j v o =>
    obtain ⟨rfl, rfl⟩ : j = i ∧ o = some b := by simpa using hb
    obtain ⟨-, -, same⟩ := Revision.cell.inj (eq_of_same_target hd hr hr' rfl)
    exact (Option.some.inj same).symm

theorem oldCell_eq_none {rs : List Revision} {i : Nat} (hn : ∀ v o, Revision.cell i v o ∉ rs) :
    oldCell rs i = none :=
  List.findSome?_eq_none_iff.2 fun r hr => by
    cases r with
    | partner j q a o => rfl
    | cell j v o => exact if_neg fun e : j = i => hn v o (e ▸ hr)

/-- R67: the factor, as the manual words it. -/
theorem factorOf_surcharge (s : State) (cls : TrafficClass) (b : Binding) (adjustment : Int) :
    factorOf cls (s.surchargeOf b) adjustment = s.factor cls b adjustment := by
  rw [factorOf_eq]
  unfold State.surchargeOf State.factor
  cases b.countedOn <;> rfl

/-- R16, R71: the previous values that price a session: of its partner, and of the cell under the plan found so. -/
theorem previousPrice_eq {s : State} {x : Session} {i : Nat} {p : Partner} {prev : Previous} {plan : PlanId}
    {adjustment : Int} {cell : Cell} (hx : x.cls ≠ .emergency) (hd : (s.tariff.revisions.map Revision.target).Nodup)
    (terms : (∃ q a, Revision.partner i q a (some (plan, adjustment)) ∈ s.tariff.revisions)
      ∨ ((∀ q a o, Revision.partner i q a o ∉ s.tariff.revisions)
        ∧ plan = p.plan ∧ adjustment = p.adjustment))
    (values : (∃ v, Revision.cell (plan.val * 12 + prev.zoneClass.code * 3 + x.cls.code) v (some cell)
        ∈ s.tariff.revisions)
      ∨ ((∀ v o, Revision.cell (plan.val * 12 + prev.zoneClass.code * 3 + x.cls.code) v o ∉ s.tariff.revisions)
        ∧ cell = s.cellValues plan prev.zoneClass x.cls)) :
    s.previousPrice x i p prev = ⟨cell, s.factor x.cls x.binding adjustment, prev.zoneClass⟩ := by
  have under : (oldTerms s.tariff.revisions i).getD (p.plan, p.adjustment) = (plan, adjustment) := by
    rcases terms with ⟨q, a, entry⟩ | ⟨absent, rfl, rfl⟩
    · rw [oldTerms_eq_some hd entry]; rfl
    · rw [oldTerms_eq_none absent]; rfl
  have read : (oldCell s.tariff.revisions (cellIndex plan prev.zoneClass x.cls.code)).getD
      (s.liveCell x.cls (cellIndex plan prev.zoneClass x.cls.code)) = cell := by
    rcases values with ⟨v, entry⟩ | ⟨absent, rfl⟩
    · rw [cellIndex, oldCell_eq_some hd entry]; rfl
    · rw [cellIndex, oldCell_eq_none absent]; rfl
  simp only [State.previousPrice, under, classColumn_eq hx, read, factorOf_surcharge]

/-- R70: what leaves a cut nothing to charge. -/
theorem hasResidue_eq_false {x : Session} (hx : x.residue = 0 ∨ x.cls = .message ∨ x.cls = .emergency) :
    x.hasResidue = false := by
  rw [← Bool.not_eq_true, hasResidue_iff]
  rintro ⟨emergency, message, residue⟩
  rcases hx with h | h | h
  · exact residue.ne' h
  · exact message h
  · exact emergency h

/-- Settles O35: the visit is the epoch cut of its handle, which passes over, is free of charge, or charges. -/
theorem cutPassVisitCuts : Obligations.CutPassVisitCuts := by
  intro n s hr hc _ advanced
  refine ⟨fun passed => ?_, fun x prev c p hx hprev he hctx hp => ?_⟩
  · refine exec_cutPassVisit_quiet hc ?_ hr.1
    rcases passed with free | ⟨x, hx, current⟩
    · simp only [epochCutOf, free]
    · exact epochCutOf_current hx current
  · have cut := epochCutOf_previous ⟨hx, hctx, hp⟩ hprev he
    refine ⟨fun nothing => ?_, ?_⟩
    · exact exec_cutPassVisit_quiet hc (cut.trans (cutAt_no_residue _ hx (hasResidue_eq_false nothing))) hr.1
    · intro residue cls plan adjustment cell terms hd i values thousandths
      have charged : x.cls ≠ .emergency := by rcases cls with h | h <;> simp [h]
      have price := previousPrice_eq charged hd terms values
      have rated : x.hasResidue = true :=
        (hasResidue_iff x).2 ⟨charged, by rcases cls with h | h <;> simp [h], residue⟩
      obtain ⟨t, blocked, asked, charges, eq⟩ := cutAt_charges (s.previousPrice x c.partner p prev) hx rated hctx hp
      rw [price] at charges
      obtain ⟨frame, -⟩ := charges c p hctx hp
      rw [← cut, hr.1, List.nil_append] at eq
      exact ⟨t, blocked, asked, exec_cutPassVisit_raises hr hc eq (by rw [frame]) (by rw [frame]), charges⟩

end Sys2Proof.Machine
end

section
/-! Chapter 4: a USAGE request, entry by entry, and what the entry of a session of the current epoch does (R60 to R69,
R75, R76). -/

namespace Sys2Proof.Machine

/-! ### The request (R60) -/

theorem exec_usage (h : Header) (count : Nat) (es : List UsageEntry) (s : State) :
    exec (.usage h count es) s = .next (request h .usage (usageAnswer h count es) s) := rfl

/-- R60: a request whose length fits its count has its entries resolved. -/
theorem usageAnswer_resolves {h : Header} {count : Nat} (es : List UsageEntry) (who : Sender) (s : State)
    (h0 : 0 < count) (h32 : count ≤ 32) (hl : h.length = 2 + 12 * count) :
    usageAnswer h count es who s =
      ⟨.ok, [.u16 count] ++ (resolveEntries es s).2.flatMap fOutcome, (resolveEntries es s).1⟩ := by
  simp only [usageAnswer, usageMax]
  rw [if_neg (by omega), if_neg (by omega), if_neg (by omega)]

/-- R60: a request of one entry. -/
theorem usageAnswer_single {h : Header} (e : UsageEntry) (who : Sender) (s : State) (hl : h.length = 14) :
    usageAnswer h 1 [e] who s =
      ⟨.ok, .u16 1 :: fOutcome (resolveEntry e s).2, (resolveEntry e s).1⟩ := by
  rw [usageAnswer_resolves [e] who s (by omega) (by omega) hl]
  simp [resolveEntries]

/-- R61 step 1: an entry that finds no open session. -/
theorem resolveEntry_noSession {e : UsageEntry} {s : State} (hn : 8191 < e.session ∨ s.ses e.session = none) :
    resolveEntry e s = (s, .noSession, 0) := by
  simp only [resolveEntry, entrySession, openAt_eq_none hn]

/-- R61: an entry for an open session is rated after its epoch cut. -/
theorem resolveEntry_open {e : UsageEntry} {s : State} {x : Session} (hn : e.session ≤ 8191)
    (hx : (epochCutOf e.session s).ses e.session = some x) (ho : s.ses e.session ≠ none) :
    resolveEntry e s =
      let t := rateEntry e x (epochCutOf e.session s)
      (t, outcomeOf x e, t.folioOf x.subscriber - s.folioOf x.subscriber) := by
  obtain ⟨y, hy⟩ := Option.ne_none_iff_exists'.1 ho
  simp only [resolveEntry, entrySession, openAt_eq hn, hy, hx, Option.map_some]

/-- R61: an entry for a session of the current epoch. -/
theorem resolveEntry_current {e : UsageEntry} {s : State} {x : Session} (hn : e.session ≤ 8191)
    (hx : s.ses e.session = some x) (hp : s.inPrevious x = false) :
    resolveEntry e s =
      (rateEntry e x s, outcomeOf x e, (rateEntry e x s).folioOf x.subscriber - s.folioOf x.subscriber) := by
  have cut := epochCutOf_current hx hp
  rw [resolveEntry_open (x := x) hn (by rw [cut, hx]) (by simp [hx]), cut]

/-! ### Units, bytes and outcome (R62 to R65) -/

theorem unitsOf_charged {cls : TrafficClass} (hc : cls ≠ .emergency) (e : UsageEntry) :
    unitsOf cls e = min (if cls = .data then e.a + e.b else e.a)
      (if cls = .data then 1073741824 else if cls = .voice then 86400 else 65535) := by
  cases cls with
  | emergency => exact absurd rfl hc
  | voice => rfl
  | data => rfl
  | message => rfl

theorem isClamped_charged {cls : TrafficClass} (hc : cls ≠ .emergency) (e : UsageEntry) :
    isClamped cls e = true ↔ (if cls = .data then 1073741824 else if cls = .voice then 86400 else 65535) <
      if cls = .data then e.a + e.b else e.a := by
  cases cls with
  | emergency => exact absurd rfl hc
  | voice => exact decide_eq_true_iff
  | data => exact decide_eq_true_iff
  | message => exact decide_eq_true_iff

/-- R64: the bytes of a DATA or EMERGENCY session are counted on the link it is counted on, if any. -/
theorem countBytes_eq {x : Session} (u : Nat) (s : State) :
    countBytes x u s = match x.binding.countedOn with
      | some l => if x.cls = .data ∨ x.cls = .emergency then
          s.modLink l fun v => { v with accumulator := min (v.accumulator + u) 18446744073709551615 } else s
      | none => s := by
  unfold countBytes
  by_cases hb : x.cls = .data ∨ x.cls = .emergency
  · rw [if_pos hb]
    cases x.binding.countedOn with
    | none => rfl
    | some l => exact (if_pos hb).symm
  · rw [if_neg hb]
    cases x.binding.countedOn with
    | none => rfl
    | some l => exact (if_neg hb).symm

/-- R64: counting bytes writes the links and nothing else. -/
theorem countBytes_frame (x : Session) (u : Nat) (s : State) :
    countBytes x u s = { s with links := (countBytes x u s).links } := by
  unfold countBytes
  split
  · split <;> rfl
  · rfl

/-- R64, R67: counting bytes leaves every surcharge. -/
theorem countBytes_surcharge (x : Session) (u : Nat) (s : State) (l : LinkId) :
    ((countBytes x u s).link l).surcharge = (s.link l).surcharge := by
  unfold countBytes
  split
  · split
    · rfl
    · rw [State.link_modLink_eq]; split <;> rfl
  · rfl

/-- R63: the outcome byte of an entry for a VOICE, DATA or MESSAGE session. -/
theorem outcomeOf_code {x : Session} (hx : x.cls ≠ .emergency) (e : UsageEntry) :
    (outcomeOf x e).code = if x.service = .blocked then 2 else if isClamped x.cls e = true then 1 else 0 := by
  simp only [outcomeOf, hx, if_false]
  split
  · rfl
  · split <;> rfl

/-! ### Rating (R66 to R69, R75, R76) -/

/-- R68, R69: the blocks, or messages, that units complete. -/
def Session.blocksOf (x : Session) (u : Nat) (q : Price) : Nat :=
  if x.cls = .message then u else (x.residue + u) / q.cell.blockSize

/-- R68, R69: what the blocks come to, with the carry. -/
def Session.thousandthsOf (x : Session) (u : Nat) (q : Price) : Nat :=
  blockThousandths (x.blocksOf u q) q.cell.price q.factor x.carry

/-- R68, R69: the record that is charged for units. -/
def Session.using (x : Session) (u : Nat) (q : Price) : Session :=
  { x with
    residue := if x.cls = .message then x.residue else x.residue + u - x.blocksOf u q * q.cell.blockSize
    carry := x.thousandthsOf u q % 1000
    blocks := saturate blocksMax (x.blocks + x.blocksOf u q) }

/-- R68, R69: units of a VOICE, DATA or MESSAGE session are charged by the block, or by the message. -/
theorem rateUnits_charged {n u : Nat} {s : State} {x : Session} (q : Price) (hx : s.ses n = some x)
    (hc : x.cls ≠ .emergency) :
    rateUnits n u q s = charge n q.zoneClass (x.thousandthsOf u q / 1000) (s.setSes n (x.using u q)) := by
  have written (t : Nat) (y : Session) : (s.setSes n y).modSes n (fun y => { y with carry := t }) =
      s.setSes n { y with carry := t } := by simp [State.modSes]
  unfold Session.using Session.thousandthsOf Session.blocksOf
  cases hcls : x.cls with
  | emergency => exact absurd hcls hc
  | voice => simp only [rateUnits, hx, hcls, chargeThousandths, written]; rfl
  | data => simp only [rateUnits, hx, hcls, chargeThousandths, written]; rfl
  | message => simp only [rateUnits, hx, hcls, chargeThousandths, written]; rfl

/-- R66, R67: what a price is read from. -/
theorem currentPrice_congr {s t : State} {x y : Session} (p : Partner) (hz : t.effectiveClass = s.effectiveClass)
    (hc : t.tariff.cells = s.tariff.cells) (hs : ∀ l, (t.link l).surcharge = (s.link l).surcharge)
    (cls : y.cls = x.cls) (binding : y.binding.countedOn = x.binding.countedOn) :
    t.currentPrice y p = s.currentPrice x p := by
  simp only [State.currentPrice, State.cellFor, State.liveCell, State.surchargeOf, hz, hc, hs, cls, binding]

/-- R61 steps 3 to 6: bytes are counted, the record is stamped, and the units are rated at the values in force. -/
theorem rateEntry_eq {e : UsageEntry} {x : Session} {p : Partner} {s : State} (hp : s.partnerOf x = some p) :
    rateEntry e x s = rateUnits e.session (unitsOf x.cls e) (s.currentPrice x p)
      ((countBytes x (unitsOf x.cls e) s).setSes e.session (x.stamp e s.time.clock)) := by
  have frame := countBytes_frame x (unitsOf x.cls e) s
  have surcharge := countBytes_surcharge x (unitsOf x.cls e) s
  simp only [rateEntry]
  generalize countBytes x (unitsOf x.cls e) s = t at frame surcharge ⊢
  have partner : (t.setSes e.session (x.stamp e s.now)).partnerOf x = some p := by rw [frame]; exact hp
  have price : (t.setSes e.session (x.stamp e s.now)).currentPrice x p = s.currentPrice x p :=
    currentPrice_congr p (by rw [frame]; rfl) (by rw [frame]; rfl) surcharge rfl rfl
  rw [partner, ← price]
  rfl

/-- R61 steps 3 to 6 for a VOICE, DATA or MESSAGE session. -/
theorem rateEntry_charges {e : UsageEntry} {s : State} {x : Session} {c : Context} {p : Partner}
    (ho : Owned s e.session x c p) (hx : x.cls ≠ .emergency) :
    let q := s.currentPrice x p
    let u := unitsOf x.cls e
    ∃ t blocked asked,
      Charges e.session ((x.stamp e s.time.clock).using u q) s.effectiveClass (x.thousandthsOf u q / 1000)
          (countBytes x u s) t blocked asked
        ∧ rateEntry e x s = { t with raised := s.raised ++ blocked ++ asked } := by
  intro q u
  have frame := countBytes_frame x u s
  have rated : rateEntry e x s = charge e.session q.zoneClass (x.thousandthsOf u q / 1000)
      ((countBytes x u s).setSes e.session ((x.stamp e s.time.clock).using u q)) := by
    rw [rateEntry_eq (partnerOf_eq ho.context ho.partner),
      rateUnits_charged (x := x.stamp e s.time.clock) q (State.ses_setSes ..) hx, State.setSes_setSes]
    rfl
  have raised : (countBytes x u s).raised = s.raised := by rw [frame]
  rw [rated, ← raised]
  exact charge_charges (x := (x.stamp e s.time.clock).using u q) q.zoneClass _ ((countBytes_ses ..).trans ho.session)
    rfl rfl (by rw [frame]; exact ho.context) (by rw [frame]; exact ho.partner)

/-- R75: what a charge brings the subscriber's folio to. -/
theorem Charges.folioOf {n k : Nat} {x : Session} {z : ZoneClass} {c : Context} {p : Partner} {s t : State}
    {blocked asked : List Notice} (h : Charges n x z k s t blocked asked) (hc : s.ctx x.subscriber = some c)
    (hp : s.par c.partner = some p) : t.folioOf x.subscriber = c.folio + min k (999999999999 - c.folio) := by
  obtain ⟨-, -, ctx, -⟩ := h c p hc hp
  rw [State.folioOf, ctx, if_pos rfl]
  rfl

/-! ### The answer to one entry -/

/-- R60, R178: a request of one entry whose rating charged its session, told to RADIO before the response and to GATEWAY
after it. -/
theorem usage_charges {h : Header} {e : UsageEntry} {n k : Nat} {y : Session} {z : ZoneClass} {o : UsageOutcome}
    {a : Nat} {c : Context} {p : Partner} {s s1 t : State} {blocked asked : List Notice} (hr : s.ready)
    (hh : s.hears h .usage .meter) (hl : h.length = 14)
    (resolved : resolveEntry e s = ({ t with raised := s.raised ++ blocked ++ asked }, o, a))
    (counted : s1 = { s with links := s1.links }) (charges : Charges n y z k s1 t blocked asked)
    (hc : s1.ctx y.subscriber = some c) (hp : s1.par c.partner = some p) :
    exec (.usage h 1 [e]) s =
      answered h .usage .ok [.u16 1, .u8 o.code, .u8 0, .u16 0, .u64 a] s t blocked asked := by
  obtain ⟨frame, -, -, -, toRadio, toGateway⟩ := charges c p hc hp
  rw [hr.1, List.nil_append] at resolved
  have before : (blocked ++ asked).filter (! ·.toGateway) = blocked := by
    rw [toRadio, toGateway]; split <;> split <;> rfl
  have after : (blocked ++ asked).filter (·.toGateway) = asked := by
    rw [toRadio, toGateway]; split <;> split <;> rfl
  have answer := usageAnswer_single e ⟨h.client, .meter⟩ s hl
  rw [resolved] at answer
  have told := request_raises (t := t) hr hh rfl answer (by rw [frame, counted, hr.1]) (by rw [frame, counted, hr.2])
    (by rw [frame, counted])
  rw [before, after] at told
  exact told

/-- Settles O33: the entry is rated as the rules of its units, bytes and blocks say, and answered with what the folio
took. -/
theorem usageRatesEntry : Obligations.UsageRatesEntry := by
  intro h e x c p s hr hh hl hn hx charged current hc hp units most u clamped cell total blocks thousandths k y
    outcome s1
  have price : s.currentPrice x p = ⟨cell, s.factor x.cls x.binding p.adjustment, s.effectiveClass⟩ :=
    currentPrice_eq charged s p
  have formed : unitsOf x.cls e = u := unitsOf_charged charged e
  have clamps : isClamped x.cls e = true ↔ clamped := isClamped_charged charged e
  have record : (x.stamp e s.time.clock).using u (s.currentPrice x p) = y := by
    rw [price]
    simp only [Session.using, Session.stamp, Session.blocksOf, Session.thousandthsOf, clamps]
    rfl
  have amount : x.thousandthsOf u (s.currentPrice x p) / 1000 = k := by rw [price]; rfl
  have counted : countBytes x u s = s1 := by
    rw [countBytes_eq]
    simp only [charged, or_false]
    rfl
  have byte : (outcomeOf x e).code = outcome := by
    rw [outcomeOf_code charged]
    simp only [clamps]
    rfl
  have links : s1 = { s with links := s1.links } := counted ▸ countBytes_frame x u s
  have ho : Owned s e.session x c p := ⟨hx, hc, hp⟩
  obtain ⟨t, blocked, asked, charges, rated⟩ := rateEntry_charges (e := e) ho charged
  rw [formed, record, amount, counted] at charges
  have context : s1.ctx y.subscriber = some c := by rw [links]; exact hc
  have partner : s1.par c.partner = some p := by rw [links]; exact hp
  have folio : (rateEntry e x s).folioOf x.subscriber - s.folioOf x.subscriber = min k (999999999999 - c.folio) := by
    have before : s.folioOf x.subscriber = c.folio := by rw [State.folioOf, hc]; rfl
    have after : (rateEntry e x s).folioOf x.subscriber = t.folioOf y.subscriber := by rw [rated]; rfl
    rw [before, after, charges.folioOf context partner]
    exact Nat.add_sub_cancel_left ..
  have resolved := resolveEntry_current (e := e) hn hx current
  rw [folio, rated] at resolved
  refine ⟨t, blocked, asked, ?_, charges⟩
  rw [← byte]
  exact usage_charges hr hh hl resolved links charges context partner

end Sys2Proof.Machine
end

section
/-! Chapter 4: what rating reads of a state: states that differ in nothing else are rated alike. -/

namespace Sys2Proof.Machine

/-! ### The relation -/

/-- The state without what no charge reads: the port, the notices raised, and what the cut pass has to go by. -/
def State.ledger (s : State) : State :=
  { s with
    port := Port.powerOn 0, cutPos := none, raised := []
    tariff := { s.tariff with revisions := [], previous := none }
    zone := { s.zone with releaseDue := false, expiryHeld := false } }

/-- Two states that a charge cannot tell apart. -/
def Alike (s t : State) : Prop := s.ledger = t.ledger

theorem Alike.refl (s : State) : Alike s s := rfl

theorem Alike.of_eq {s t : State} (h : s = t) : Alike s t := congrArg State.ledger h

theorem Alike.symm {s t : State} (h : Alike s t) : Alike t s := Eq.symm h

theorem Alike.trans {s t u : State} (h₁ : Alike s t) (h₂ : Alike t u) : Alike s u := Eq.trans h₁ h₂

/-- What does not read more than the ledger reads the same of both. -/
theorem Alike.read {β : Type} {s t : State} (h : Alike s t) (f : State → β)
    (hf : ∀ u : State, f u.ledger = f u := by exact fun _ => rfl) : f s = f t := by
  rw [← hf s, ← hf t, show s.ledger = t.ledger from h]

/-- What does not write more than the ledger leaves both alike. -/
theorem Alike.write {s t : State} (h : Alike s t) (f : State → State)
    (hf : ∀ u : State, (f u.ledger).ledger = (f u).ledger := by exact fun _ => rfl) : Alike (f s) (f t) :=
  h.read (fun u => (f u).ledger) hf

section
variable {s t : State} (h : Alike s t)
include h

/-! ### Reads -/

theorem Alike.ses (n : Nat) : s.ses n = t.ses n := h.read (State.ses · n)
theorem Alike.ctx (k : Nat) : s.ctx k = t.ctx k := h.read (State.ctx · k)
theorem Alike.par (i : Nat) : s.par i = t.par i := h.read (State.par · i)
theorem Alike.link (l : LinkId) : s.link l = t.link l := h.read (State.link · l)
theorem Alike.time : s.time = t.time := h.read State.time
theorem Alike.mig : s.mig = t.mig := h.read State.mig
theorem Alike.epoch : s.tariff.epoch = t.tariff.epoch := h.read fun u => u.tariff.epoch
theorem Alike.cells : s.tariff.cells = t.tariff.cells := h.read fun u => u.tariff.cells
theorem Alike.partnerOf (x : Session) : s.partnerOf x = t.partnerOf x := h.read (State.partnerOf · x)
theorem Alike.partnerEntry (x : Session) : s.partnerEntry x = t.partnerEntry x := h.read (State.partnerEntry · x)
theorem Alike.toBlock (c : Context) : s.toBlock c = t.toBlock c := h.read (State.toBlock · c)
theorem Alike.currentPrice (x : Session) (p : Partner) : s.currentPrice x p = t.currentPrice x p :=
  h.read fun u => u.currentPrice x p

/-! ### Writes -/

theorem Alike.setSes (n : Nat) (x : Session) : Alike (s.setSes n x) (t.setSes n x) :=
  h.write fun u => u.setSes n x
theorem Alike.setCtx (k : Nat) (c : Context) : Alike (s.setCtx k c) (t.setCtx k c) :=
  h.write fun u => u.setCtx k c
theorem Alike.setPar (i : Nat) (p : Partner) : Alike (s.setPar i p) (t.setPar i p) :=
  h.write fun u => u.setPar i p
theorem Alike.modLink (l : LinkId) (f : Link → Link) : Alike (s.modLink l f) (t.modLink l f) :=
  h.write fun u => u.modLink l f
theorem Alike.modStranded (f : Nat → Nat) : Alike (s.modStranded f) (t.modStranded f) :=
  h.write fun u => u.modStranded f
theorem Alike.modPlanUse (q : PlanId) (f : Nat → Nat) : Alike (s.modPlanUse q f) (t.modPlanUse q f) :=
  h.write fun u => u.modPlanUse q f
theorem Alike.setQueue (q : List Order) : Alike (s.setQueue q) (t.setQueue q) :=
  h.write fun u => u.setQueue q
theorem Alike.setBatch (b : Option Batch) : Alike (s.setBatch b) (t.setBatch b) :=
  h.write fun u => u.setBatch b
theorem Alike.freeSession (n : Nat) : Alike (s.freeSession n) (t.freeSession n) :=
  h.write fun u => u.freeSession n

/-- Notices do not count, whatever they say. -/
theorem Alike.raise (m n : Notice) : Alike (s.raise m) (t.raise n) := h

theorem Alike.modSes (n : Nat) (f : Session → Session) : Alike (s.modSes n f) (t.modSes n f) := by
  unfold State.modSes
  rw [h.ses]
  cases t.ses n with
  | none => exact h
  | some x => exact h.setSes n (f x)

theorem Alike.modPar (i : Nat) (f : Partner → Partner) : Alike (s.modPar i f) (t.modPar i f) := by
  unfold State.modPar
  rw [h.par]
  cases t.par i with
  | none => exact h
  | some p => exact h.setPar i (f p)

end

/-- An operation on each element of a list in turn. -/
theorem Alike.foldl {α : Type} {f : State → α → State} (hf : ∀ s t a, Alike s t → Alike (f s a) (f t a))
    (l : List α) {s t : State} (h : Alike s t) : Alike (l.foldl f s) (l.foldl f t) := by
  induction l generalizing s t with
  | nil => exact h
  | cons a l ih => exact ih (hf s t a h)

section
variable {s t : State} (h : Alike s t)
include h

/-! ### A charge and its evaluation (R75, R76, R86, R93) -/

theorem Alike.setService (v : Service) (ns : List Nat) : Alike (setService v ns s) (setService v ns t) :=
  .foldl (fun _ _ n h => h.modSes n fun x => { x with service := v }) ns h

theorem Alike.issueAsk (k amount : Nat) : Alike (issueAsk k amount s) (issueAsk k amount t) := by
  unfold Machine.issueAsk State.now State.settings
  rw [h.ctx, h.time]
  cases t.ctx k with
  | none => exact h
  | some c => exact (h.setCtx k _).raise _ _

theorem Alike.judgeAsk (k : Nat) : Alike (judgeAsk k s) (judgeAsk k t) := by
  unfold Machine.judgeAsk
  rw [h.ctx]
  cases t.ctx k with
  | none => exact h
  | some c =>
    dsimp only
    rw [h.par]
    cases t.par c.partner with
    | none => exact h
    | some p =>
      dsimp only
      split
      · exact h.issueAsk k _
      · exact h

theorem Alike.judgeExhaustion (k : Nat) : Alike (judgeExhaustion k s) (judgeExhaustion k t) := by
  unfold Machine.judgeExhaustion
  rw [h.ctx]
  cases t.ctx k with
  | none => exact h
  | some c =>
    dsimp only
    rw [h.toBlock]
    split
    · exact ((h.setCtx k _).setService _ _).raise _ _
    · exact h

theorem Alike.applyAmount (n : Nat) (z : ZoneClass) (k : Nat) : Alike (applyAmount n z k s) (applyAmount n z k t) := by
  unfold Machine.applyAmount
  rw [h.ses]
  cases t.ses n with
  | none => exact h
  | some x =>
    dsimp only
    rw [h.ctx]
    cases t.ctx x.subscriber with
    | none => exact h
    | some c => exact ((h.setSes n _).setCtx _ _).modPar _ _

theorem Alike.charge (n : Nat) (z : ZoneClass) (k : Nat) : Alike (charge n z k s) (charge n z k t) := by
  unfold Machine.charge
  split
  · exact h
  · rw [h.ses]
    cases t.ses n with
    | none => exact h
    | some x => exact ((h.applyAmount n z k).judgeExhaustion _).judgeAsk _

theorem Alike.chargeThousandths (n : Nat) (z : ZoneClass) (a : Nat) :
    Alike (chargeThousandths n z a s) (chargeThousandths n z a t) :=
  (h.modSes n _).charge n z _

/-! ### Cuts and usage (R61, R68 to R72) -/

theorem Alike.cutAt (n : Nat) (q : Price) : Alike (cutAt n q s) (cutAt n q t) := by
  unfold Machine.cutAt
  rw [h.ses, h.epoch]
  cases t.ses n with
  | none => exact h
  | some x =>
    dsimp only
    split
    · exact (h.setSes n _).chargeThousandths n _ _
    · exact h.setSes n _

/-- R71: two states are cut alike where they also agree in the previous values. -/
theorem Alike.epochCutOf (hr : s.tariff.revisions = t.tariff.revisions) (hp : s.tariff.previous = t.tariff.previous)
    (n : Nat) : Alike (epochCutOf n s) (epochCutOf n t) := by
  have price (x : Session) (i : Nat) (p : Partner) (prev : Previous) :
      s.previousPrice x i p prev = t.previousPrice x i p prev := by
    simp only [State.previousPrice, State.liveCell, State.surchargeOf, hr, h.cells, h.link]
  unfold Machine.epochCutOf
  rw [h.ses, hp, h.epoch]
  cases t.ses n with
  | none => exact h
  | some x =>
    cases t.tariff.previous with
    | none => exact h
    | some prev =>
      dsimp only
      split
      · rw [h.partnerEntry]
        cases t.partnerEntry x with
        | none => exact h.setSes n _
        | some e =>
          dsimp only
          rw [price]
          exact h.cutAt n _
      · exact h

theorem Alike.countBytes (x : Session) (u : Nat) : Alike (countBytes x u s) (countBytes x u t) := by
  unfold Machine.countBytes
  split
  · cases x.binding.countedOn with
    | none => exact h
    | some l => exact h.modLink l _
  · exact h

theorem Alike.rateUnits (n u : Nat) (q : Price) : Alike (rateUnits n u q s) (rateUnits n u q t) := by
  unfold Machine.rateUnits
  rw [h.ses]
  cases t.ses n with
  | none => exact h
  | some x =>
    dsimp only
    cases x.cls with
    | emergency => exact h
    | voice => exact (h.setSes n _).chargeThousandths n _ _
    | data => exact (h.setSes n _).chargeThousandths n _ _
    | message => exact (h.setSes n _).chargeThousandths n _ _

theorem Alike.rateEntry (e : UsageEntry) (x : Session) : Alike (rateEntry e x s) (rateEntry e x t) := by
  have stamped : Alike ((Machine.countBytes x (unitsOf x.cls e) s).setSes e.session (x.stamp e s.now))
      ((Machine.countBytes x (unitsOf x.cls e) t).setSes e.session (x.stamp e t.now)) := by
    simp only [State.now, h.time]
    exact (h.countBytes x _).setSes _ _
  unfold Machine.rateEntry
  dsimp only
  rw [stamped.partnerOf]
  cases State.partnerOf _ x with
  | none => exact stamped
  | some p =>
    dsimp only
    rw [stamped.currentPrice]
    exact stamped.rateUnits _ _ _

/-! ### Final rating (R73) -/

theorem Alike.closeResidue (n : Nat) (q : Price) : Alike (closeResidue n q s) (closeResidue n q t) := by
  unfold Machine.closeResidue
  rw [h.ses]
  cases t.ses n with
  | none => exact h
  | some x =>
    dsimp only
    split
    · cases q.cell.rounding with
      | whole => exact (h.setSes n _).chargeThousandths n _ _
      | prorata => exact h.cutAt n q
    · exact h

theorem Alike.closeMinimum (n : Nat) (q : Price) : Alike (closeMinimum n q s) (closeMinimum n q t) := by
  unfold Machine.closeMinimum
  rw [h.ses]
  cases t.ses n with
  | none => exact h
  | some x =>
    dsimp only
    split
    · exact (h.setSes n _).chargeThousandths n _ _
    · exact h

theorem Alike.closeCarry (n : Nat) (z : ZoneClass) : Alike (closeCarry n z s) (closeCarry n z t) := by
  unfold Machine.closeCarry
  rw [h.ses]
  cases t.ses n with
  | none => exact h
  | some x => exact (h.setSes n _).charge n z _

end

end Sys2Proof.Machine
end

section
/-! Chapter 4: the refusals of a USAGE request, and its entries one after the other (R60 to R62, R65). -/

namespace Sys2Proof.Machine

/-! ### What USAGE leaves (R60) -/

theorem closeWrites_rateEntry (e : UsageEntry) (x : Session) (s : State) (hx : s.ses e.session = some x) :
    CloseWrites s (rateEntry e x s) := by
  have counted : CloseWrites s (countBytes x (unitsOf x.cls e) s) := closeWrites_of_eq (countBytes_frame ..)
  have stamped := counted.trans
    (rates_setSes (y := x.stamp e s.now) ((countBytes_ses ..).trans hx) rfl).writes
  unfold rateEntry
  dsimp only
  split
  · exact stamped
  · exact stamped.trans (rates_rateUnits ..).writes

theorem closeWrites_resolveEntry (e : UsageEntry) (s : State) : CloseWrites s (resolveEntry e s).1 := by
  unfold resolveEntry
  split
  · rfl
  · next s1 x h =>
    unfold entrySession at h
    split at h
    · cases h
    · simp only [Option.map_eq_some_iff, Prod.mk.injEq] at h
      obtain ⟨y, hy, rfl, rfl⟩ := h
      exact (rates_epochCutOf e.session s).writes.trans (closeWrites_rateEntry e y _ hy)

/-- `u` is `t` with the frames of the event sent and no notice waiting. -/
def Sent (t u : State) : Prop :=
  u = { t with port := { t.port with transmit := u.port.transmit }, raised := [] }

theorem flushWith_sent (f : OutFrame) (t : State) : Sent t (t.flushWith f) := by
  unfold Sent State.flushWith State.join
  split <;> rfl

theorem flush_sent (t : State) : Sent t t.flush := by
  unfold Sent State.flush State.join
  split <;> rfl

theorem Sent.alike {t u : State} (h : Sent t u) : Alike t u := by rw [h]; rfl

/-- R176: a request that its sender may send leaves what its owner leaves. -/
theorem request_sent {s : State} {h : Header} {k : Kind} {r : Role} (handle : Handler) (hr : s.ready)
    (hh : s.hears h k r) (hp : permits k r = true) :
    Sent (handle ⟨h.client, r⟩ s).state (request h k handle s) := by
  rw [request_heard handle hr hh hp]
  exact flushWith_sent ..

/-- R60: a request whose length fits its count leaves its entries resolved. -/
theorem usage_sent {h : Header} {es : List UsageEntry} {s : State} (hr : s.ready) (hh : s.hears h .usage .meter)
    (h0 : 0 < es.length) (h32 : es.length ≤ 32) (hl : h.length = 2 + 12 * es.length) :
    ∃ u, exec (.usage h es.length es) s = .next u ∧ Sent (resolveEntries es s).1 u := by
  refine ⟨_, exec_usage .., ?_⟩
  have sent := request_sent (usageAnswer h es.length es) hr hh rfl
  rwa [usageAnswer_resolves es _ s h0 h32 hl] at sent

theorem CloseWrites.port {s t : State} (h : CloseWrites s t) : t.port = s.port := by rw [show t = _ from h]

theorem CloseWrites.time {s t : State} (h : CloseWrites s t) : t.time = s.time := by rw [show t = _ from h]

/-- What an event has left lies between events, and hears the clients it heard. -/
theorem Sent.ready {s t u : State} (h : Sent t u) (port : t.port = s.port) (hs : s.ready) : u.ready := by
  rw [h]
  exact ⟨rfl, port ▸ hs.2⟩

theorem Sent.hears {s t u : State} (h : Sent t u) (port : t.port = s.port) (time : t.time = s.time) {hd : Header}
    {k : Kind} {r : Role} (hh : s.hears hd k r) : u.hears hd k r := by
  have settings : t.settings = s.settings := congrArg TimeBase.settings time
  obtain ⟨⟨ether, version, number, client⟩, rest⟩ := hh
  rw [h]
  exact ⟨⟨ether.trans (congrArg Settings.etherType settings.symm), version, number, port ▸ client⟩, rest⟩

/-! ### States that differ in the port and in the notices raised -/

/-- The same state but for the port and the notices raised. -/
def Same (s t : State) : Prop := s = { t with port := s.port, raised := s.raised }

theorem Same.symm {s t : State} (h : Same s t) : Same t s := by
  unfold Same
  rw [show s = _ from h]

theorem Same.trans {s t u : State} (h₁ : Same s t) (h₂ : Same t u) : Same s u := by
  unfold Same
  rw [show s = _ from h₁, show t = _ from h₂]

theorem Same.alike {s t : State} (h : Same s t) : Alike s t := by rw [show s = _ from h]; rfl

theorem Sent.same {t u : State} (h : Sent t u) : Same t u := by rw [h]; rfl

/-- What tells two alike states apart, beside the port and the notices raised: the cut pass and what it goes by. -/
theorem Alike.same {s t : State} (h : Alike s t) (hc : s.cutPos = t.cutPos)
    (hr : s.tariff.revisions = t.tariff.revisions) (hp : s.tariff.previous = t.tariff.previous) (hz : s.zone = t.zone) :
    Same s t := by
  have tariff : s.tariff = t.tariff := by
    have others := h.read fun u => { u.tariff with revisions := [], previous := none }
    calc s.tariff
      _ = { { s.tariff with revisions := [], previous := none } with
            revisions := s.tariff.revisions, previous := s.tariff.previous } := rfl
      _ = t.tariff := by rw [others, hr, hp]
  have rest := congrArg
    (fun u : State => { u with
      port := s.port, tariff := s.tariff, zone := s.zone, cutPos := s.cutPos, raised := s.raised }) h
  calc s
    _ = _ := rest
    _ = { t with port := s.port, raised := s.raised } := by rw [tariff, hz, hc]; rfl

/-- What is alike after writes that leave the cut pass and the previous values is the same, where it was before. -/
theorem Same.of_alike {s t s' t' : State} (h : Same s t) (hs : CloseWrites s s') (ht : CloseWrites t t')
    (ha : Alike s' t') : Same s' t' := by
  refine ha.same ?_ ?_ ?_ ?_
  all_goals rw [show s' = _ from hs, show t' = _ from ht, show s = _ from h]

/-- Two events that leave the same leave states that differ in the port alone. -/
theorem Same.sent {s t u v : State} (h : Same s t) (hu : Sent s u) (hv : Sent t v) : u = { v with port := u.port } := by
  rw [hu, hv, show s = _ from h]

/-- R61: an entry does the same to states that are the same. -/
theorem same_resolveEntry {s t : State} (h : Same s t) (e : UsageEntry) :
    Same (resolveEntry e s).1 (resolveEntry e t).1 := by
  refine h.of_alike (closeWrites_resolveEntry e s) (closeWrites_resolveEntry e t) ?_
  have cut : Alike (epochCutOf e.session s) (epochCutOf e.session t) :=
    h.alike.epochCutOf (by rw [show s = _ from h]) (by rw [show s = _ from h]) e.session
  have opened : s.openAt e.session = t.openAt e.session := h.alike.read (State.openAt · e.session)
  unfold resolveEntry entrySession
  rw [opened]
  cases t.openAt e.session with
  | none => exact h.alike
  | some _ =>
    dsimp only
    rw [cut.ses]
    cases (epochCutOf e.session t).ses e.session with
    | none => exact h.alike
    | some x => exact cut.rateEntry e x

/-- R60: entries do the same, first to last, to states that are the same. -/
theorem same_resolveEntries (es : List UsageEntry) {s t : State} (h : Same s t) :
    Same (resolveEntries es s).1 (resolveEntries es t).1 := by
  induction es generalizing s t with
  | nil => exact h
  | cons e es ih => exact ih (same_resolveEntry h e)

/-- R60: the entries of one request are resolved as those of two requests in a row. -/
theorem usage_in_turn {h h1 h2 : Header} {e : UsageEntry} {es : List UsageEntry} {s : State} (hr : s.ready)
    (hh : s.hears h .usage .meter) (hh1 : s.hears h1 .usage .meter) (hh2 : s.hears h2 .usage .meter) (hes : es ≠ [])
    (h31 : es.length ≤ 31) (hl : h.length = 14 + 12 * es.length) (hl1 : h1.length = 14)
    (hl2 : h2.length = 2 + 12 * es.length) :
    ∃ t1 t2 t, exec (.usage h1 1 [e]) s = .next t1 ∧ exec (.usage h2 es.length es) t1 = .next t2
      ∧ exec (.usage h (es.length + 1) (e :: es)) s = .next t ∧ t = { t2 with port := t.port } := by
  have nonempty : 0 < es.length := List.length_pos_iff.2 hes
  have first := closeWrites_resolveEntry e s
  obtain ⟨t1, run1, sent1⟩ := usage_sent (es := [e]) hr hh1 Nat.one_pos (by simp) hl1
  obtain ⟨t2, run2, sent2⟩ := usage_sent (es := es) (sent1.ready first.port hr)
    (sent1.hears first.port first.time hh2) nonempty (by omega) hl2
  obtain ⟨t, run, sent⟩ := usage_sent (es := e :: es) hr hh (by simp) (Nat.succ_le_succ h31)
    (by rw [List.length_cons]; omega)
  exact ⟨t1, t2, t, run1, run2, run, (same_resolveEntries es sent1.same).sent sent sent2⟩

/-! ### Entries for an EMERGENCY session (R62, R65) -/

/-- R65: an entry for an EMERGENCY session counts its bytes and stamps the time. -/
theorem rateEntry_emergency {e : UsageEntry} {x : Session} {p : Partner} {s : State} (hx : x.cls = .emergency)
    (hp : s.partnerOf x = some p) :
    rateEntry e x s = (countBytes x (unitsOf x.cls e) s).setSes e.session (x.stamp e s.time.clock) := by
  rw [rateEntry_eq hp, rateUnits, State.ses_setSes]
  simp only [Session.stamp, hx]

/-- Settles O34: a refused request resolves nothing, and the entries of an accepted one are resolved as the rules of R61
say, each on the state that the one before it leaves. -/
theorem usageFreeAndInTurn : Obligations.UsageFreeAndInTurn := by
  refine ⟨fun h s hr hh => ?_, fun h h1 h2 e es s hr hh hh1 hh2 => usage_in_turn hr hh hh1 hh2⟩
  have refuses {count : Nat} {es : List UsageEntry} {r : Result}
      (ha : usageAnswer h count es ⟨h.client, .meter⟩ s = refuse r s) :
      exec (.usage h count es) s = refused h .usage r s := request_refuses hr hh rfl ha
  refine ⟨fun count es short => refuses ?_, fun count es long bad => refuses ?_,
    fun count es long h0 h32 bad => refuses ?_,
    fun e hl free => ?_, ?_⟩
  · simp only [usageAnswer, short, if_true]
  · simp only [usageAnswer, usageMax, Nat.not_lt.2 long, bad, if_true, if_false]
  · simp only [usageAnswer, usageMax]
    rw [if_neg (by omega), if_neg (by omega), if_pos bad]
  · refine request_answers hr hh rfl ?_ hr.1 hr.2 rfl
    rw [usageAnswer_single e _ s hl, resolveEntry_noSession free]
    rfl
  · intro e x c p hl hn hx emergency current hc hp u s1
    have rated := rateEntry_emergency (e := e) emergency (partnerOf_eq hc hp)
    have bytes : countBytes x (unitsOf x.cls e) s = s1 := by
      rw [countBytes_eq, emergency]
      rfl
    have record : x.stamp e s.time.clock = { x with
        lastUsage := s.time.clock
        clamped := if 1073741824 < e.a + e.b then min (x.clamped + 1) 255 else x.clamped
        uncertain := if e.uncertain then min (x.uncertain + 1) 255 else x.uncertain } := by
      have clamps : isClamped x.cls e = true ↔ 1073741824 < e.a + e.b := by rw [emergency]; exact decide_eq_true_iff
      simp only [Session.stamp, clamps]
      rfl
    have links : s1 = { s with links := s1.links } := bytes ▸ countBytes_frame x _ s
    have folio : (rateEntry e x s).folioOf x.subscriber = s.folioOf x.subscriber := by rw [rated, bytes, links]; rfl
    have free : outcomeOf x e = .free := if_pos emergency
    have resolved := resolveEntry_current (e := e) hn hx current
    rw [folio, Nat.sub_self, free, rated, bytes, record] at resolved
    refine request_answers hr hh rfl ((usageAnswer_single e _ s hl).trans (by rw [resolved]; rfl)) ?_ ?_ ?_
    · exact (congrArg State.raised links).trans hr.1
    · rw [links]; exact hr.2
    · rw [links]

end Sys2Proof.Machine
end

section
/-! Chapter 4: a session that has had its epoch cut needs no other; a USAGE entry and the visit of the cut pass in
either order (R71, R80). -/

namespace Sys2Proof.Machine

/-! ### Charges leave every session its epoch -/

/-- The epoch of the session open at a handle. -/
def State.epochAt (s : State) (n : Nat) : Option (BitVec 16) := (s.ses n).map Session.epoch

theorem epochAt_setSes (s : State) (n : Nat) (y : Session) (m : Nat) :
    (s.setSes n y).epochAt m = if m = n then some y.epoch else s.epochAt m := by
  by_cases hm : m = n
  · subst hm; simp [State.epochAt]
  · simp [State.epochAt, State.ses_setSes_other _ _ hm, hm]

/-- A record rewritten in its epoch. -/
theorem epochAt_rewrite {s : State} {n : Nat} {x y : Session} (hx : s.ses n = some x) (hy : y.epoch = x.epoch)
    (m : Nat) : (s.setSes n y).epochAt m = s.epochAt m := by
  rw [epochAt_setSes]
  split
  · next hm => rw [hm, State.epochAt, hx, hy]; rfl
  · rfl

theorem epochAt_modSes {f : Session → Session} (hf : ∀ x, (f x).epoch = x.epoch) (n : Nat) (s : State) (m : Nat) :
    (s.modSes n f).epochAt m = s.epochAt m := by
  unfold State.modSes
  split
  · rfl
  · next x hx => exact epochAt_rewrite hx (hf x) m

theorem epochAt_setService (v : Service) (ns : List Nat) (s : State) (m : Nat) :
    (setService v ns s).epochAt m = s.epochAt m := by
  unfold setService
  induction ns generalizing s with
  | nil => rfl
  | cons n ns ih => exact (ih _).trans (epochAt_modSes (f := fun x => { x with service := v }) (fun _ => rfl) n s m)

theorem epochAt_modPar (i : Nat) (f : Partner → Partner) (s : State) (m : Nat) :
    (s.modPar i f).epochAt m = s.epochAt m := by
  unfold State.modPar
  split <;> rfl

theorem epochAt_judgeExhaustion (k : Nat) (s : State) (m : Nat) : (judgeExhaustion k s).epochAt m = s.epochAt m := by
  unfold judgeExhaustion
  split
  · rfl
  · split
    · exact epochAt_setService ..
    · rfl

theorem epochAt_judgeAsk (k : Nat) (s : State) (m : Nat) : (judgeAsk k s).epochAt m = s.epochAt m := by
  unfold judgeAsk
  split
  · rfl
  · split
    · rfl
    · split
      · unfold issueAsk
        split <;> rfl
      · rfl

theorem epochAt_applyAmount (n : Nat) (z : ZoneClass) (k : Nat) (s : State) (m : Nat) :
    (applyAmount n z k s).epochAt m = s.epochAt m := by
  unfold applyAmount
  split
  · rfl
  · next x hx =>
    split
    · rfl
    · next c _ =>
      exact (epochAt_modPar ..).trans (epochAt_rewrite (y := { x with charge := x.charge + headroomOf c k }) hx rfl m)

theorem epochAt_charge (n : Nat) (z : ZoneClass) (k : Nat) (s : State) (m : Nat) :
    (charge n z k s).epochAt m = s.epochAt m := by
  unfold charge
  split
  · rfl
  · split
    · rfl
    · exact (epochAt_judgeAsk ..).trans ((epochAt_judgeExhaustion ..).trans (epochAt_applyAmount ..))

theorem epochAt_chargeThousandths (n : Nat) (z : ZoneClass) (a : Nat) (s : State) (m : Nat) :
    (chargeThousandths n z a s).epochAt m = s.epochAt m :=
  (epochAt_charge ..).trans (epochAt_modSes (f := fun x => { x with carry := a % 1000 }) (fun _ => rfl) n s m)

theorem epochAt_rateUnits (n u : Nat) (q : Price) (s : State) (m : Nat) :
    (rateUnits n u q s).epochAt m = s.epochAt m := by
  unfold rateUnits
  split
  · rfl
  · next x hx =>
    have charged (z : ZoneClass) (a : Nat) {y : Session} (hy : y.epoch = x.epoch) :
        (chargeThousandths n z a (s.setSes n y)).epochAt m = s.epochAt m :=
      (epochAt_chargeThousandths ..).trans (epochAt_rewrite hx hy m)
    split
    · rfl
    · exact charged _ _ rfl
    · exact charged _ _ rfl

theorem epochAt_rateEntry {e : UsageEntry} {x : Session} {s : State} (hx : s.ses e.session = some x) (m : Nat) :
    (rateEntry e x s).epochAt m = s.epochAt m := by
  have stamped : ((countBytes x (unitsOf x.cls e) s).setSes e.session (x.stamp e s.now)).epochAt m = s.epochAt m :=
    (epochAt_rewrite (y := x.stamp e s.now) ((countBytes_ses ..).trans hx) rfl m).trans
      (congrArg (Option.map Session.epoch) (countBytes_ses ..))
  unfold rateEntry
  dsimp only
  split
  · exact stamped
  · exact (epochAt_rateUnits ..).trans stamped

/-! ### A session that needs no epoch cut (R71) -/

/-- R71: the session open at a handle, if any, is not of the previous epoch. -/
def State.isCut (s : State) (n : Nat) : Prop :=
  ∀ prev, s.tariff.previous = some prev → s.epochAt n ≠ some prev.epoch

/-- R15: the previous epoch is another than the epoch. -/
def State.epochsDiffer (s : State) : Prop := ∀ prev, s.tariff.previous = some prev → prev.epoch ≠ s.tariff.epoch

theorem epochCutOf_isCut {s : State} {n : Nat} (hc : s.isCut n) : epochCutOf n s = s := by
  cases hx : s.ses n with
  | none => simp only [epochCutOf, hx]
  | some x =>
    refine epochCutOf_current hx (Bool.eq_false_iff.2 fun previous => ?_)
    obtain ⟨prev, hprev, he⟩ := Option.map_eq_some_iff.1 ((inPrevious_iff s x).1 previous)
    exact hc prev hprev (by rw [State.epochAt, hx, he]; rfl)

/-- R71: the session is in the epoch of the state once it is cut. -/
theorem epochAt_cutAt {s : State} {n : Nat} {x : Session} (q : Price) (hx : s.ses n = some x) :
    (cutAt n q s).epochAt n = some s.tariff.epoch := by
  simp only [cutAt, hx]
  split
  · rw [epochAt_chargeThousandths, epochAt_setSes, if_pos rfl]
  · rw [epochAt_setSes, if_pos rfl]

/-- R71: an epoch cut leaves a session that needs none. -/
theorem isCut_epochCutOf {s : State} (hd : s.epochsDiffer) (n : Nat) : (epochCutOf n s).isCut n := by
  have same : (epochCutOf n s).tariff.previous = s.tariff.previous := by rw [(rates_epochCutOf n s).frame]
  intro prev hprev
  rw [same] at hprev
  have current : some s.tariff.epoch ≠ some prev.epoch := fun e => hd prev hprev (Option.some.inj e).symm
  unfold epochCutOf
  rw [hprev]
  cases hx : s.ses n with
  | none => simp [State.epochAt, hx]
  | some x =>
    dsimp only
    split
    · split
      · rwa [epochAt_setSes, if_pos rfl]
      · rwa [epochAt_cutAt _ hx]
    · next other => simpa [State.epochAt, hx] using other

/-- A session goes on needing no cut where its epoch stays and no other previous epoch comes. -/
theorem State.isCut.congr {s t : State} {n : Nat} (h : s.isCut n) (he : t.epochAt n = s.epochAt n)
    (hp : ∀ prev, t.tariff.previous = some prev → s.tariff.previous = some prev) : t.isCut n :=
  fun prev hprev => he ▸ h prev (hp prev hprev)

/-! ### USAGE and the visit (R80) -/

/-- R61 steps 3 to 6 for the session open at an entry's handle, if any. -/
def rateOpen (e : UsageEntry) (s : State) : State :=
  match s.ses e.session with
  | none => s
  | some x => rateEntry e x s

/-- R61: an entry makes the epoch cut of its session and then rates it. -/
theorem resolveEntry_state {e : UsageEntry} (hn : e.session ≤ 8191) (s : State) :
    (resolveEntry e s).1 = rateOpen e (epochCutOf e.session s) := by
  cases hx : s.ses e.session with
  | none =>
    have cut : epochCutOf e.session s = s := by simp only [epochCutOf, hx]
    rw [resolveEntry_noSession (.inr hx), cut, rateOpen, hx]
  | some x =>
    obtain ⟨y, hy⟩ : ∃ y, (epochCutOf e.session s).ses e.session = some y := by
      have seat := (rates_epochCutOf e.session s).seat e.session
      rw [State.seat, State.seat, hx] at seat
      obtain ⟨y, hy, -⟩ := Option.map_eq_some_iff.1 seat
      exact ⟨y, hy⟩
    rw [resolveEntry_open hn hy (by simp [hx]), rateOpen, hy]

theorem Alike.rateOpen {s t : State} (h : Alike s t) (e : UsageEntry) : Alike (rateOpen e s) (rateOpen e t) := by
  unfold Machine.rateOpen
  rw [h.ses]
  cases t.ses e.session with
  | none => exact h
  | some x => exact h.rateEntry e x

theorem closeWrites_rateOpen (e : UsageEntry) (s : State) : CloseWrites s (rateOpen e s) := by
  unfold rateOpen
  split
  · rfl
  · next x hx => exact closeWrites_rateEntry e x s hx

theorem isCut_rateOpen {s : State} {e : UsageEntry} (h : s.isCut e.session) : (rateOpen e s).isCut e.session := by
  refine h.congr ?_ fun prev hprev => by rwa [show rateOpen e s = _ from closeWrites_rateOpen e s] at hprev
  unfold rateOpen
  split
  · rfl
  · next x hx => exact epochAt_rateEntry hx _

/-- R60, R61: a USAGE request of one entry leaves the entry's session cut and rated. -/
theorem usage_rates {h : Header} {e : UsageEntry} {s : State} (hr : s.ready) (hh : s.hears h .usage .meter)
    (hl : h.length = 14) (hn : e.session ≤ 8191) :
    ∃ u, exec (.usage h 1 [e]) s = .next u ∧ Sent (rateOpen e (epochCutOf e.session s)) u := by
  obtain ⟨u, run, sent⟩ := usage_sent (es := [e]) hr hh Nat.one_pos (by simp) hl
  exact ⟨u, run, resolveEntry_state hn s ▸ sent⟩

/-- R79: what the visit of the cut pass leaves. -/
theorem cutPassVisit_sent {s : State} {n : Nat} (hc : s.cutPos = some n) :
    ∃ a, exec .cutPassVisit s = .next a ∧ Sent ((epochCutOf n s).visited n s.staleDue) a :=
  ⟨_, exec_cutPassVisit hc, flush_sent _⟩

theorem alike_visited (s : State) (n : Nat) (due : Bool) : Alike (s.visited n due) s := by
  unfold State.visited
  split <;> rfl

theorem Same.visited {s t : State} (h : Same s t) (n : Nat) (due : Bool) :
    Same (s.visited n due) (t.visited n due) := by
  rw [show s = _ from h]
  unfold State.visited
  split <;> rfl

theorem CloseWrites.visited {s t : State} (h : CloseWrites s t) (n : Nat) (due : Bool) :
    CloseWrites (s.visited n due) (t.visited n due) := by
  rw [show t = _ from h]
  unfold State.visited
  split <;> rfl

/-- R79: after the visit the previous values are those of before, or none. -/
theorem previous_of_visited {s : State} {n : Nat} {due : Bool} {prev : Previous}
    (h : (s.visited n due).tariff.previous = some prev) : s.tariff.previous = some prev := by
  unfold State.visited at h
  split at h
  · exact h
  · cases h

/-- R80: a USAGE entry and the cut pass's visit to its session leave the same in either order: whichever comes second
finds the session cut. -/
theorem usage_visit_commute {h : Header} {e : UsageEntry} {s : State} (hr : s.ready) (hh : s.hears h .usage .meter)
    (hl : h.length = 14) (hn : e.session ≤ 8191) (hc : s.cutPos = some e.session) (hd : s.epochsDiffer) :
    ∃ a b c d, exec .cutPassVisit s = .next a ∧ exec (.usage h 1 [e]) a = .next b
      ∧ exec (.usage h 1 [e]) s = .next c ∧ exec .cutPassVisit c = .next d ∧ b = { d with port := b.port } := by
  have writes := (rates_epochCutOf e.session s).writes
  have isCut := isCut_epochCutOf hd e.session
  have rated := closeWrites_rateOpen e (epochCutOf e.session s)
  have ratedCut := isCut_rateOpen isCut
  obtain ⟨a, runA, sentA⟩ := cutPassVisit_sent hc
  obtain ⟨c, runC, sentC⟩ := usage_rates hr hh hl hn
  generalize epochCutOf e.session s = cut at *
  have port : (cut.visited e.session s.staleDue).port = s.port := by rw [State.visited_port, writes.port]
  have time : (cut.visited e.session s.staleDue).time = s.time := by
    rw [(alike_visited ..).time, writes.time]
  obtain ⟨b, runB, sentB⟩ := usage_rates (sentA.ready port hr) (sentA.hears port time hh) hl hn
  have cutA : a.isCut e.session := isCut.congr (by rw [sentA]; exact congrArg _ ((alike_visited ..).ses _))
    fun prev hprev => previous_of_visited (n := e.session) (due := s.staleDue) (by rwa [sentA] at hprev)
  have cutC : c.isCut e.session := ratedCut.congr (by rw [sentC]; rfl) fun prev hprev => by rwa [sentC] at hprev
  have posC : c.cutPos = some e.session := by
    rw [sentC, show rateOpen e cut = _ from rated, show cut = _ from writes, hc]
  have dueC : c.staleDue = s.staleDue := by
    rw [sentC, show rateOpen e cut = _ from rated, show cut = _ from writes]; rfl
  obtain ⟨d, runD, sentD⟩ := cutPassVisit_sent posC
  rw [epochCutOf_isCut cutA] at sentB
  rw [epochCutOf_isCut cutC, dueC] at sentD
  have before : Same a (cut.visited e.session s.staleDue) := sentA.same.symm
  have alike : Alike (rateOpen e a) ((rateOpen e cut).visited e.session s.staleDue) :=
    ((before.alike.trans (alike_visited ..)).rateOpen e).trans (alike_visited ..).symm
  have after := before.of_alike (closeWrites_rateOpen e a) (rated.visited e.session s.staleDue) alike
  exact ⟨a, b, c, d, runA, runB, runC, runD, (after.trans (sentC.same.visited _ _)).sent sentB sentD⟩

end Sys2Proof.Machine
end

section
/-! Chapters 3 and 4: what the close of a session writes before its final rating, and that the final rating does not
depend on it (R50, R73). -/

namespace Sys2Proof.Machine

/-! ### Changing the record at a number -/

/-- Change the record at a number, when there is one. -/
def Table.mapAt {α : Type} (t : Table α) (k : Nat) (f : α → α) : Table α :=
  t.map fun p => if p.1 = k then (p.1, f p.2) else p

section
variable {α : Type}

theorem Table.mapAt_cons (j k : Nat) (a : α) (t : Table α) (f : α → α) :
    Table.mapAt ((j, a) :: t) k f = (j, if j = k then f a else a) :: Table.mapAt t k f := by
  by_cases hj : j = k <;> simp [Table.mapAt, hj]

theorem Table.get_mapAt (t : Table α) (k m : Nat) (f : α → α) :
    Table.get (Table.mapAt t k f) m = if m = k then (Table.get t m).map f else Table.get t m := by
  induction t with
  | nil => simp [Table.mapAt]
  | cons p t ih =>
    obtain ⟨j, a⟩ := p
    rw [Table.mapAt_cons, Table.get_cons, Table.get_cons, ih]
    by_cases hj : j = m
    · subst hj; simp only [if_true]; split <;> rfl
    · simp only [hj, if_false]

/-- A change after a write, at the same number or at another. -/
theorem Table.mapAt_set (t : Table α) (k m : Nat) (a : α) (f : α → α) :
    Table.mapAt (Table.set t m a) k f = Table.set (Table.mapAt t k f) m (if m = k then f a else a) := by
  induction t with
  | nil => exact Table.mapAt_cons ..
  | cons p t ih =>
    obtain ⟨j, b⟩ := p
    rw [Table.mapAt_cons]
    unfold Table.set
    split
    · rw [Table.mapAt_cons, Table.mapAt_cons]
    · split
      · rw [Table.mapAt_cons]
      · rw [Table.mapAt_cons, ih]

theorem Table.erase_mapAt (t : Table α) (k : Nat) (f : α → α) :
    Table.erase (Table.mapAt t k f) k = Table.erase t k := by
  induction t with
  | nil => rfl
  | cons p t ih =>
    obtain ⟨j, b⟩ := p
    rw [Table.mapAt_cons]
    unfold Table.erase at ih ⊢
    by_cases hj : j = k <;> simp [hj, ih]

/-- In the canonical form only the record that is read counts. -/
theorem Table.mapAt_congr {t : Table α} {k : Nat} {a : α} {f g : α → α} (ht : t.wf = true)
    (ha : Table.get t k = some a) (h : f a = g a) : Table.mapAt t k f = Table.mapAt t k g := by
  refine List.map_congr_left fun p hp => ?_
  split
  · next hk =>
    obtain rfl : a = p.2 := Option.some.inj (ha.symm.trans (Table.get_of_mem (a := p.2) ht (hk ▸ hp)))
    rw [h]
  · rfl

theorem Table.mapAt_id (t : Table α) (k : Nat) : Table.mapAt t k id = t := by simp [Table.mapAt]

theorem Table.mapAt_mapAt (t : Table α) (k : Nat) (f g : α → α) :
    Table.mapAt (Table.mapAt t k f) k g = Table.mapAt t k (g ∘ f) := by
  simp only [Table.mapAt, List.map_map]
  refine List.map_congr_left fun p _ => ?_
  by_cases hk : p.1 = k <;> simp [hk]

/-- In the canonical form a write of a listed record is a change of it. -/
theorem Table.set_eq_mapAt {t : Table α} {k : Nat} {a : α} (b : α) (ht : t.wf = true) (ha : Table.get t k = some a) :
    Table.set t k b = Table.mapAt t k fun _ => b := by
  unfold Table.wf at ht
  generalize (none : Option Nat) = bound at ht
  induction t generalizing bound with
  | nil => cases ha
  | cons p t ih =>
    obtain ⟨j, c⟩ := p
    simp only [Table.risingFrom, Bool.and_eq_true] at ht
    have above := Table.above_of_rising ht.2
    rw [Table.mapAt_cons]
    unfold Table.set
    by_cases hj : j = k
    · subst hj
      have others : Table.mapAt t j (fun _ => b) = t :=
        (List.map_congr_left fun p hp => if_neg (Nat.ne_of_gt (above p hp))).trans (List.map_id t)
      simp [others]
    · rw [Table.get_cons, if_neg hj] at ha
      have lt := above _ (Table.mem_of_get ha)
      rw [if_neg (Nat.not_lt.2 (Nat.le_of_lt lt)), if_neg (Ne.symm hj), if_neg hj, ih ha (some j) ht.2]

end

/-! ### What stands between a session and its final rating (R50 steps 1 and 2) -/

/-- What the first two steps of a close write for the session at a handle: its binding, that its subscriber lists it no
more, the links and the Migration Engine. The service state is one that the record had. -/
structure Parting where
  handle : Nat
  subscriber : Nat
  service : Service
  binding : Binding
  links : Vector Link 8
  mig : Migration

/-- The record of the session. -/
def Parting.session (w : Parting) (x : Session) : Session := { x with service := w.service, binding := w.binding }

/-- The context of its subscriber. -/
def Parting.context (w : Parting) (c : Context) : Context :=
  { c with sessions := c.sessions.filter (· ≠ w.handle) }

/-- The state with these written. -/
def State.part (s : State) (w : Parting) : State :=
  { s with
    sess := { s.sess with records := Table.mapAt s.sess.records w.handle w.session }
    subs := { s.subs with contexts := Table.mapAt s.subs.contexts w.subscriber w.context }
    links := w.links, mig := w.mig }

section
variable (w : Parting) (s : State)

theorem Alike.part {s t : State} (h : Alike s t) (w : Parting) : Alike (s.part w) (t.part w) :=
  h.write (State.part · w)

theorem State.ses_part (n : Nat) :
    (s.part w).ses n = if n = w.handle then (s.ses n).map w.session else s.ses n := Table.get_mapAt ..

theorem State.ctx_part (k : Nat) :
    (s.part w).ctx k = if k = w.subscriber then (s.ctx k).map w.context else s.ctx k := Table.get_mapAt ..

theorem State.part_setSes (n : Nat) (x : Session) :
    (s.setSes n x).part w = (s.part w).setSes n (if n = w.handle then w.session x else x) := by
  simp only [State.part, State.setSes, Table.mapAt_set]

theorem State.part_setCtx (k : Nat) (c : Context) :
    (s.setCtx k c).part w = (s.part w).setCtx k (if k = w.subscriber then w.context c else c) := by
  simp only [State.part, State.setCtx, Table.mapAt_set]

theorem State.ctx_part_own : (s.part w).ctx w.subscriber = (s.ctx w.subscriber).map w.context :=
  (s.ctx_part w _).trans (if_pos rfl)

theorem State.part_setCtx_own (c : Context) :
    (s.setCtx w.subscriber c).part w = (s.part w).setCtx w.subscriber (w.context c) := by
  rw [State.part_setCtx, if_pos rfl]

theorem State.ses_part_own : (s.part w).ses w.handle = (s.ses w.handle).map w.session :=
  (s.ses_part w _).trans (if_pos rfl)

theorem State.part_setSes_own (x : Session) :
    (s.setSes w.handle x).part w = (s.part w).setSes w.handle (w.session x) := by
  rw [State.part_setSes, if_pos rfl]

theorem State.part_modPar (i : Nat) (f : Partner → Partner) : (s.modPar i f).part w = (s.part w).modPar i f := by
  have par : (s.part w).par i = s.par i := rfl
  simp only [State.modPar, par]
  cases s.par i <;> rfl

/-- A change of another session, or one that keeps the service state and the binding. -/
theorem State.part_modSes {n : Nat} {f : Session → Session}
    (hf : n = w.handle → ∀ x, w.session (f x) = f (w.session x)) :
    (s.modSes n f).part w = (s.part w).modSes n f := by
  simp only [State.modSes, State.ses_part]
  by_cases hn : n = w.handle
  · subst hn
    rw [if_pos rfl]
    cases s.ses w.handle with
    | none => rfl
    | some x =>
      refine (State.part_setSes ..).trans ?_
      rw [if_pos rfl, hf rfl]
      rfl
  · rw [if_neg hn]
    cases s.ses n with
    | none => rfl
    | some x => exact (State.part_setSes ..).trans (by rw [if_neg hn])

/-- A change of the session's own service state does not show. -/
theorem State.part_modService_own (hw : Table.wf s.sess.records = true) (v : Service) :
    (s.modSes w.handle fun x => { x with service := v }).part w = s.part w := by
  unfold State.modSes
  cases hx : s.ses w.handle with
  | none => rfl
  | some x =>
    have records : Table.mapAt (Table.set s.sess.records w.handle { x with service := v }) w.handle w.session =
        Table.mapAt s.sess.records w.handle w.session := by
      rw [Table.set_eq_mapAt _ hw hx, Table.mapAt_mapAt]
      exact Table.mapAt_congr hw hx rfl
    simp only [State.part, State.setSes, records]

/-! ### A charge and its evaluation (R75, R76, R86, R93) -/

/-- R93: of the sessions given a service state, the one that is parted with does not show. -/
theorem setService_part (hw : Table.wf s.sess.records = true) (v : Service) (ns : List Nat) :
    (setService v ns s).part w = setService v (ns.filter (· ≠ w.handle)) (s.part w) := by
  induction ns generalizing s with
  | nil => rfl
  | cons n ns ih =>
    have kept := (rates_modSes (n := n) (f := fun x => { x with service := v }) (fun _ => rfl) s).wf hw
    have step : (setService v (n :: ns) s).part w =
        setService v (ns.filter (· ≠ w.handle)) ((s.modSes n fun x => { x with service := v }).part w) := ih _ kept
    rw [step]
    by_cases hn : n = w.handle
    · rw [hn, State.part_modService_own w s hw v]
      simp
    · rw [State.part_modSes w s fun e => absurd e hn, List.filter_cons, if_pos (by simpa using hn)]
      rfl

/-- R93: the sessions that exhaustion blocks, but for the one that is parted with. -/
theorem toBlock_part (c : Context) : (s.part w).toBlock (w.context c) = (s.toBlock c).filter (· ≠ w.handle) := by
  simp only [State.toBlock, Parting.context, List.filter_filter]
  refine List.filter_congr fun m _ => ?_
  by_cases hm : m = w.handle
  · simp [hm]
  · rw [State.ses_part, if_neg hm, Bool.and_comm]

theorem judgeExhaustion_part (hw : Table.wf s.sess.records = true) :
    Alike (judgeExhaustion w.subscriber (s.part w)) ((judgeExhaustion w.subscriber s).part w) := by
  cases hc : s.ctx w.subscriber with
  | none =>
    have part : (s.part w).ctx w.subscriber = none := by rw [State.ctx_part_own, hc]; rfl
    simp only [judgeExhaustion, hc, part]
    exact .refl _
  | some c =>
    have part : (s.part w).ctx w.subscriber = some (w.context c) := by rw [State.ctx_part_own, hc]; rfl
    rw [judgeExhaustion_eq hc, judgeExhaustion_eq part, toBlock_part]
    by_cases exhausts : c.granted ≤ c.consumed ∧ c.credit = .funded
    · have blocked := setService_part w (s.setCtx w.subscriber { c with credit := .exhausted }) hw .blocked
        (s.toBlock c)
      rw [State.part_setCtx_own] at blocked
      rw [if_pos exhausts,
        if_pos (show (w.context c).granted ≤ (w.context c).consumed ∧ (w.context c).credit = _ from exhausts)]
      exact (Alike.of_eq blocked.symm).raise _ _
    · rw [if_neg exhausts,
        if_neg (show ¬ ((w.context c).granted ≤ (w.context c).consumed ∧ (w.context c).credit = _) from exhausts)]
      exact .refl _

theorem judgeAsk_part : Alike (judgeAsk w.subscriber (s.part w)) ((judgeAsk w.subscriber s).part w) := by
  cases hc : s.ctx w.subscriber with
  | none =>
    have part : (s.part w).ctx w.subscriber = none := by rw [State.ctx_part_own, hc]; rfl
    simp only [judgeAsk, hc, part]
    exact .refl _
  | some c =>
    have part : (s.part w).ctx w.subscriber = some (w.context c) := by rw [State.ctx_part_own, hc]; rfl
    have par : (s.part w).par (w.context c).partner = s.par c.partner := rfl
    cases hp : s.par c.partner with
    | none =>
      simp only [judgeAsk, hc, part, par, hp]
      exact .refl _
    | some p =>
      rw [judgeAsk_eq hc hp, judgeAsk_eq part (par.trans hp)]
      by_cases asks : askCondition c p = true
      · have written (c : Context) : Alike ((s.part w).setCtx w.subscriber (w.context c))
            ((s.setCtx w.subscriber c).part w) :=
          .of_eq (State.part_setCtx_own ..).symm
        rw [if_pos asks, if_pos (show askCondition (w.context c) p = true from asks)]
        exact (written { c with
          ask := some ⟨nextAsk c.lastAsk, min (s.time.clock + s.settings.askTimeout * 1000) clockMax⟩
          lastAsk := nextAsk c.lastAsk }).raise _ _
      · rw [if_neg asks, if_neg (show ¬ askCondition (w.context c) p = true from asks)]
        exact .refl _

/-- R75: an amount for the session that is parted with. -/
theorem applyAmount_part (z : ZoneClass) (k : Nat)
    (ho : ∀ x, s.ses w.handle = some x → x.subscriber = w.subscriber) :
    applyAmount w.handle z k (s.part w) = (applyAmount w.handle z k s).part w := by
  unfold applyAmount
  rw [State.ses_part_own]
  cases hx : s.ses w.handle with
  | none => rfl
  | some x =>
    have own : (w.session x).subscriber = w.subscriber := ho x hx
    have own' : x.subscriber = w.subscriber := ho x hx
    simp only [Option.map_some, own, own', State.ctx_part_own]
    cases s.ctx w.subscriber with
    | none => rfl
    | some c =>
      refine Eq.symm ((State.part_modPar ..).trans ?_)
      rw [State.part_setCtx_own, State.part_setSes_own]
      rfl

/-- R75, R76: a charge to the session does not depend on the parting. -/
theorem charge_part (z : ZoneClass) (k : Nat) (hw : Table.wf s.sess.records = true)
    (ho : ∀ x, s.ses w.handle = some x → x.subscriber = w.subscriber) :
    Alike (charge w.handle z k (s.part w)) ((charge w.handle z k s).part w) := by
  unfold charge
  split
  · exact .refl _
  · rw [State.ses_part_own]
    cases hx : s.ses w.handle with
    | none => exact .refl _
    | some x =>
      have own : (w.session x).subscriber = w.subscriber := ho x hx
      have own' : x.subscriber = w.subscriber := ho x hx
      have kept := (rates_applyAmount w.handle z k s).wf hw
      simp only [Option.map_some, own, own', evaluateCredit]
      rw [applyAmount_part w s z k ho]
      exact ((judgeExhaustion_part w _ kept).judgeAsk _).trans (judgeAsk_part ..)

end

end Sys2Proof.Machine
end

section
/-! Chapter 4: the final rating of a session that is parted with (R71, R73). -/

namespace Sys2Proof.Machine

/-- What a parting may write: the session stays with its subscriber, is counted where it was, and no link's surcharge
changes. -/
structure Parting.Fits (w : Parting) (s : State) : Prop where
  wf : Table.wf s.sess.records = true
  owner : ∀ k, s.owner w.handle = some k → k = w.subscriber
  seat : ∀ p, s.seat w.handle = some p → w.binding.countedOn = p.2.countedOn
  surcharge : ∀ l : LinkId, (w.links[l]).surcharge = (s.link l).surcharge

section
variable {w : Parting} {s t : State}

theorem Parting.Fits.congr (h : w.Fits s) (hr : Rates s t) (ho : ∀ n, t.owner n = s.owner n) : w.Fits t where
  wf := hr.wf h.wf
  owner := by rw [ho]; exact h.owner
  seat := by rw [hr.seat]; exact h.seat
  surcharge l := by rw [hr.link]; exact h.surcharge l

theorem Parting.Fits.subscriber (h : w.Fits s) (x : Session) (hx : s.ses w.handle = some x) :
    x.subscriber = w.subscriber := h.owner _ ((owner_eq_some_iff ..).2 ⟨x, hx, rfl⟩)

theorem Parting.Fits.countedOn (h : w.Fits s) {x : Session} (hx : s.ses w.handle = some x) :
    w.binding.countedOn = x.binding.countedOn := h.seat _ (seat_of_ses hx)

/-- The record rewritten for the same subscriber on the same link. -/
theorem Parting.Fits.setSes (h : w.Fits s) {x y : Session} (hx : s.ses w.handle = some x)
    (hk : y.subscriber = x.subscriber) (hs : y.seat = x.seat) : w.Fits (s.setSes w.handle y) :=
  h.congr (rates_setSes hx hs) (steady_rewrite hx hk).owner

/-! ### Charges and cuts -/

theorem chargeThousandths_part (h : w.Fits s) (z : ZoneClass) (a : Nat) :
    Alike (chargeThousandths w.handle z a (s.part w)) ((chargeThousandths w.handle z a s).part w) := by
  have carried : (s.modSes w.handle fun x => { x with carry := a % 1000 }).part w =
      (s.part w).modSes w.handle fun x => { x with carry := a % 1000 } := State.part_modSes w s fun _ _ => rfl
  have fits : w.Fits (s.modSes w.handle fun x => { x with carry := a % 1000 }) := by
    unfold State.modSes
    cases hx : s.ses w.handle with
    | none => exact h
    | some x => exact h.setSes hx rfl rfl
  unfold chargeThousandths
  rw [← carried]
  exact charge_part w _ z _ fits.wf fits.subscriber

/-- The record rewritten, and then charged. -/
theorem setSes_charge_part (h : w.Fits s) {x y : Session} (z : ZoneClass) (a : Nat) (hx : s.ses w.handle = some x)
    (hk : y.subscriber = x.subscriber) (hs : y.seat = x.seat) :
    Alike (chargeThousandths w.handle z a ((s.part w).setSes w.handle (w.session y)))
      ((chargeThousandths w.handle z a (s.setSes w.handle y)).part w) := by
  rw [← State.part_setSes_own]
  exact chargeThousandths_part (h.setSes hx hk hs) z a

theorem cutAt_part (h : w.Fits s) (q : Price) : Alike (cutAt w.handle q (s.part w)) ((cutAt w.handle q s).part w) := by
  unfold cutAt
  rw [State.ses_part_own]
  cases hx : s.ses w.handle with
  | none => exact .refl _
  | some x =>
    have residue : (w.session x).hasResidue = x.hasResidue := rfl
    simp only [Option.map_some, residue]
    split
    · exact setSes_charge_part h (y := { x with residue := 0, epoch := s.tariff.epoch }) _ _ hx rfl rfl
    · exact .of_eq (State.part_setSes_own w s { x with epoch := s.tariff.epoch }).symm

/-- R44, R67: the surcharge is that of the link the session was counted on. -/
theorem surchargeOf_part (h : w.Fits s) {x : Session} (hx : s.ses w.handle = some x) :
    (s.part w).surchargeOf w.binding = s.surchargeOf x.binding := by
  unfold State.surchargeOf
  rw [h.countedOn hx]
  cases x.binding.countedOn with
  | none => rfl
  | some l => exact h.surcharge l

theorem currentPrice_part (h : w.Fits s) {x : Session} (hx : s.ses w.handle = some x) (p : Partner) :
    (s.part w).currentPrice (w.session x) p = s.currentPrice x p :=
  congrArg (fun surcharge => Price.mk _ (factorOf x.cls surcharge p.adjustment) _) (surchargeOf_part h hx)

theorem previousPrice_part (h : w.Fits s) {x : Session} (hx : s.ses w.handle = some x) (i : Nat) (p : Partner)
    (prev : Previous) : (s.part w).previousPrice (w.session x) i p prev = s.previousPrice x i p prev :=
  congrArg (fun surcharge => Price.mk _ (factorOf x.cls surcharge _) _) (surchargeOf_part h hx)

theorem partnerEntry_part (x : Session) : (s.part w).partnerEntry (w.session x) = s.partnerEntry x := by
  have par (i : Nat) : (s.part w).par i = s.par i := rfl
  have subscriber : (w.session x).subscriber = x.subscriber := rfl
  simp only [State.partnerEntry, State.ctx_part, par, subscriber]
  split
  · cases s.ctx x.subscriber <;> rfl
  · rfl

theorem partnerOf_part (x : Session) : (s.part w).partnerOf (w.session x) = s.partnerOf x := by
  have par (i : Nat) : (s.part w).par i = s.par i := rfl
  have subscriber : (w.session x).subscriber = x.subscriber := rfl
  simp only [State.partnerOf, State.ctx_part, par, subscriber]
  split
  · cases s.ctx x.subscriber <;> rfl
  · rfl

theorem epochCutOf_part (h : w.Fits s) :
    Alike (epochCutOf w.handle (s.part w)) ((epochCutOf w.handle s).part w) := by
  have previous : (s.part w).tariff.previous = s.tariff.previous := rfl
  unfold epochCutOf
  rw [State.ses_part_own, previous]
  cases hx : s.ses w.handle with
  | none => exact .refl _
  | some x =>
    cases s.tariff.previous with
    | none => exact .refl _
    | some prev =>
      have epoch : (w.session x).epoch = x.epoch := rfl
      simp only [Option.map_some, partnerEntry_part, epoch]
      split
      · cases s.partnerEntry x with
        | none =>
          exact .of_eq (State.part_setSes_own w s { x with residue := 0, epoch := s.tariff.epoch }).symm
        | some e =>
          dsimp only
          rw [previousPrice_part h hx]
          exact cutAt_part h _
      · exact .refl _

/-! ### The final rating -/

theorem closeResidue_part (h : w.Fits s) (q : Price) :
    Alike (closeResidue w.handle q (s.part w)) ((closeResidue w.handle q s).part w) := by
  unfold closeResidue
  rw [State.ses_part_own]
  cases hx : s.ses w.handle with
  | none => exact .refl _
  | some x =>
    have residue : (w.session x).hasResidue = x.hasResidue := rfl
    simp only [Option.map_some, residue]
    split
    · cases q.cell.rounding with
      | whole =>
        exact setSes_charge_part h (y := { x with residue := 0, blocks := saturate blocksMax (x.blocks + 1) }) _ _
          hx rfl rfl
      | prorata => exact cutAt_part h q
    · exact .refl _

theorem closeMinimum_part (h : w.Fits s) (q : Price) :
    Alike (closeMinimum w.handle q (s.part w)) ((closeMinimum w.handle q s).part w) := by
  unfold closeMinimum
  rw [State.ses_part_own]
  cases hx : s.ses w.handle with
  | none => exact .refl _
  | some x =>
    have blocks : (w.session x).blocks = x.blocks := rfl
    simp only [Option.map_some, blocks]
    split
    · exact setSes_charge_part h (y := { x with blocks := q.cell.minimum }) _ _ hx rfl rfl
    · exact .refl _

theorem closeCarry_part (h : w.Fits s) (z : ZoneClass) :
    Alike (closeCarry w.handle z (s.part w)) ((closeCarry w.handle z s).part w) := by
  unfold closeCarry
  rw [State.ses_part_own]
  cases hx : s.ses w.handle with
  | none => exact .refl _
  | some x =>
    have fits := h.setSes (y := { x with carry := 0 }) hx rfl rfl
    have charged := charge_part w _ z (if 500 ≤ x.carry then 1 else 0) fits.wf fits.subscriber
    rw [State.part_setSes_own] at charged
    exact charged

/-- R73 steps 2 to 4, for the session open at a handle, if any. -/
def rateFinally (n : Nat) (s : State) : State :=
  match s.ses n with
  | none => s
  | some x =>
    if x.cls = .emergency then s
    else match s.partnerOf x with
      | none => s
      | some p =>
        closeCarry n (s.currentPrice x p).zoneClass
          (closeMinimum n (s.currentPrice x p) (closeResidue n (s.currentPrice x p) s))

/-- R73: the final rating is an epoch cut and the steps after it. -/
theorem finalRating_eq (n : Nat) (s : State) : finalRating n s = rateFinally n (epochCutOf n s) := rfl

theorem Alike.rateFinally (h : Alike s t) (n : Nat) : Alike (rateFinally n s) (rateFinally n t) := by
  unfold Machine.rateFinally
  rw [h.ses]
  cases t.ses n with
  | none => exact h
  | some x =>
    dsimp only
    split
    · exact h
    · rw [h.partnerOf]
      cases t.partnerOf x with
      | none => exact h
      | some p =>
        dsimp only
        rw [h.currentPrice]
        exact ((h.closeResidue n _).closeMinimum n _).closeCarry n _

theorem rateFinally_part (h : w.Fits s) :
    Alike (rateFinally w.handle (s.part w)) ((rateFinally w.handle s).part w) := by
  unfold rateFinally
  rw [State.ses_part_own]
  cases hx : s.ses w.handle with
  | none => exact .refl _
  | some x =>
    have cls : (w.session x).cls = x.cls := rfl
    simp only [Option.map_some, cls, partnerOf_part]
    split
    · exact .refl _
    · cases s.partnerOf x with
      | none => exact .refl _
      | some p =>
        dsimp only
        rw [currentPrice_part h hx]
        generalize s.currentPrice x p = q
        have residue := settles_closeResidue q (within_self hx)
        have minimum := settles_closeMinimum q ((within_self hx).after residue)
        have fits := h.congr (rates_closeResidue w.handle q s) residue.steady.owner
        have fits' := fits.congr (rates_closeMinimum w.handle q _) minimum.steady.owner
        have step := ((closeResidue_part h q).closeMinimum w.handle q).trans (closeMinimum_part fits q)
        exact (step.closeCarry w.handle _).trans (closeCarry_part fits' _)

/-- R73: what the final rating charges does not depend on what the close wrote before it. -/
theorem finalRating_part (h : w.Fits s) :
    Alike (finalRating w.handle (s.part w)) ((finalRating w.handle s).part w) := by
  have fits := h.congr (rates_epochCutOf w.handle s) (steady_epochCutOf w.handle s).owner
  exact ((epochCutOf_part h).rateFinally w.handle).trans (rateFinally_part fits)

end

end Sys2Proof.Machine
end

section
/-! Chapters 3 and 4: the close of a session leaves what it leaves after the session's epoch cut (R50, R71, R73). -/

namespace Sys2Proof.Machine

/-! ### The parting of a close (R50 steps 1 and 2) -/

/-- R136: the binding of a session that is withdrawn. -/
def withdrawnBinding : Binding → Binding
  | .moving src _ _ => homeBinding src
  | b => b

theorem withdrawnBinding_countedOn (b : Binding) : (withdrawnBinding b).countedOn = b.countedOn := by
  cases b with
  | moving src d k => exact homeBinding_countedOn src d k
  | bound l => rfl
  | stranded => rfl

theorem withdrawnBinding_still {b : Binding} (hb : b.isMoving = false) : withdrawnBinding b = b := by
  cases b with
  | moving src d k => cases hb
  | bound l => rfl
  | stranded => rfl

/-- R50 steps 1 and 2: what the close of the session `x` open at `n` writes before its final rating. -/
def State.parting (s : State) (n : Nat) (x : Session) : Parting :=
  ⟨n, x.subscriber, x.service, withdrawnBinding x.binding, (withdraw n s).links, (withdraw n s).mig⟩

/-- R136: a withdrawal writes the session's binding, the links and the Migration Engine. -/
theorem withdraw_alike {s : State} {n : Nat} {x : Session} (hw : Table.wf s.sess.records = true)
    (hx : s.ses n = some x) :
    Alike (withdraw n s) { s with
      sess := { s.sess with records := Table.mapAt s.sess.records n (s.parting n x).session }
      links := (withdraw n s).links, mig := (withdraw n s).mig } := by
  have frame := (withdraw_withdrawn hx).frame
  have records : (withdraw n s).sess.records = Table.mapAt s.sess.records n (s.parting n x).session := by
    have moved (y : Session) (hy : (s.parting n x).session x = y) :
        Table.set s.sess.records n y = Table.mapAt s.sess.records n (s.parting n x).session := by
      rw [Table.set_eq_mapAt y hw hx]
      exact Table.mapAt_congr hw hx hy.symm
    have own : (s.parting n x).session x = { x with binding := withdrawnBinding x.binding } := rfl
    cases hm : x.binding.isMoving with
    | false =>
      rw [withdrawnBinding_still hm] at own
      rw [withdraw_still hx hm]
      exact (Table.mapAt_id _ n).symm.trans (Table.mapAt_congr hw hx own.symm)
    | true =>
      cases hb : x.binding with
      | moving src d k =>
        rw [hb] at own
        rw [← moved _ own]
        simp only [withdraw, hx, hb]
        split
        · exact congrArg Sessions.records (releaseSlot_sess ..)
        · split <;> exact congrArg Sessions.records (releaseSlot_sess ..)
      | bound l => rw [hb] at hm; cases hm
      | stranded => rw [hb] at hm; cases hm
  rw [← records]
  generalize withdraw n s = t at frame
  rw [frame]
  rfl

/-- R50 steps 1 and 2: a session withdrawn and unlisted is parted with. -/
theorem unlist_withdraw_alike {s : State} {n : Nat} {x : Session} {c : Context} (hl : Paired s) (hx : s.ses n = some x)
    (hc : s.ctx x.subscriber = some c) : Alike (unlist n (withdraw n s)) (s.part (s.parting n x)) := by
  have listed : Table.set s.subs.contexts x.subscriber { c with sessions := c.sessions.filter (· ≠ n) } =
      Table.mapAt s.subs.contexts x.subscriber (s.parting n x).context := by
    rw [Table.set_eq_mapAt _ hl.1 hc]
    exact Table.mapAt_congr hl.1 hc rfl
  rw [unlist_withdraw_eq hx hc]
  refine ((withdraw_alike hl.2.1 hx).setCtx _ _).trans (.of_eq ?_)
  simp only [State.setCtx, listed]
  rfl

/-- R136: a withdrawal writes the same links and the same Migration Engine of a state with the same seat. -/
theorem withdraw_congr {s t : State} {n : Nat} {x y : Session} (hx : s.ses n = some x) (hy : t.ses n = some y)
    (hb : y.seat = x.seat) (hl : t.links = s.links) (hm : t.mig = s.mig) :
    (withdraw n t).links = (withdraw n s).links ∧ (withdraw n t).mig = (withdraw n s).mig := by
  obtain ⟨cls, binding⟩ := Prod.mk.inj hb
  have slots (d : LinkId) (u v : State) (huv : v.links = u.links) :
      (releaseSlot d y v).links = (releaseSlot d x u).links := by
    unfold releaseSlot
    rw [cls]
    split
    · simp only [State.modLink, huv]
    · exact huv
  unfold withdraw
  rw [hx, hy]
  dsimp only
  rw [binding]
  cases x.binding with
  | bound l => exact ⟨hl, hm⟩
  | stranded => exact ⟨hl, hm⟩
  | moving src d k =>
    have same := slots d (s.setSes n { x with binding := homeBinding src })
      (t.setSes n { y with binding := homeBinding src }) hl
    simp only [releaseSlot_mig, State.setSes_mig, hm]
    cases s.mig.batch with
    | none => exact ⟨same, by simp [hm]⟩
    | some b =>
      dsimp only
      split
      · exact ⟨same, by simp [hm, State.setBatch]⟩
      · exact ⟨same, by simp [hm, State.setBatch]⟩

/-! ### The close -/

/-- R73: states that are alike, with the same previous values, are rated finally alike. -/
theorem Alike.finalRating {s t : State} (h : Alike s t) (ht : s.tariff = t.tariff) (n : Nat) :
    Alike (finalRating n s) (finalRating n t) :=
  (h.epochCutOf (congrArg Tariff.revisions ht) (congrArg Tariff.previous ht) n).rateFinally n

theorem parting_fits {s : State} {n : Nat} {x : Session} (hl : Paired s) (hx : s.ses n = some x) :
    (s.parting n x).Fits s where
  wf := hl.2.1
  owner k hk := by
    have own : s.owner n = some x.subscriber := (owner_eq_some_iff ..).2 ⟨x, hx, rfl⟩
    exact (Option.some.inj (own.symm.trans hk)).symm
  seat p hp := by
    obtain rfl : x.seat = p := Option.some.inj ((seat_of_ses hx).symm.trans hp)
    exact withdrawnBinding_countedOn x.binding
  surcharge l := by
    have kept := congrArg Link.surcharge ((withdraw_withdrawn hx).link l)
    exact kept

/-- R50 steps 1 to 3: a session is rated finally as it was before the close parted with it. -/
theorem closeRated_alike {s : State} {n : Nat} {x : Session} {c : Context} (hl : Paired s) (hx : s.ses n = some x)
    (hc : s.ctx x.subscriber = some c) : Alike (closeRated n s) ((finalRating n s).part (s.parting n x)) := by
  have tariff : (unlist n (withdraw n s)).tariff = s.tariff := by
    rw [unlist_withdraw_eq hx hc, (withdraw_withdrawn hx).frame]; rfl
  exact ((unlist_withdraw_alike hl hx hc).finalRating tariff n).trans (finalRating_part (parting_fits hl hx))

theorem Alike.uncount {s t : State} (h : Alike s t) (n : Nat) : Alike (uncount n s) (uncount n t) := by
  have lose (x : Session) : Alike (loseCount x s) (loseCount x t) := by
    unfold loseCount
    cases x.binding.countedOn with
    | none => exact h.modStranded _
    | some l => exact h.modLink l _
  unfold Machine.uncount
  rw [h.ses]
  cases t.ses n with
  | none => exact h
  | some x =>
    dsimp only
    split
    · unfold loseUse
      rw [(lose x).partnerEntry]
      cases (loseCount x t).partnerEntry x with
      | none => exact lose x
      | some e => exact ((lose x).setPar _ _).modPlanUse _ _
    · exact lose x

/-- R50 steps 4 and 6: a session leaves its counts, and its record is free: the record itself counts no more. -/
theorem uncount_freeSession {s : State} {n : Nat} {x : Session} (hx : s.ses n = some x) :
    (uncount n s).freeSession n =
      if x.nonEmergency then loseUse x (loseCount x (s.freeSession n)) else loseCount x (s.freeSession n) := by
  have lose : (loseCount x s).freeSession n = loseCount x (s.freeSession n) := by
    unfold loseCount
    cases x.binding.countedOn <;> rfl
  simp only [uncount, hx]
  split
  · rw [← lose]
    have entry : ((loseCount x s).freeSession n).partnerEntry x = (loseCount x s).partnerEntry x := rfl
    unfold loseUse
    rw [entry]
    cases (loseCount x s).partnerEntry x <;> rfl
  · exact lose

/-- R50 steps 4 and 6: the service state that the record had does not outlive it. -/
theorem uncount_freeSession_part (w : Parting) (v : Service) (s : State) :
    (uncount w.handle (s.part w)).freeSession w.handle =
      (uncount w.handle (s.part { w with service := v })).freeSession w.handle := by
  have free : (s.part w).freeSession w.handle = (s.part { w with service := v }).freeSession w.handle := by
    simp only [State.freeSession, State.part, Table.erase_mapAt]
    rfl
  have own := s.ses_part_own w
  have own' := s.ses_part_own { w with service := v }
  cases hx : s.ses w.handle with
  | none =>
    rw [hx] at own own'
    simp only [uncount, own, show (s.part { w with service := v }).ses w.handle = none from own', Option.map_none]
    exact free
  | some x =>
    rw [hx] at own own'
    rw [uncount_freeSession own, uncount_freeSession (n := w.handle) own', free]
    rfl

/-- R50, R71, R73: a close leaves what it leaves after the epoch cut of its session. -/
theorem closeSession_after_cut {s t : State} {n : Nat} {x : Session} (hl : Paired s) (hd : s.epochsDiffer)
    (hx : s.ses n = some x) (ht : Same (epochCutOf n s) t) :
    Alike (closeSession n .radio s) (closeSession n .radio t) := by
  have rates := rates_epochCutOf n s
  have steady := steady_epochCutOf n s
  have cut := isCut_epochCutOf hd n
  have rated := finalRating_eq n s
  have paired := steady.paired hl
  generalize epochCutOf n s = a at *
  have ses (m : Nat) : t.ses m = a.ses m := (ht.alike.ses m).symm
  have ctx (k : Nat) : t.ctx k = a.ctx k := (ht.alike.ctx k).symm
  have pairedT : Paired t := by rw [show t = _ from ht.symm]; exact paired
  have cutT : t.isCut n := cut.congr (congrArg _ (ses n)) fun prev hprev => by rwa [show t = _ from ht.symm] at hprev
  have final : Alike (finalRating n s) (finalRating n t) := by
    rw [rated, finalRating_eq, epochCutOf_isCut cutT]
    exact ht.alike.rateFinally n
  obtain ⟨y, hy, hyk⟩ : ∃ y, a.ses n = some y ∧ y.subscriber = x.subscriber := by
    rw [← owner_eq_some_iff, steady.owner]
    exact (owner_eq_some_iff ..).2 ⟨x, hx, rfl⟩
  have seat : y.seat = x.seat := by
    have same := rates.seat n
    rw [seat_of_ses hy, seat_of_ses hx] at same
    exact Option.some.inj same
  have binding : y.binding = x.binding := (Prod.mk.inj seat).2
  obtain ⟨pr, ns, listing, -⟩ := hl.2.2.2 n x.subscriber ((owner_eq_some_iff ..).2 ⟨x, hx, rfl⟩)
  obtain ⟨c, hc, -, -⟩ := (listing_eq_some_iff ..).1 listing
  obtain ⟨d, hdc, -, -⟩ := (listing_eq_some_iff ..).1 ((steady.listing _).trans listing)
  obtain ⟨links, mig⟩ := withdraw_congr hx ((ses n).trans hy) seat
    (by rw [show t = _ from ht.symm, rates.frame]) (by rw [show t = _ from ht.symm, rates.frame])
  have parting : t.parting n y = { s.parting n x with service := y.service } := by
    simp only [State.parting, links, mig, hyk, binding]
  have before := (closeRated_alike hl hx hc).trans (final.part _)
  have after := closeRated_alike pairedT ((ses n).trans hy) ((ctx _).trans (hyk ▸ hdc))
  rw [parting] at after
  rw [closeSession_radio, closeSession_radio]
  refine ((before.uncount n).freeSession n).trans (.trans ?_ ((after.uncount n).freeSession n).symm)
  exact .of_eq (uncount_freeSession_part (s.parting n x) y.service (finalRating n t))

end Sys2Proof.Machine
end

section
/-! Chapter 4: an event that reaches a session makes its epoch cut first, wherever the cut pass stands (R71 to R73,
R80). -/

namespace Sys2Proof.Machine

/-! ### What SESSION_CLOSE and an ACCEPT write -/

theorem closeWrites_uncount (n : Nat) (s : State) : CloseWrites s (uncount n s) := by
  have lose (x : Session) : CloseWrites s (loseCount x s) := by
    unfold loseCount
    split <;> rfl
  unfold uncount
  split
  · rfl
  · next x _ =>
    split
    · refine (lose x).trans ?_
      unfold loseUse
      split <;> rfl
    · exact lose x

theorem closeWrites_closeSession {n : Nat} {s : State} {x : Session} (hx : s.ses n = some x) :
    CloseWrites s (closeSession n .radio s) := by
  rw [closeSession_radio]
  have freed : CloseWrites (uncount n (closeRated n s)) ((uncount n (closeRated n s)).freeSession n) := rfl
  exact (closeRated_writes hx).trans ((closeWrites_uncount ..).trans freed)

theorem closeWrites_acceptOne (b : Batch) (n : Nat) (s : State) : CloseWrites s (acceptOne b n s) := by
  refine (rates_bindingCutOf n s).writes.trans ?_
  unfold acceptOne
  dsimp only
  split
  · rfl
  · unfold loseFrom releaseSlot
    split <;> split <;> rfl

theorem closeWrites_acceptBatch (b : Batch) (s : State) : CloseWrites s (acceptBatch b s) := by
  have accepted : CloseWrites s (b.sessions.foldl (fun s n => acceptOne b n s) s) := by
    generalize b.sessions = ns
    induction ns generalizing s with
    | nil => rfl
    | cons n ns ih => exact (closeWrites_acceptOne b n s).trans (ih _)
  refine accepted.trans ?_
  unfold acceptBatch addMoved
  split <;> rfl

/-! ### An ACCEPT of states that are alike (R72, R132) -/

section
variable {s t : State} (h : Alike s t)
include h

theorem Alike.bindingCutOf (ht : s.tariff = t.tariff) (n : Nat) : Alike (bindingCutOf n s) (bindingCutOf n t) := by
  have cut := h.epochCutOf (congrArg Tariff.revisions ht) (congrArg Tariff.previous ht) n
  unfold Machine.bindingCutOf
  dsimp only
  rw [cut.ses]
  cases (Machine.epochCutOf n t).ses n with
  | none => exact cut
  | some x =>
    dsimp only
    rw [cut.partnerOf]
    cases (Machine.epochCutOf n t).partnerOf x with
    | none => exact cut
    | some p =>
      dsimp only
      rw [cut.currentPrice]
      exact cut.cutAt n _

theorem Alike.acceptOne (ht : s.tariff = t.tariff) (b : Batch) (n : Nat) :
    Alike (acceptOne b n s) (acceptOne b n t) := by
  have cut := h.bindingCutOf ht n
  unfold Machine.acceptOne
  dsimp only
  rw [cut.ses]
  cases (Machine.bindingCutOf n t).ses n with
  | none => exact cut
  | some x =>
    have rebound := cut.setSes n { x with binding := .bound b.dest }
    have lost : Alike (loseFrom b.source x ((Machine.bindingCutOf n s).setSes n { x with binding := .bound b.dest }))
        (loseFrom b.source x ((Machine.bindingCutOf n t).setSes n { x with binding := .bound b.dest })) := by
      unfold loseFrom
      cases b.source with
      | link l => exact rebound.modLink l _
      | rescue => exact rebound.modStranded _
    refine Alike.modLink ?_ b.dest _
    unfold releaseSlot
    split
    · exact lost.modLink b.dest _
    · exact lost

theorem Alike.addMoved (k : Nat) : Alike (addMoved k s) (addMoved k t) := by
  unfold Machine.addMoved
  rw [h.mig]
  cases t.mig.queue with
  | nil => exact h
  | cons o rest => exact h.setQueue _

end

/-- R71, R72: a binding cut begins with the epoch cut. -/
theorem acceptOne_after_cut {s : State} (hd : s.epochsDiffer) (b : Batch) (n : Nat) :
    acceptOne b n (epochCutOf n s) = acceptOne b n s := by
  have again := epochCutOf_isCut (isCut_epochCutOf hd n)
  simp only [acceptOne, bindingCutOf, again]

/-- R72, R132: an ACCEPT of a batch of one session leaves what it leaves after the epoch cut of that session. -/
theorem acceptBatch_after_cut {s t : State} {n : Nat} {b : Batch} (hd : s.epochsDiffer) (hb : b.sessions = [n])
    (ht : Same (epochCutOf n s) t) : Alike (acceptBatch b s) (acceptBatch b t) := by
  have tariff : (epochCutOf n s).tariff = t.tariff := by rw [show t = _ from ht.symm]
  have accepted := ht.alike.acceptOne tariff b n
  rw [acceptOne_after_cut hd] at accepted
  simp only [acceptBatch, hb, List.foldl_cons, List.foldl_nil]
  exact (accepted.addMoved _).setBatch none

/-! ### The epoch cut that the visit makes (R80) -/

theorem Sent.of_same {t u : State} (h : Same t u) (raised : u.raised = [])
    (port : u.port = { t.port with transmit := u.port.transmit }) : Sent t u := by
  unfold Sent
  rw [← port, ← raised]
  exact h.symm

/-- R79: a visit of the pass to a handle, but for what the pass itself goes by, leaves the epoch cut of that handle. -/
theorem cutPassVisit_cuts (s : State) (n : Nat) :
    ∃ a, exec .cutPassVisit { s with cutPos := some n } = .next a ∧
      Sent (epochCutOf n s) { a with
        cutPos := s.cutPos, zone := s.zone
        tariff := { a.tariff with revisions := s.tariff.revisions, previous := s.tariff.previous } } := by
  obtain ⟨a, run, sent⟩ := cutPassVisit_sent (s := { s with cutPos := some n }) rfl
  have placed : Alike { s with cutPos := some n } s := rfl
  have cut := placed.epochCutOf rfl rfl n
  have frame := (rates_epochCutOf n { s with cutPos := some n }).frame
  have frame' := (rates_epochCutOf n s).frame
  generalize epochCutOf n { s with cutPos := some n } = e' at *
  generalize epochCutOf n s = e at *
  have port : a.port = { e.port with transmit := a.port.transmit } := by
    rw [sent, State.visited_port, frame, frame']
  have visited : Alike e a := cut.symm.trans ((alike_visited ..).symm.trans sent.alike)
  have restored := visited.write fun u => { u with
    cutPos := s.cutPos, zone := s.zone
    tariff := { u.tariff with revisions := s.tariff.revisions, previous := s.tariff.previous } }
  have kept : e = { e with
      cutPos := s.cutPos, zone := s.zone
      tariff := { e.tariff with revisions := s.tariff.revisions, previous := s.tariff.previous } } := by rw [frame']
  refine ⟨a, run, .of_same (Alike.same ((Alike.of_eq kept).trans restored) ?_ ?_ ?_ ?_) (by rw [sent]) port⟩
  all_goals rw [frame']

/-- Writes made of a state and of the state after its epoch cut. -/
theorem CloseWrites.between {s t u : State} (h₁ : CloseWrites s t) (h₂ : CloseWrites s u) : CloseWrites t u := by
  unfold CloseWrites
  rw [show t = _ from h₁]
  exact h₂

/-- R80: a request that writes what a close may write, and does the same after the epoch cut of a session, leaves the
same state but for the port. -/
theorem request_after_cut {s cut : State} {n : Nat} {h : Header} {k : Kind} {r : Role} (handle : Handler) (hr : s.ready)
    (hh : s.hears h k r) (hp : permits k r = true) (hc : Sent (epochCutOf n s) cut)
    (writes : CloseWrites s (handle ⟨h.client, r⟩ s).state)
    (writes' : CloseWrites cut (handle ⟨h.client, r⟩ cut).state)
    (alike : Alike (handle ⟨h.client, r⟩ s).state (handle ⟨h.client, r⟩ cut).state) :
    request h k handle cut = { request h k handle s with port := (request h k handle cut).port } := by
  have before := (rates_epochCutOf n s).writes
  have same := hc.same.of_alike (before.between writes) writes' alike
  exact same.symm.sent (request_sent handle (hc.ready before.port hr) (hc.hears before.port before.time hh) hp)
    (request_sent handle hr hh hp)

/-- Settles O36: whichever of a USAGE entry and the visit comes second finds the session cut; and each of the three
events makes the epoch cut itself, so that one made before it changes nothing but the port. -/
theorem usageAndCutPassCommute : Obligations.UsageAndCutPassCommute := by
  refine ⟨fun h e s hr hh hl hn hc hd => usage_visit_commute hr hh hl hn hc hd,
    fun n x s hr hn hx hd _ listed => ?_⟩
  obtain ⟨a, run, hc⟩ := cutPassVisit_cuts s n
  refine ⟨a, run, ?_⟩
  intro cut cutsFirst
  have paired := ((listed_iff s).1 listed).1
  have same : Same (epochCutOf n s) cut := hc.same
  have isCut : cut.isCut n := (isCut_epochCutOf hd n).congr (congrArg _ (same.alike.ses n).symm) fun prev hprev => by
    rwa [show cut = _ from same.symm] at hprev
  refine ⟨fun h e hh hl he => ?usage, fun h hh => ?close, fun h b hh hb hs => ?accept⟩
  case usage =>
    obtain rfl : e.session = n := he
    have resolved (t : State) : (usageAnswer h 1 [e] ⟨h.client, .meter⟩ t).state = (resolveEntry e t).1 := by
      rw [usageAnswer_single e _ t hl]
    refine ⟨_, _, rfl, rfl, request_after_cut (usageAnswer h 1 [e]) hr hh rfl hc ?_ ?_ ?_⟩
    · rw [resolved]; exact closeWrites_resolveEntry e s
    · rw [resolved]; exact closeWrites_resolveEntry e cut
    · rw [resolved, resolved, resolveEntry_state hn, resolveEntry_state hn, epochCutOf_isCut isCut]
      exact same.alike.rateOpen e
  case close =>
    obtain ⟨y, hy, own⟩ : ∃ y, cut.ses n = some y ∧ y.subscriber = x.subscriber := by
      rw [← same.alike.ses, ← owner_eq_some_iff, (steady_epochCutOf n s).owner]
      exact (owner_eq_some_iff ..).2 ⟨x, hx, rfl⟩
    have closed {t : State} {z : Session} (hz : t.ses n = some z) (hzk : z.subscriber = x.subscriber) :
        (sessionCloseAnswer n x.subscriber ⟨h.client, .radio⟩ t).state = closeSession n .radio t := by
      have found : (t.openAt n).filter (fun y => y.subscriber == x.subscriber) = some z := by
        rw [openAt_eq hn, hz, Option.filter_some_pos (by simp [hzk])]
      simp only [sessionCloseAnswer, found]
    refine ⟨_, _, rfl, rfl, request_after_cut (sessionCloseAnswer n x.subscriber) hr hh rfl hc ?_ ?_ ?_⟩
    · rw [closed hx rfl]; exact closeWrites_closeSession hx
    · rw [closed hy own]; exact closeWrites_closeSession hy
    · rw [closed hx rfl, closed hy own]
      exact closeSession_after_cut paired hd hx same
  case accept =>
    have hbt : cut.mig.batch = some b := by rw [← same.alike.mig, (rates_epochCutOf n s).mig, hb]
    have accepted {t : State} (ht : t.mig.batch = some b) :
        (batchAnswerAnswer b.number (some .accept) ⟨h.client, .router⟩ t).state = acceptBatch b t := by
      have found : t.mig.batch.filter (fun c => c.number == b.number) = some b := by
        rw [ht, Option.filter_some_pos (by simp)]
      simp only [batchAnswerAnswer, found, answerBatch]
    refine ⟨_, _, rfl, rfl, request_after_cut (batchAnswerAnswer b.number (some .accept)) hr hh rfl hc ?_ ?_ ?_⟩
    · rw [accepted hb]; exact closeWrites_acceptBatch b s
    · rw [accepted hbt]; exact closeWrites_acceptBatch b cut
    · rw [accepted hb, accepted hbt]
      exact acceptBatch_after_cut hd hs same

end Sys2Proof.Machine
end

section
/-! Chapter 5, first part: READ_PARTNER in both forms, and the settlement of a partner. -/

namespace Sys2Proof.Machine

/-! ### The fields of a partner (R96, R98, R100) -/

/-- R98: the revision list holds an entry for a partner when the partner is one of its targets. -/
theorem hasPartnerEntry_iff_targets (s : State) (i : Nat) :
    s.hasPartnerEntry i = true ↔ Revision.targetsPartner i s.tariff.revisions := by
  refine (hasPartnerEntry_iff s i).trans (Iff.trans ?_ List.mem_map.symm)
  constructor
  · rintro ⟨q, a, o, hr⟩
    exact ⟨_, hr, rfl⟩
  · rintro ⟨r, hr, target⟩
    cases r with
    | cell j v o => cases target
    | partner j q a o => cases target; exact ⟨q, a, o, hr⟩

/-- R96: an open total stands at its exposure limit when there is a limit and it is reached. -/
theorem atLimit_iff (p : Partner) : p.atLimit = true ↔ p.exposure ≠ 0 ∧ p.exposure ≤ p.openTotal := by
  simp [Partner.atLimit]

/-- R100 step 2: 1 follows 65,535. -/
theorem nextSettle_eq (k : Nat) : nextSettle k = if k < 65535 then k + 1 else 1 := by
  simp only [nextSettle, ← Nat.not_lt, ite_not]

/-! ### READ_PARTNER of the SINGLE form, and the settlement (R98, R100) -/

/-- R98: a READ_PARTNER of no form, or of a code above the largest. -/
theorem readPartnerAnswer_badValue {code : Option Nat} (who : Sender) (s : State) (h : ∀ k, code = some k → 99999 < k) :
    readPartnerAnswer code who s = refuse .badValue s := by
  cases code with
  | none => rfl
  | some k => exact if_pos (h k rfl)

theorem readPartnerAnswer_unheld {code : Nat} (who : Sender) {s : State} (hk : code ≤ 99999)
    (hn : s.partnerByCode code = none) : readPartnerAnswer (some code) who s = refuse .unknownPartner s := by
  simp only [readPartnerAnswer, codeMax, if_neg (Nat.not_lt.2 hk), hn]

theorem readPartnerAnswer_held {code i : Nat} {p : Partner} (who : Sender) {s : State} (hk : code ≤ 99999)
    (hp : s.partnerByCode code = some (i, p)) : readPartnerAnswer (some code) who s = ⟨.ok, fPartner i p s, s⟩ := by
  simp only [readPartnerAnswer, codeMax, if_neg (Nat.not_lt.2 hk), hp]

/-- R100: PURSER settles a partner that holds the code. -/
theorem settlementAnswer_held {code i num : Nat} {p : Partner} {s : State} (hk : code ≤ 99999)
    (hp : s.partnerByCode code = some (i, p)) :
    settlementAnswer code ⟨num, .purser⟩ s =
      ⟨.ok, fPartner i (p.recordSettlement s.now) s, s.setPar i (p.recordSettlement s.now).zeroClosed⟩ := by
  simp only [settlementAnswer, codeMax, if_neg (Nat.not_lt.2 hk), hp, ne_eq, not_true_eq_false, if_false]

/-- Settles O22: both answers list the partner as the manual does; the settlement lists it with the record made. -/
theorem readPartnerAndSettlement : Obligations.ReadPartnerAndSettlement := by
  intro h code i p r s hr hh hk hp deadline flag money fields number record
  have listed (n : Nat) (z : Option Settlement) :
      fPartner i { p with settleNumber := n, settled := z } s = fields n z := by
    have atDeadline : ({ p with settleNumber := n, settled := z } : Partner).barDeadline = deadline := barDeadline_eq _
    have entry : fFlag (s.hasPartnerEntry i) = flag (Revision.targetsPartner i s.tariff.revisions) :=
      fFlag_of_iff (hasPartnerEntry_iff_targets s i)
    have limit : fFlag ({ p with settleNumber := n, settled := z } : Partner).atLimit
        = flag (p.exposure ≠ 0 ∧ p.exposure ≤ p.openTotal) := fFlag_of_iff (atLimit_iff p)
    rw [fPartner, atDeadline, entry, limit]
    cases z <;> simp only [fields, flag, money, fOpt64, fSettlement, fFlag_eq] <;> rfl
  have recorded : p.recordSettlement s.now = { p with settleNumber := number, settled := some record } := by
    rw [Partner.recordSettlement, nextSettle_eq]
    rfl
  refine ⟨?single, fun role => ?settled, fun role => ?other⟩
  case single =>
    rw [← listed]
    exact request_answers hr hh rfl (readPartnerAnswer_held _ hk hp) hr.1 hr.2 rfl
  case settled =>
    subst role
    rw [← listed]
    refine request_answers hr hh rfl ((settlementAnswer_held hk hp).trans ?_) hr.1 hr.2 rfl
    rw [recorded]
    rfl
  case other => exact request_refuses hr hh rfl (if_pos role)

/-! ### READ_PARTNER of the LIST form (R99) -/

/-- R99: a LIST with the settle option, or from a code above the largest. -/
theorem readPartnerListAnswer_badValue {start : Nat} {settle : Bool} (who : Sender) (s : State)
    (h : 99999 < start ∨ settle = true) : readPartnerListAnswer start settle who s = refuse .badValue s :=
  if_pos (by rw [Bool.or_eq_true, decide_eq_true_eq]; exact h)

/-- R99: a walk whose codes split into those that go into the response and the rest. -/
theorem readPartnerListAnswer_walk {start : Nat} (who : Sender) (s : State) (hk : start ≤ 99999) :
    let walk := s.tariff.codes.filter fun c => start ≤ c
    readPartnerListAnswer start false who s = ⟨.ok, (walk.take 16).flatMap (fListed s)
      ++ [.u16 s.tariff.partners.length, .u8 (if walk.drop 16 = [] then 0 else 1), .u32 ((walk.drop 16).head?.getD 0)],
      s⟩ := by
  intro walk
  have inRange : ¬ (decide (codeMax < start) || false) = true := by
    rw [Bool.or_false, decide_eq_true_eq]
    exact Nat.not_lt.2 hk
  have more : fFlag (walk.drop 16).head?.isSome = .u8 (if walk.drop 16 = [] then 0 else 1) := by
    cases walk.drop 16 <;> rfl
  rw [← more]
  exact if_neg inRange

/-- Settles O23: the walk splits at the sixteenth partner. -/
theorem readPartnerListWalk : Obligations.ReadPartnerListWalk := by
  intro h start r s hr hh
  have refuses {code : Option Nat} {result : Result} (ha : readPartnerAnswer code ⟨h.client, r⟩ s = refuse result s) :
      exec (.readPartner h code) s = refused h .readPartner result s := request_refuses hr hh rfl ha
  have refusesList {code : Nat} {settle : Bool} (hb : 99999 < code ∨ settle = true) :
      exec (.readPartnerList h code settle) s = refused h .readPartner .badValue s :=
    request_refuses hr hh rfl (readPartnerListAnswer_badValue _ s hb)
  refine ⟨fun hk => ?walk, refusesList (.inr rfl), refuses rfl, fun code => ⟨fun hk => ⟨refusesList (.inl hk), ?_⟩, ?_⟩⟩
  case walk =>
    refine ⟨_, _, (List.take_append_drop 16 _).symm, List.length_take_le _ _, fun more => ?full, ?_⟩
    case full =>
      rw [List.length_take, Nat.min_eq_left]
      exact Nat.le_of_lt (Nat.lt_of_not_le fun short => more (List.drop_eq_nil_iff.2 short))
    · exact request_answers hr hh rfl (readPartnerListAnswer_walk _ s hk) hr.1 hr.2 rfl
  · exact refuses (readPartnerAnswer_badValue _ s fun k e => Option.some.inj e ▸ hk)
  · exact fun hk hn => refuses (readPartnerAnswer_unheld _ hk (partnerByCode_unheld hn))

end Sys2Proof.Machine
end

section
/-! Chapter 5, second part: what a grant does to its context and its sessions, and when it is taken or refused. -/

namespace Sys2Proof.Machine

/-! ### What a grant adds (R91) -/

/-- A context just written is written anew. -/
theorem State.setCtx_setCtx (s : State) (k : Nat) (c d : Context) : (s.setCtx k c).setCtx k d = s.setCtx k d := by
  simp only [State.setCtx, Table.set_set]

/-- R91: a context whose granted credit becomes `g`: it is FUNDED when that passes what is consumed. -/
def Context.fundedTo (c : Context) (g : Nat) : Context :=
  { c with granted := g, credit := if c.consumed < g then .funded else c.credit }

/-- R91: granted credit `g` ends the exhaustion of a context. -/
abbrev Context.wakesAt (c : Context) (g : Nat) : Prop := c.credit = .exhausted ∧ c.consumed < g

/-- R91: the UNBLOCKED notice of a grant that ends an exhaustion. -/
def State.wakeNotice (s : State) (k : Nat) (c : Context) (g : Nat) : List Notice :=
  if c.wakesAt g then [.unblocked k c.ref g c.consumed (s.toUnblock c)] else []

/-- R91: the state after granted credit `g`: the context is written, and the sessions of one that was EXHAUSTED wake. -/
def State.credited (s : State) (k : Nat) (c : Context) (g : Nat) : State :=
  setService .active (if c.wakesAt g then s.toUnblock c else []) (s.setCtx k (c.fundedTo g))

theorem credited_of_not_wakes {s : State} {k g : Nat} {c : Context} (h : ¬ c.wakesAt g) :
    s.credited k c g = s.setCtx k (c.fundedTo g) := by
  rw [State.credited, if_neg h]
  rfl

/-- R91: adding to the granted credit of a context. -/
theorem addGrant_eq {s : State} {k amount g : Nat} {c : Context} (hc : s.ctx k = some c)
    (hg : min (c.granted + amount) moneyMax = g) :
    addGrant k amount s = { s.credited k c g with raised := s.raised ++ s.wakeNotice k c g } := by
  simp only [addGrant, hc, hg]
  by_cases wakes : c.wakesAt g
  · obtain ⟨spent, passes⟩ := id wakes
    rw [State.credited, State.wakeNotice, if_pos wakes, if_pos wakes, Context.fundedTo, if_pos passes, if_pos passes,
      if_pos spent, setService_records]
    rfl
  · rw [credited_of_not_wakes wakes, State.wakeNotice, if_neg wakes, List.append_nil, Context.fundedTo]
    by_cases passes : c.consumed < g
    · rw [if_pos passes, if_pos passes, if_neg fun spent => wakes ⟨spent, passes⟩]
      rfl
    · rw [if_neg passes, if_neg passes]
      rfl

/-- R91: adding to the granted credit of a context just written. -/
theorem addGrant_setCtx {k amount g : Nat} {c : Context} (s : State) (hg : min (c.granted + amount) moneyMax = g) :
    addGrant k amount (s.setCtx k c) = { s.credited k c g with raised := s.raised ++ s.wakeNotice k c g } := by
  rw [addGrant_eq (s.ctx_setCtx k c) hg, State.credited, State.setCtx_setCtx]
  rfl

/-- R91: a grant writes the context and the session records, and nothing else. -/
theorem credited_records (s : State) (k : Nat) (c : Context) (g : Nat) :
    s.credited k c g = { s with
      sess := { s.sess with records := (s.credited k c g).sess.records }
      subs := { s.subs with contexts := Table.set s.subs.contexts k (c.fundedTo g) } } :=
  setService_records ..

theorem credited_ctx (s : State) (k : Nat) (c : Context) (g : Nat) : (s.credited k c g).ctx k = some (c.fundedTo g) := by
  rw [credited_records]
  exact Table.get_set_same ..

/-- R91: the sessions to unblock are the BLOCKED ones of the list. -/
theorem mem_toUnblock_iff {s : State} {c : Context} {m : Nat} {x : Session} (hx : s.ses m = some x) :
    m ∈ s.toUnblock c ↔ m ∈ c.sessions ∧ x.service = .blocked := by
  simp [State.toUnblock, hx]

/-- R91: the BLOCKED sessions of a context that wakes are ACTIVE after the grant; the others are as they were. -/
theorem credited_ses (s : State) (k : Nat) (c : Context) (g m : Nat) :
    (s.credited k c g).ses m = (s.ses m).map fun x =>
      if c.wakesAt g ∧ m ∈ c.sessions ∧ x.service = .blocked then { x with service := .active } else x := by
  rw [State.credited, setService_ses, State.ses_setCtx]
  cases hx : s.ses m with
  | none => exact ite_self _
  | some x =>
    by_cases wakes : c.wakesAt g
    · simp only [if_pos wakes, mem_toUnblock_iff hx, and_iff_right wakes, Option.map_some, apply_ite some]
    · simp [wakes]

/-! ### The context a grant answers (R89, R90) -/

/-- R89, R90: a context whose ask `n` is answered; an unsolicited grant, numbered 0, leaves its ask. -/
def Context.answering (c : Context) (n : Nat) (denied : Bool) : Context :=
  { c with denied := denied, ask := if n = 0 then c.ask else none }

/-- R89, R90: the state after a grant: one of 0 denies the ask it answers, any other adds to the granted credit. -/
def State.granting (s : State) (k n amount : Nat) (c : Context) : State :=
  if amount = 0 then s.setCtx k (c.answering n (decide (n ≠ 0))) else addGrant k amount (s.setCtx k (c.answering n false))

theorem unsolicitedGrant_eq (k amount : Nat) (c : Context) (s : State) :
    unsolicitedGrant k c amount s = s.granting k 0 amount c := rfl

theorem matchedGrant_eq {n : Nat} (k amount : Nat) (c : Context) (s : State) (hn : n ≠ 0) :
    matchedGrant k c amount s = s.granting k n amount c := by
  have answered (denied : Bool) : c.answerAsk denied = c.answering n denied := by
    rw [Context.answering, if_neg hn]
    rfl
  rw [matchedGrant, answered, answered, State.granting, decide_eq_true hn]

/-- R89: an ask number answers the outstanding ask of a context when that ask has it. -/
theorem asks_iff (c : Context) (n : Nat) : c.asks n = true ↔ ∃ d, c.ask = some ⟨n, d⟩ := by
  rw [Context.asks, Option.any_eq_true]
  constructor
  · rintro ⟨⟨number, d⟩, ha, same⟩
    obtain rfl : number = n := by simpa using same
    exact ⟨d, ha⟩
  · rintro ⟨d, ha⟩
    exact ⟨_, ha, beq_self_eq_true n⟩

/-- R88: the fields of the response, from the context as the grant leaves it. -/
theorem fGranted_eq {k identity n : Nat} {c a : Context} {s : State} (ha : s.ctx k = some a) :
    fGranted k identity n c s = [.u16 k, .u64 identity, .u8 n, .u64 (a.granted - c.granted), .u64 a.granted,
      .u64 a.consumed, .u64 (a.granted - a.consumed), .u8 a.credit.code, .u8 (if a.denied then 1 else 0)] := by
  rw [fGranted, ha, ← fFlag_eq]
  rfl

/-! ### The checks of GRANT (R88) -/

theorem permits_grant {r : Role} (hr : r = .purser ∨ r = .gateway) : permits .grant r = true := by
  obtain rfl | rfl := hr <;> rfl

theorem grantAnswer_unknown {k : Nat} (identity n amount : Nat) (who : Sender) (s : State) (hk : 4071 < k) :
    grantAnswer k identity n amount who s = refuse .unknownHandle s := if_pos hk

/-- R88: a value out of range, or an ask number from PURSER. -/
theorem grantAnswer_badValue {k identity n amount : Nat} {who : Sender} (s : State) (hk : k ≤ 4071)
    (bad : 1000000000000000 ≤ identity ∨ 999999999999 < amount ∨ (who.role = .purser ∧ n ≠ 0)) :
    grantAnswer k identity n amount who s = refuse .badValue s := by
  have inTable : ¬ slotCount ≤ k := Nat.not_le.2 (Nat.lt_succ_of_le hk)
  rw [grantAnswer, if_neg inTable]
  by_cases range : (decide (identityEnd ≤ identity) || decide (moneyMax < amount)) = true
  · exact if_pos range
  · rw [if_neg range]
    rw [Bool.or_eq_true, decide_eq_true_eq, decide_eq_true_eq, not_or] at range
    obtain ⟨role, hn⟩ := (bad.resolve_left range.1).resolve_left range.2
    exact if_pos (by simp [role, hn])

/-- R88: the checks that stay when the values are in range. -/
theorem grantAnswer_inRange {k identity n amount : Nat} {who : Sender} (s : State) (hk : k ≤ 4071)
    (hi : identity < 1000000000000000) (ha : amount ≤ 999999999999) (hn : who.role = .gateway ∨ n = 0) :
    grantAnswer k identity n amount who s = match s.slotOf k identity with
      | none => refuse .late s
      | some c =>
        if who.role == .gateway && (s.par c.partner).any (fun p => p.kind == .shipPlan) then refuse .notPermitted s
        else if n = 0 ∨ c.asks n = true then grantGive k identity n amount c (s.granting k n amount c)
        else refuse .late s := by
  have inTable : ¬ slotCount ≤ k := Nat.not_le.2 (Nat.lt_succ_of_le hk)
  have range : ¬ (decide (identityEnd ≤ identity) || decide (moneyMax < amount)) = true := by
    rw [Bool.or_eq_true, decide_eq_true_eq, decide_eq_true_eq]
    exact not_or.2 ⟨Nat.not_le.2 hi, Nat.not_lt.2 ha⟩
  have allowed : ¬ (who.role == .purser && n != 0) = true := by
    obtain role | rfl := hn
    · simp [role]
    · simp
  rw [grantAnswer, if_neg inTable, if_neg range, if_neg allowed]
  cases s.slotOf k identity with
  | none => rfl
  | some c =>
    by_cases h0 : n = 0
    · subst h0
      simp only [if_true, true_or, unsolicitedGrant_eq]
    · simp only [h0, if_false, false_or, matchedGrant_eq k amount c s h0]
      cases c.asks n <;> rfl

/-- R88: a grant that is taken: GATEWAY's to a HOME_ROAMING context, or PURSER's, unsolicited or answering the ask. -/
theorem grantAnswer_taken {k n amount : Nat} {who : Sender} {s : State} {c : Context} {p : Partner} (hk : k ≤ 4071)
    (hc : s.ctx k = some c) (hi : c.identity < 1000000000000000) (ha : amount ≤ 999999999999)
    (hp : s.par c.partner = some p)
    (hw : (who.role = .gateway ∧ p.kind = .homeRoaming) ∨ (who.role = .purser ∧ n = 0))
    (hn : n = 0 ∨ ∃ d, c.ask = some ⟨n, d⟩) :
    grantAnswer k c.identity n amount who s = grantGive k c.identity n amount c (s.granting k n amount c) := by
  have permitted : ¬ (who.role == .gateway && (s.par c.partner).any (fun p => p.kind == .shipPlan)) = true := by
    obtain ⟨role, kind⟩ | ⟨role, -⟩ := hw
    · simp [hp, kind]
    · simp [role]
  rw [grantAnswer_inRange s hk hi ha (hw.imp And.left And.right), slotOf_eq hk hc]
  exact (if_neg permitted).trans (if_pos (hn.imp_right (asks_iff c n).2))

/-! ### GRANT (R88 to R91) -/

/-- R91: the notice of a wake goes to RADIO alone. -/
theorem toGateway_wakeNotice (s : State) (k : Nat) (c : Context) (g : Nat) :
    ∀ m ∈ s.wakeNotice k c g, m.toGateway = false := by
  intro m hm
  simp only [State.wakeNotice, List.mem_ite_nil_right, List.mem_singleton] at hm
  rw [hm.2]
  rfl

/-- R88, R91: the result tells whether the grant was clamped. -/
theorem clampsGrant_result (c : Context) (amount : Nat) :
    (if c.clampsGrant amount then Result.okClamped else .ok) =
      if 999999999999 < c.granted + amount then .okClamped else .ok :=
  if_congr decide_eq_true_iff rfl rfl

/-- Settles O29: an amount above 0 is added to the context whose ask is answered. -/
theorem grantAddsCredit : Obligations.GrantAddsCredit := by
  intro h k n amount r c p s hr hh hk hc hi pos ha hp hw hn _ g credit wakes woken
  have role : r = .purser ∨ r = .gateway := hw.symm.imp And.left And.left
  have granted : s.granting k n amount c = { s.credited k (c.answering n false) g with
      raised := s.wakeNotice k (c.answering n false) g } := by
    rw [State.granting, if_neg (Nat.ne_of_gt pos), addGrant_setCtx s rfl, hr.1]
    rfl
  have frame := credited_records s k (c.answering n false) g
  refine ⟨s.credited k (c.answering n false) g, ?exec, frame, credited_ses s k (c.answering n false) g⟩
  refine request_tells hr hh (permits_grant role) ((grantAnswer_taken hk hc hi ha hp hw hn).trans ?answer) ?_ ?_ ?_
    (toGateway_wakeNotice s k (c.answering n false) g)
  case answer =>
    rw [granted, grantGive, clampsGrant_result, fGranted_eq (a := (c.answering n false).fundedTo g)]
    · rfl
    · exact credited_ctx s k (c.answering n false) g
  all_goals rw [frame]
  · exact hr.1
  · exact hr.2

/-- Settles O30: R88 decides in its order, and a grant of 0 only writes the denied flag and the ask. -/
theorem grantDenialsAndRefusals : Obligations.GrantDenialsAndRefusals := by
  intro h k identity n amount r s hr hh hrole
  have refuses {result : Result} (ha : grantAnswer k identity n amount ⟨h.client, r⟩ s = refuse result s) :
      exec (.grant h k identity n amount) s = refused h .grant result s :=
    request_refuses hr hh (permits_grant hrole) ha
  refine ⟨fun hk => refuses (grantAnswer_unknown _ _ _ _ s hk), fun hk bad => refuses (grantAnswer_badValue s hk bad),
    fun hk hi ha hn => ?_⟩
  have inRange := grantAnswer_inRange (who := ⟨h.client, r⟩) s hk hi ha hn
  refine ⟨fun absent => refuses ?_, fun c p hc he hp => ?_⟩
  · rw [inRange, slotOf_eq_none fun c _ => absent c]
  subst he
  rw [slotOf_eq hk hc] at inRange
  refine ⟨fun role kind => refuses ?shipPlan, fun role kind h0 unasked => refuses ?unasked, ?taken⟩
  case shipPlan => exact inRange.trans (if_pos (by simp [role, hp, kind]))
  case unasked =>
    have notShip : ¬ (r == .gateway && (s.par c.partner).any (fun p => p.kind == .shipPlan)) = true := by simp [hp, kind]
    refine inRange.trans ((if_neg notShip).trans (if_neg ?_))
    rintro (h | asked)
    · exact h0 h
    · obtain ⟨d, hd⟩ := (asks_iff c n).1 asked
      exact unasked d hd
  case taken =>
    intro kindOrRole zero top answer
    subst zero
    have hw : (r = .gateway ∧ p.kind = .homeRoaming) ∨ (r = .purser ∧ n = 0) := by
      obtain role | role := hrole
      · exact .inr ⟨role, hn.resolve_left (by simp [role])⟩
      · exact .inl ⟨role, kindOrRole.resolve_left (by simp [role])⟩
    have answers (asked : n = 0 ∨ ∃ d, c.ask = some ⟨n, d⟩) :
        exec (.grant h k c.identity n 0) s = answer (decide (n ≠ 0)) (if n = 0 then c.ask else none) := by
      refine request_answers hr hh (permits_grant hrole)
        ((grantAnswer_taken hk hc hi ha hp hw asked).trans ?_) hr.1 hr.2 rfl
      rw [State.granting, if_pos rfl, grantGive, clampsGrant_result, Nat.add_zero, if_neg (Nat.not_lt.2 top),
        fGranted_eq (s.ctx_setCtx k _)]
      simp only [Context.answering, Nat.sub_self]
      rfl
    refine ⟨fun h0 => ?_, fun h0 asked => ?_⟩
    · rw [answers (.inl h0), if_pos h0, decide_eq_false (not_not.2 h0)]
    · rw [answers (.inr asked), if_neg h0, decide_eq_true h0]

end Sys2Proof.Machine
end

section
/-! Chapter 6, first part: what names and holds a link (R103, R106), what a link reads that was written, and its change of
state (R110, R111). -/

namespace Sys2Proof.Machine

/-! ### Link and zone numbers, and what holds a link (R103, R106, R144) -/

theorem linkOf_eq_none {n : Nat} (hn : 7 < n) : linkOf n = none := dif_neg (by omega)

@[simp] theorem zoneOf_val (z : ZoneId) : zoneOf z.val = some z := by simp [zoneOf]

theorem zoneOf_eq_none {n : Nat} (hn : 31 < n) : zoneOf n = none := dif_neg (by omega)

/-- R106: the migration holds a link by the running order or by the in-flight batch. -/
theorem heldByMigration_iff (s : State) (l : LinkId) :
    s.heldByMigration l = true ↔
      (s.mig.queue.head?.any fun o => o.source == .link l || o.dest == .fixed l) = true
        ∨ (s.mig.batch.any fun b => b.dest == l) = true :=
  Bool.or_eq_true_iff

/-- R106: the latch holds a link with sessions, with reserved slots, or that the migration holds. -/
theorem latched_iff (s : State) (l : LinkId) :
    s.latched l = true ↔ 0 < (s.link l).bound ∨ 0 < (s.link l).emergency ∨ 0 < (s.link l).reserved
      ∨ s.heldByMigration l = true := by
  simp only [State.latched, Bool.or_eq_true, decide_eq_true_eq, Nat.add_pos_iff_pos_or_pos, or_assoc]

/-- R106: the links the migration holds: of the running order the source and the fixed destination, and the destination
of the batch. -/
theorem heldByMigration_iff_exists (s : State) (l : LinkId) :
    s.heldByMigration l = true ↔
      (∃ o rest, s.mig.queue = o :: rest ∧ (o.source = .link l ∨ o.dest = .fixed l))
        ∨ ∃ b, s.mig.batch = some b ∧ b.dest = l := by
  rw [heldByMigration_iff]
  cases s.mig.queue <;> cases s.mig.batch <;> simp

/-! ### A link just written -/

/-- What a link reads that was just written, whatever was told and ordered. -/
theorem State.link_written (s : State) (l : LinkId) (a : Link) (ns : List Notice) (mg : Migration) :
    ({ s with links := s.links.set l a, raised := ns, mig := mg } : State).link l = a :=
  (s.link_set l l a).trans (if_pos rfl)

/-- A change of a link that was just written. -/
theorem State.modLink_written (s : State) (l : LinkId) (a : Link) (ns : List Notice) (mg : Migration)
    (f : Link → Link) :
    ({ s with links := s.links.set l a, raised := ns, mig := mg } : State).modLink l f =
      { s with links := s.links.set l (f a), raised := ns, mig := mg } := by
  simp only [State.modLink_links, State.link_written, links_set_set]

/-- A link changed twice. -/
theorem State.modLink_modLink (s : State) (l : LinkId) (f g : Link → Link) :
    (s.modLink l f).modLink l g = s.modLink l fun k => g (f k) := by
  simp only [State.modLink_links, State.link_written, links_set_set]

/-! ### A change of state of a link just written (R110, R111) -/

/-- R111: the queue after a change of a link's state, with the order the change raises. -/
def State.queueAfter (s : State) (l : LinkId) (before after : LinkState) : List Order :=
  match after, before with
  | .degraded, .up | .degraded, .down => handedOrder s.silent (.link l) .all .degraded s.mig.queue
  | .down, .up | .down, .degraded | .suspect, .down | .suspect, .up | .suspect, .degraded =>
    handedOrder s.silent (.link l) .all .failed s.mig.queue
  | .up, .down | .up, .degraded =>
    if 0 < s.sess.stranded then handedOrder s.silent .rescue .all .rescue s.mig.queue else s.mig.queue
  | _, _ => s.mig.queue

@[simp] theorem State.queueAfter_offline (s : State) (l : LinkId) (before : LinkState) :
    s.queueAfter l before .offline = s.mig.queue := by
  cases before <;> rfl

/-- R110, R111: a link is written as `k` and changes its state, as no batch's destination or into UP: the notice carries
`k` with the new state. -/
theorem changeState_modLink {l : LinkId} {st : LinkState} {ca : LinkCause} {f : Link → Link} {s : State} {k : Link}
    (hk : f (s.link l) = k) (hb : ∀ b, s.mig.batch = some b → b.dest = l → k.state = .up → st = .up) :
    changeState l st ca (s.modLink l f) = { s with
      links := s.links.set l { k with state := st, streak := 0 }
      raised := s.raised ++ [.linkState l k.kind k.state st ca k.quality k.bound k.emergency k.discrepancy]
      mig := { s.mig with queue := s.queueAfter l k.state st } } := by
  have link : (s.modLink l f).link l = k := (s.link_modLink l f).trans hk
  have links (a : Link) : (s.modLink l f).links.set l a = s.links.set l a := links_set_set ..
  rw [changeState_eq l st ca _ (by rw [link]; exact hb), links]
  simp only [link]
  obtain ⟨_, before, _⟩ := k
  cases st <;> cases before <;> rfl

end Sys2Proof.Machine
end

section
/-! Chapter 6, second part: the values that READ_LINK and READ_ZONE derive, and both reads (R120, R162). -/

namespace Sys2Proof.Machine

/-! ### What both reads derive (R113, R120, R146, R152, R153, R157) -/

theorem free_eq (k : Link) : k.free = k.capacity - (k.bound + k.reserved) := Nat.sub_sub ..

/-- R120: a link is the source of an order when the queue holds one of that source. -/
theorem isSource_iff (s : State) (l : LinkId) :
    (s.mig.queue.any fun o => o.source == .link l) = true ↔ ∃ o ∈ s.mig.queue, o.source = .link l := by
  simp only [List.any_eq_true, beq_iff_eq]

theorem silent_iff (s : State) : s.silent = true ↔ s.zone.line = true ∨ s.zone.flag = true := Bool.or_eq_true_iff

/-- R153: the fallback zone stands while the setting names a zone that is defined. -/
theorem fallbackZone_isSome (s : State) :
    s.fallbackZone.isSome = s.settings.fallback.any fun z => (s.zoneAt z).defined :=
  Option.isSome_filter

theorem staleInstant_eq (s : State) : s.staleInstant = if s.zone.tracking = .placed then
    s.zone.lastFix.map fun f => min (f + 2 ^ s.settings.staleExponent * 1000) 1099511627775 else none := by
  unfold State.staleInstant
  cases s.zone.tracking <;> rfl

/-- R146: the effective class is RESTRICTED while the effective zone is none. -/
theorem effectiveClass_code (s : State) : s.effectiveClass.code = match s.zone.effective with
    | none => 3
    | some z => (s.zoneAt z).cls.code := by
  unfold State.effectiveClass
  cases s.zone.effective <;> rfl

/-- R146: the effective level is EMERGENCY_ONLY while the effective zone is none. -/
theorem effectiveLevel_code (s : State) : s.effectiveLevel.code = match s.zone.effective with
    | none => 2
    | some z => (s.zoneAt z).level.code := by
  unfold State.effectiveLevel
  cases s.zone.effective <;> rfl

/-! ### The answers (R120, R145, R162) -/

theorem readLinkAnswer_one (l : LinkId) (who : Sender) (s : State) :
    readLinkAnswer (.one l.val) who s = ⟨.ok, fLinkRecord s l, s⟩ := by
  simp only [readLinkAnswer, linkOf_val]

theorem readLinkAnswer_badValue {n : Nat} (hn : 7 < n) (who : Sender) (s : State) :
    readLinkAnswer (.one n) who s = refuse .badValue s := by
  simp only [readLinkAnswer, linkOf_eq_none hn]

theorem readZoneAnswer_one (z : ZoneId) (who : Sender) (s : State) :
    readZoneAnswer (.one z.val) who s = ⟨.ok, fZoneRecord (s.zoneAt z) ++ fZoneState s, s⟩ := by
  simp only [readZoneAnswer, zoneOf_val]

theorem readZoneAnswer_badValue {n : Nat} (hn : 31 < n) (who : Sender) (s : State) :
    readZoneAnswer (.one n) who s = refuse .badValue s := by
  simp only [readZoneAnswer, zoneOf_eq_none hn]

/-- R145: a ZONE_SET that changes the window alone of the effective zone tells it with cause WINDOW. -/
theorem zoneSetAnswer_window {z : ZoneId} {w : Nat} (who : Sender) {s : State} (he : s.zone.effective = some z)
    (hd : (s.zoneAt z).defined = true) (hw : w ≤ 600) (hne : w ≠ (s.zoneAt z).window) :
    zoneSetAnswer z.val (some (s.zoneAt z).cls) (some (s.zoneAt z).level) w who s =
      zoneGive z .ok (tellZone .window (s.setZone z ⟨true, (s.zoneAt z).cls, (s.zoneAt z).level, w⟩)) := by
  simp [zoneSetAnswer, setEffectiveZone, windowMax, Nat.not_lt.2 hw, hd, he, hne]

/-- R145, R156: such a ZONE_SET leaves its cause and the epoch for READ_ZONE. -/
theorem exec_zoneSet_window {h : Header} {z : ZoneId} {w : Nat} {s : State} (hr : s.ready)
    (hh : s.hears h .zoneSet .purser) (he : s.zone.effective = some z) (hd : (s.zoneAt z).defined = true) (hw : w ≤ 600)
    (hne : w ≠ (s.zoneAt z).window) :
    ∃ t, exec (.zoneSet h z.val (some (s.zoneAt z).cls) (some (s.zoneAt z).level) w) s = .next t
      ∧ t.zone.report = some ⟨.window, s.tariff.epoch⟩ := by
  refine ⟨_, congrArg Host.Outcome.next ((request_heard _ hr hh rfl).trans
    (congrArg (respond h _ s) (zoneSetAnswer_window _ he hd hw hne))), ?_⟩
  simp [respond, State.flushWith, State.join, zoneGive, State.setZone, hr.2]

/-- Settles O43: each derived value of the records is the one its rule words, and the answers list them. -/
theorem readLinkAndZoneFields : Obligations.ReadLinkAndZoneFields := by
  intro h h' r s hr hh hh' flag head permits held link zone optional stale state
  have permitted (l : LinkId) : fFlag (s.permitted l) = flag (permits l) := fFlag_of_iff Iff.rfl
  have record (l : LinkId) : fLinkRecord s l = link l := by
    have held_iff : s.heldByMigration l = true ↔ held l := heldByMigration_iff s l
    have latched_iff := (latched_iff s l).trans (or_congr_right (or_congr_right (or_congr_right held_iff)))
    have carries : fFlag (decide (0 < (s.link l).bound + (s.link l).emergency))
        = flag (0 < (s.link l).bound ∨ 0 < (s.link l).emergency) :=
      fFlag_of_iff (by rw [decide_eq_true_eq, Nat.add_pos_iff_pos_or_pos])
    rw [fLinkRecord, permitted, carries, fFlag_of_iff latched_iff, fFlag_of_iff held_iff,
      fFlag_of_iff (isSource_iff s l), free_eq]
    simp only [fFlag_eq, decide_eq_true_eq]
    rfl
  have zoneRecord (v : Zone) : fZoneRecord v = zone v := by
    rw [fZoneRecord, fFlag_eq]
  have opt (o : Option Nat) : fOpt64 o = optional o := by
    rw [fOpt64, fFlag_eq]
  have tracking : fZoneState s = state := by
    rw [fZoneState, fTracking, fReport, effectiveClass_code, effectiveLevel_code, windDown_eq, fallbackZone_isSome,
      staleInstant_eq, opt, opt, fFlag_of_iff (silent_iff s), funext permitted]
    simp only [fCandidate, fFlag_eq]
    rfl
  refine ⟨fun l => ?_, ?_, fun n hn => request_refuses hr hh rfl (readLinkAnswer_badValue hn _ s), fun z => ?_, ?_,
    fun n hn => request_refuses hr hh' rfl (readZoneAnswer_badValue hn _ s),
    fun h'' z w hh'' he hd hw hne => exec_zoneSet_window hr hh'' he hd hw hne⟩
  · rw [← record]
    exact request_answers hr hh rfl (readLinkAnswer_one l _ s) hr.1 hr.2 rfl
  · rw [← funext record]
    exact request_answers hr hh rfl rfl hr.1 hr.2 rfl
  · rw [← zoneRecord, ← tracking]
    exact request_answers hr hh' rfl (readZoneAnswer_one z _ s) hr.1 hr.2 rfl
  · rw [← funext zoneRecord, ← tracking]
    exact request_answers hr hh' rfl rfl hr.1 hr.2 rfl

end Sys2Proof.Machine
end

section
/-! Chapter 6, third part: LINK_SET, its latch, its action and its profile (R105 to R107, R110). -/

namespace Sys2Proof.Machine

/-! ### The checks (R105, R106) -/

/-- R105: what the range check of a profile admits. -/
theorem profileOk_iff (p : ProfileDef) :
    profileOk p = true ↔ p.priority ≤ 7 ∧ p.capacity ≤ 8192 ∧ p.surcharge ≤ 2000 ∧ p.degrade ≤ 99 ∧ p.recover ≤ 100
      ∧ p.degrade < p.recover ∧ (p.hold = 1 ∨ p.hold = 2 ∨ p.hold = 4 ∨ p.hold = 8) ∧ 1 ≤ p.limit ∧ p.limit ≤ 7 := by
  simp only [profileOk, Bool.and_eq_true, Bool.or_eq_true, decide_eq_true_eq, beq_iff_eq, and_assoc, or_assoc]

/-- R106: what the latch guards. -/
theorem guardedChange_iff (a : LinkAction) (kind : LinkKind) (p : ProfileDef) (k : Link) :
    guardedChange a kind p k = true ↔ a = .adminOff ∨ kind ≠ k.kind ∨ p.mask ≠ k.mask ∨ p.capacity ≠ k.capacity
      ∨ p.surcharge ≠ k.surcharge := by
  simp only [guardedChange, Bool.or_eq_true, beq_iff_eq, bne_iff_ne, or_assoc]

/-- R105: a LINK_SET with an operand missing or out of range is refused. -/
theorem linkSetAnswer_badValue {link : Nat} {action : Option LinkAction} {p : ProfileDef} (who : Sender) (s : State)
    (bad : 7 < link ∨ action = none ∨ p.kind = none ∨ profileOk p = false) :
    linkSetAnswer link action p who s = refuse .badValue s := by
  unfold linkSetAnswer
  split
  · next l a kind hl hk =>
    have inRange : ¬ 7 < link := fun h => by simp [linkOf_eq_none h] at hl
    have : profileOk p = false := by simpa [inRange, hk] using bad
    exact if_pos (by rw [this]; rfl)
  · rfl

/-- R106, R107: what a LINK_SET in range does is up to the latch. -/
theorem linkSetAnswer_inRange {p : ProfileDef} {kind : LinkKind} (l : LinkId) (a : LinkAction) (who : Sender) (s : State)
    (hk : p.kind = some kind) (hp : profileOk p = true) :
    linkSetAnswer l.val (some a) p who s =
      if guardedChange a kind p (s.link l) = true ∧ s.latched l = true then refuse .linkLatched s
      else writeLink l a kind p s := by
  simp only [linkSetAnswer, linkOf_val, hk, hp, Bool.not_true, Bool.false_eq_true, if_false, Bool.and_eq_true]

/-! ### The action (R107, R110) -/

/-- R107: the state of a link after an action. -/
def LinkState.afterAction (a : LinkAction) (st : LinkState) : LinkState :=
  match a, st with
  | .adminOn, .offline => .down
  | .adminOff, _ => .offline
  | .clearSuspect, .suspect => .down
  | _, st => st

@[simp] theorem LinkState.afterAction_adminOff (st : LinkState) : st.afterAction .adminOff = .offline := by
  cases st <;> rfl

/-- R107: an action moves a link to another state. -/
abbrev Link.movedBy (a : LinkAction) (k : Link) : Prop := k.state.afterAction a ≠ k.state

/-- R107: a link after an action. -/
def Link.acted (a : LinkAction) (k : Link) : Link :=
  { k with
    state := k.state.afterAction a
    quality := if k.movedBy a ∧ a = .adminOff then 0 else k.quality
    streak := if k.movedBy a then 0 else k.streak
    discrepancy := if k.movedBy a ∧ a ≠ .adminOn then 0 else k.discrepancy }

/-- R110: the notice of an action that moves a link. -/
def Link.actionNotice (l : LinkId) (a : LinkAction) (k : Link) : List Notice :=
  if k.movedBy a then
    [.linkState l k.kind k.state (k.acted a).state .admin (k.acted a).quality k.bound k.emergency (k.acted a).discrepancy]
  else []

theorem Link.acted_of_not_moved {a : LinkAction} {k : Link} (h : ¬ k.movedBy a) : k.acted a = k := by
  simp only [Link.acted, h, false_and, if_false, not_not.1 h]

theorem toGateway_actionNotice (l : LinkId) (a : LinkAction) (k : Link) :
    ∀ n ∈ k.actionNotice l a, n.toGateway = false := by
  unfold Link.actionNotice
  split <;> simp [Notice.toGateway, Notice.roles]

/-- R107: an action writes its link and tells a change of state; an ADMIN_OFF is of a link that is no batch's
destination. -/
theorem takeAction_eq {l : LinkId} {a : LinkAction} {s : State}
    (off : a = .adminOff → ∀ b, s.mig.batch = some b → b.dest ≠ l) :
    takeAction l a s = { s with
      links := s.links.set l ((s.link l).acted a)
      raised := s.raised ++ (s.link l).actionNotice l a } := by
  have unmoved (h : (s.link l).state.afterAction a = (s.link l).state) :
      s = { s with links := s.links.set l ((s.link l).acted a), raised := s.raised ++ (s.link l).actionNotice l a } := by
    rw [Link.acted_of_not_moved (not_not.2 h), Link.actionNotice, if_neg (not_not.2 h), List.append_nil,
      State.links_set_self]
  unfold takeAction
  split
  · next st =>
    rw [changeState_eq _ _ _ _ fun b _ _ up => by rw [st] at up; cases up]
    simp [Link.acted, Link.actionNotice, LinkState.afterAction, st]
  · next st => exact unmoved st.symm
  · next st =>
    have moved : .offline ≠ (s.link l).state := fun e => st e.symm
    rw [changeState_modLink rfl fun b hb hd _ => absurd hd (off rfl b hb)]
    simp [Link.acted, Link.actionNotice, moved]
  · next st =>
    rw [changeState_modLink rfl fun b _ _ up => by simp [st] at up]
    simp [Link.acted, Link.actionNotice, LinkState.afterAction, State.queueAfter, st]
  · exact unmoved (by grind [LinkState.afterAction])

/-! ### The answer (R105, R107) -/

/-- R107: the link is written with its action and its profile, and the answer is OK where that changed it. -/
theorem writeLink_eq {l : LinkId} {a : LinkAction} {s : State} (kind : LinkKind) (p : ProfileDef)
    (off : a = .adminOff → ∀ b, s.mig.batch = some b → b.dest ≠ l) :
    let k := s.link l
    let m := (k.acted a).setProfile kind p
    writeLink l a kind p s = ⟨if m = k then .already else .ok,
      [.u8 l.val, .u8 k.state.code, .u8 (k.state.afterAction a).code] ++ fProfile m,
      { s with links := s.links.set l m, raised := s.raised ++ k.actionNotice l a }⟩ := by
  intro k m
  have same : m = k ↔ ¬ ((k.acted a).state ≠ k.state ∨ k.setProfile kind p ≠ k) := by
    by_cases moved : k.movedBy a
    · exact iff_of_false (fun e => moved (congrArg Link.state e)) (not_not.2 (.inl moved))
    · have stays : k.acted a = k := Link.acted_of_not_moved moved
      simp [m, stays]
  have written : (takeAction l a s).modLink l (fun k => k.setProfile kind p) =
      { s with links := s.links.set l m, raised := s.raised ++ k.actionNotice l a } := by
    rw [takeAction_eq off, State.modLink_written]
  rw [writeLink]
  simp only [written, State.link_written, if_congr same rfl rfl, ite_not]
  rfl

/-- Settles O44: the latch and the ranges refuse; otherwise the link is written with its action and its profile. -/
theorem linkSetActions : Obligations.LinkSetActions := by
  intro h s hr hh
  refine ⟨fun l a kind p hk hpri hcap hsur hdeg hrec hlt hhold hlim hlim' => ?_, fun link action p bad => ?_⟩
  · intro k guarded latched after moved quality discrepancy m
    have inRange := linkSetAnswer_inRange (kind := kind) l a ⟨h.client, .purser⟩ s hk
      ((profileOk_iff p).2 ⟨hpri, hcap, hsur, hdeg, hrec, hlt, hhold, hlim, hlim'⟩)
    have guarded_iff : guardedChange a kind p k = true ↔ guarded := guardedChange_iff a kind p k
    have latched_iff : s.latched l = true ↔ latched := by
      rw [latched_iff, heldByMigration_iff_exists]
    refine ⟨fun g t => ?_, fun free => ?_⟩
    · exact request_refuses hr hh rfl (inRange.trans (if_pos ⟨guarded_iff.2 g, latched_iff.2 t⟩))
    · have off : a = .adminOff → ∀ b, s.mig.batch = some b → b.dest ≠ l := fun e b hb hd =>
        free ⟨.inl e, .inr (.inr (.inr (.inr ⟨b, hb, hd⟩)))⟩
      refine request_tells hr hh rfl (inRange.trans ((if_neg ?_).trans ((writeLink_eq kind p off).trans ?_))) ?_ ?_ ?_ ?_
      · rwa [guarded_iff, latched_iff]
      · rw [hr.1, List.nil_append]; rfl
      · exact hr.1
      · exact hr.2
      · rfl
      · exact toGateway_actionNotice l a k
  · refine request_refuses hr hh rfl (linkSetAnswer_badValue _ s ?_)
    obtain noLink | noAction | noKind | outOfRange := bad
    · exact .inl noLink
    · exact .inr (.inl noAction)
    · exact .inr (.inr (.inl noKind))
    · refine .inr (.inr (.inr (Bool.eq_false_iff.2 fun ok => ?_)))
      have ranges := (profileOk_iff p).1 ok
      omega

end Sys2Proof.Machine
end

section
/-! Chapter 6, fourth part: LINK_REPORT, and what it makes of a link's state and streak (R108 to R111). -/

namespace Sys2Proof.Machine

/-! ### The judgement (R109) -/

/-- R109: the state a report of stored quality `v` makes a link enter. -/
def Link.reportEnters (k : Link) (i : Indication) (v : Nat) : Option LinkState :=
  if k.state = .down ∧ i = .up then some (if k.recover ≤ v then .up else .degraded)
  else if k.state = .up ∧ (i = .down ∨ v = 0) then some .down
  else if k.state = .up ∧ v < k.degrade ∧ k.hold ≤ k.streak + 1 then some .degraded
  else if k.state = .degraded ∧ i = .down then some .down
  else if k.state = .degraded ∧ k.recover ≤ v ∧ k.hold ≤ k.streak + 1 then some .up
  else none

/-- R109: the streak of a link whose state a report of stored quality `v` leaves. -/
def Link.reportStreak (k : Link) (v : Nat) : Nat :=
  if k.state = .up then (if v < k.degrade then k.streak + 1 else 0)
  else if k.state = .degraded then (if k.recover ≤ v then k.streak + 1 else 0)
  else k.streak

/-- R109: the table of the judgement is that of the state entered and of the streak kept. -/
theorem judge_eq (k : Link) (i : Indication) (v : Nat) :
    ({ k with quality := v } : Link).judge i =
      ((k.reportEnters i v).map .enters).getD (.streak (k.reportStreak v)) := by
  unfold Link.judge Link.reportEnters Link.reportStreak Link.hasten
  cases k.state with
  | offline | suspect => cases i <;> simp
  | down =>
    cases i with
    | down => simp
    | up => by_cases hr : k.recover ≤ v <;> simp [hr]
  | up =>
    cases i with
    | down => simp
    | up =>
      by_cases h0 : v = 0
      · simp [h0]
      · by_cases hd : v < k.degrade <;> by_cases hh : k.hold ≤ k.streak + 1 <;> simp [h0, hd, hh]
  | degraded =>
    cases i with
    | down => simp
    | up => by_cases hr : k.recover ≤ v <;> by_cases hh : k.hold ≤ k.streak + 1 <;> simp [hr, hh]

/-- R109: a report moves a link between DOWN, UP and DEGRADED. -/
theorem reportEnters_moves {k : Link} {i : Indication} {v : Nat} {st : LinkState} (h : k.reportEnters i v = some st) :
    st ≠ k.state ∧ (k.state = .down ∨ k.state = .up ∨ k.state = .degraded)
      ∧ (st = .degraded ∨ st = .down ∨ st = .up) := by
  unfold Link.reportEnters at h
  split_ifs at h <;> cases h <;> simp_all

/-- R111: the order of a report's change of state goes by the state entered. -/
theorem queueAfter_report {l : LinkId} {before st : LinkState} (s : State) (hne : st ≠ before)
    (hb : before = .down ∨ before = .up ∨ before = .degraded) (hst : st = .degraded ∨ st = .down ∨ st = .up) :
    s.queueAfter l before st =
      if st = .degraded then handedOrder s.silent (.link l) .all .degraded s.mig.queue
      else if st = .down then handedOrder s.silent (.link l) .all .failed s.mig.queue
      else if 0 < s.sess.stranded then handedOrder s.silent .rescue .all .rescue s.mig.queue
      else s.mig.queue := by
  obtain rfl | rfl | rfl := hst
  · obtain rfl | rfl | rfl := hb
    exacts [rfl, rfl, absurd rfl hne]
  · obtain rfl | rfl | rfl := hb
    exacts [absurd rfl hne, rfl, rfl]
  · obtain rfl | rfl | rfl := hb
    exacts [rfl, absurd rfl hne, rfl]

/-! ### The report (R108, R110) -/

/-- R109: a report that changes no state stores the quality and the streak. -/
theorem takeReport_stays {l : LinkId} {i : Indication} {v : Nat} {s : State} (h : (s.link l).reportEnters i v = none) :
    takeReport l i v s =
      s.modLink l fun k => { k with quality := v, streak := (s.link l).reportStreak v } := by
  simp only [takeReport, State.link_modLink, judge_eq, h, Option.map_none, Option.getD_none, State.modLink_modLink]

/-- R109 to R111: a report that changes the state, of a link that is no batch's destination or does not leave UP. -/
theorem takeReport_enters {l : LinkId} {i : Indication} {v : Nat} {st : LinkState} {s : State} {k : Link}
    (hk : s.link l = k) (h : k.reportEnters i v = some st)
    (hb : ∀ b, s.mig.batch = some b → b.dest = l → k.state = .up → st = .up) :
    takeReport l i v s = { s with
      links := s.links.set l { k with state := st, quality := v, streak := 0 }
      raised := s.raised ++ [.linkState l k.kind k.state st .report v k.bound k.emergency k.discrepancy]
      mig := { s.mig with queue := s.queueAfter l k.state st } } := by
  subst hk
  simp only [takeReport, State.link_modLink, judge_eq, h, Option.map_some, Option.getD_some]
  exact changeState_modLink rfl hb

/-- R108: the answer of a LINK_REPORT, from the link before and after. -/
theorem linkReportAnswer_eq {l : LinkId} {i : Indication} {q : Nat} (who : Sender) {s t : State} {k : Link}
    (ht : takeReport l i (min q 100) s = t) (hk : t.link l = k) :
    linkReportAnswer l.val (some i) q who s = ⟨if 100 < q then .okClamped else .ok,
      [.u8 l.val, .u8 (s.link l).state.code, .u8 k.state.code, .u8 k.quality, .u8 k.streak], t⟩ := by
  simp only [linkReportAnswer, linkOf_val, qualityMax, ht, hk]
  rfl

theorem linkReportAnswer_badValue {link : Nat} {i : Option Indication} (q : Nat) (who : Sender) (s : State)
    (bad : 7 < link ∨ i = none) : linkReportAnswer link i q who s = refuse .badValue s := by
  unfold linkReportAnswer
  obtain noLink | rfl := bad
  · rw [linkOf_eq_none noLink]
  · cases linkOf link <;> rfl

/-- Settles O45: the report is judged by the link's row of R109, and a change of state is told and raises its order. -/
theorem linkReportJudgement : Obligations.LinkReportJudgement := by
  intro h l i q s hr hh k v streak after stays result notLost
  have judged : after = k.reportEnters i v := rfl
  refine ⟨fun stands => ?_, fun st enters => ?_, fun link ind bad =>
    request_refuses hr hh rfl (linkReportAnswer_badValue q _ s bad)⟩
  · exact request_answers hr hh rfl (linkReportAnswer_eq _ (takeReport_stays (judged ▸ stands)) (s.link_modLink l _))
      hr.1 hr.2 rfl
  · have reached : k.reportEnters i v = some st := judged ▸ enters
    obtain ⟨hne, hbefore, hst⟩ := reportEnters_moves reached
    have taken := takeReport_enters (k := k) rfl reached fun b hb hd up => by
      rw [notLost b hb hd up] at enters
      cases enters
    rw [hr.1, List.nil_append, queueAfter_report s hne hbefore hst] at taken
    refine request_tells hr hh rfl (linkReportAnswer_eq _ taken (s.link_written ..)) hr.1 hr.2 rfl ?_
    simp [Notice.toGateway, Notice.roles]

end Sys2Proof.Machine
end

section
/-! Chapter 6, fifth part: RECONCILE, its verdict and the discrepancy streak (R117, R118). -/

namespace Sys2Proof.Machine

/-! ### What is compared (R117, R118) -/

theorem difference_eq (a b : Nat) : difference a b = if a ≤ b then b - a else a - b := by
  unfold difference
  split <;> omega

theorem reconciled_iff (st : LinkState) : st.reconciled = true ↔ st = .down ∨ st = .up ∨ st = .degraded := by
  cases st <;> simp [LinkState.reconciled]

theorem inBatch_iff (s : State) (l : LinkId) :
    s.inBatch l = true ↔ ∃ b, s.mig.batch = some b ∧ (b.source = .link l ∨ b.dest = l) := by
  simp [State.inBatch, Option.any_eq_true]

/-! ### The verdict (R118) -/

/-- R118: the discrepancy streak of a link judged so. -/
def Link.judgedStreak (k : Link) (outside : Bool) : Nat :=
  if k.state.reconciled then (if outside then k.discrepancy + 1 else 0) else k.discrepancy

/-- R118: a judgement that does not bring the streak of the link to its limit. -/
theorem reconcile_stays {l : LinkId} {outside : Bool} {s : State} {k : Link} (hk : s.link l = k)
    (h : outside = true → k.state.reconciled = true → k.discrepancy + 1 < k.limit) :
    reconcile l outside s =
      { s with links := s.links.set l { k with accumulator := 0, discrepancy := k.judgedStreak outside } } := by
  subst hk
  unfold reconcile Link.judgedStreak
  dsimp only
  cases hj : (s.link l).state.reconciled with
  | false => rfl
  | true =>
    cases outside with
    | false =>
      simp only [Bool.not_true, Bool.not_false, Bool.false_eq_true, if_false, if_true, State.modLink_modLink]
      rfl
    | true =>
      have below : ¬ (s.link l).limit ≤ (s.link l).discrepancy + 1 := Nat.not_le.2 (h rfl hj)
      simp only [Bool.not_true, Bool.false_eq_true, if_false, if_true, below, State.modLink_modLink]
      rfl

/-- R118, R110, R111: a judgement that brings the streak to its limit, of a link that is not in the batch. -/
theorem reconcile_suspects {l : LinkId} {s : State} {k : Link} (hk : s.link l = k) (hj : k.state.reconciled = true)
    (hl : k.limit ≤ k.discrepancy + 1) (hb : ∀ b, s.mig.batch = some b → b.dest ≠ l) :
    reconcile l true s = { s with
      links := s.links.set l { k with accumulator := 0, state := .suspect, streak := 0, discrepancy := 0 }
      raised := s.raised ++ [.linkState l k.kind k.state .suspect .reconcile k.quality k.bound k.emergency 0]
      mig := { s.mig with queue := handedOrder s.silent (.link l) .all .failed s.mig.queue } } := by
  subst hk
  have failed : s.queueAfter l (s.link l).state .suspect = handedOrder s.silent (.link l) .all .failed s.mig.queue := by
    obtain e | e | e := (reconciled_iff _).1 hj <;> rw [e] <;> rfl
  simp only [reconcile, hj, hl, Bool.not_true, Bool.false_eq_true, if_false, if_true, State.modLink_modLink]
  rw [changeState_modLink rfl fun b hbatch hd _ => absurd hd (hb b hbatch), failed]

/-! ### The answer (R117) -/

theorem reconcileAnswer_badValue {n : Nat} (bytes : Nat) (hn : 7 < n) (who : Sender) (s : State) :
    reconcileAnswer n bytes who s = refuse .badValue s := by
  simp only [reconcileAnswer, linkOf_eq_none hn]

theorem reconcileAnswer_deferred {l : LinkId} (bytes : Nat) (who : Sender) {s : State} (hb : s.inBatch l = true) :
    reconcileAnswer l.val bytes who s = ⟨.deferred, [.u64 (s.link l).accumulator, .u64 bytes, .u8 2], s⟩ := by
  simp only [reconcileAnswer, linkOf_val, hb, if_true]
  rfl

/-- R117, R118: the answer of a RECONCILE that is judged, from the link after it. -/
theorem reconcileAnswer_judged {l : LinkId} {bytes tolerance d : Nat} {outside : Bool} (who : Sender) {s t : State}
    {k : Link} (hb : s.inBatch l = false) (htol : s.tolerance (s.link l).accumulator bytes = tolerance)
    (hd : difference (s.link l).accumulator bytes = d) (ho : decide (tolerance < d) = outside)
    (ht : reconcile l outside s = t) (hk : t.link l = k) :
    reconcileAnswer l.val bytes who s = ⟨.ok, [.u8 l.val, .u64 (s.link l).accumulator, .u64 bytes, .u64 tolerance,
      .u64 d, .u8 (if outside then 1 else 0), .u8 k.discrepancy, .u8 k.state.code], t⟩ := by
  simp only [reconcileAnswer, linkOf_val, hb, Bool.false_eq_true, if_false, htol, hd, ho, ht, hk]
  rfl

/-- Settles O46: the verdict goes by the tolerance, and the streak by the verdict and the limit. -/
theorem reconcileVerdict : Obligations.ReconcileVerdict := by
  intro h l bytes s hr hh k a inBatch tolerance difference judged answer
  have inBatch_iff : s.inBatch l = true ↔ inBatch := inBatch_iff s l
  have judged_iff : k.state.reconciled = true ↔ judged := reconciled_iff k.state
  have answers {outside : Bool} {t : State} {m : Link} (free : ¬ inBatch) (ho : decide (tolerance < difference) = outside)
      (ht : reconcile l outside s = t) (hm : t.link l = m) :=
    reconcileAnswer_judged ⟨h.client, .router⟩ (Bool.eq_false_iff.2 (mt inBatch_iff.1 free)) rfl (difference_eq a bytes)
      ho ht hm
  refine ⟨fun n hn => request_refuses hr hh rfl (reconcileAnswer_badValue bytes hn _ s), fun deferred =>
    request_answers hr hh rfl (reconcileAnswer_deferred bytes _ (inBatch_iff.2 deferred)) hr.1 hr.2 rfl,
    fun free within => ?_, fun free outside below => ?_, fun free outside counts reaches => ?_⟩
  · have streak : k.judgedStreak false = if judged then 0 else k.discrepancy := if_congr judged_iff rfl rfl
    rw [← streak]
    exact request_answers hr hh rfl (answers free (decide_eq_false (Nat.not_lt.2 within))
      (reconcile_stays rfl fun e => nomatch e) (s.link_written ..)) hr.1 hr.2 rfl
  · have streak : k.judgedStreak true = if judged then k.discrepancy + 1 else k.discrepancy :=
      if_congr judged_iff rfl rfl
    rw [← streak]
    exact request_answers hr hh rfl (answers free (decide_eq_true outside)
      (reconcile_stays rfl fun _ hj => below (judged_iff.1 hj)) (s.link_written ..)) hr.1 hr.2 rfl
  · have suspects := reconcile_suspects (k := k) rfl (judged_iff.2 counts) reaches fun b hb hd => free ⟨b, hb, .inr hd⟩
    rw [hr.1, List.nil_append] at suspects
    refine request_tells hr hh rfl (answers free (decide_eq_true outside) suspects (s.link_written ..)) hr.1 hr.2 rfl ?_
    simp [Notice.toGateway, Notice.roles]

end Sys2Proof.Machine
end

section
/-! Chapter 7, first part: MOVE_ORDER, the check of its operands and the place of its source's order (R124). -/

namespace Sys2Proof.Machine

/-! ### The operands, and the order of the source (R124) -/

/-- R124 steps 3 and 4: which source, destination and scope go together. -/
theorem orderFits_iff (s : State) (a : Source) (d : Dest) (c : Scope) :
    s.orderFits a d c = true ↔ (a = .rescue → d = .auto ∧ c = .all)
      ∧ ∀ l, d = .fixed l → a ≠ .link l ∧ (s.link l).state ≠ .offline := by
  cases d with
  | auto => by_cases ha : a = .rescue <;> simp [State.orderFits, ha]
  | fixed m => by_cases ha : a = .rescue <;> simp [State.orderFits, ha]

theorem orderPlace_head {s : State} {a : Source} {o : Order} {rest : List Order} (hq : s.mig.queue = o :: rest)
    (ho : o.source = a) : s.orderPlace a = some 0 := by
  simp [State.orderPlace, hq, List.findIdx?_cons, ho]

theorem orderPlace_behind {s : State} {a : Source} {before after : List Order} {o : Order}
    (hq : s.mig.queue = before ++ o :: after) (ho : o.source = a) (first : ∀ p ∈ before, p.source ≠ a) :
    s.orderPlace a = some before.length := by
  have passed : before.findIdx? (fun o => o.source == a) = none := by simpa [List.findIdx?_eq_none_iff] using first
  simp [State.orderPlace, hq, List.findIdx?_append, passed, List.findIdx?_cons, ho]

theorem orderPlace_none {s : State} {a : Source} (hn : ∀ o ∈ s.mig.queue, o.source ≠ a) : s.orderPlace a = none := by
  simpa [State.orderPlace, List.findIdx?_eq_none_iff] using hn

/-! ### The answer (R124) -/

section
variable {a : Source} {d : Dest} {c : Scope} {s : State} (who : Sender)

theorem moveOrderAnswer_silent (a : Option Source) (d : Option Dest) (c : Option Scope) (hs : s.silent = true) :
    moveOrderAnswer a d c who s = refuse .silent s := by
  simp only [moveOrderAnswer, hs, if_true]

theorem moveOrderAnswer_badValue {a : Option Source} {d : Option Dest} {c : Option Scope} (hs : s.silent = false)
    (bad : a = none ∨ d = none ∨ c = none) : moveOrderAnswer a d c who s = refuse .badValue s := by
  obtain rfl | rfl | rfl := bad
  · simp [moveOrderAnswer, hs]
  · cases a <;> simp [moveOrderAnswer, hs]
  · cases a <;> cases d <;> simp [moveOrderAnswer, hs]

theorem moveOrderAnswer_unfit (hs : s.silent = false) (bad : s.orderFits a d c = false) :
    moveOrderAnswer (some a) (some d) (some c) who s = refuse .badValue s := by
  simp [moveOrderAnswer, hs, bad]

theorem moveOrderAnswer_busy (hs : s.silent = false) (fits : s.orderFits a d c = true)
    (place : s.orderPlace a = some 0) : moveOrderAnswer (some a) (some d) (some c) who s = refuse .busy s := by
  simp [moveOrderAnswer, hs, fits, place]

/-- R124 step 6: the QUEUED order of the source is replaced where it stands. -/
theorem moveOrderAnswer_replaces {before after : List Order} {o : Order} (hs : s.silent = false)
    (fits : s.orderFits a d c = true) (hq : s.mig.queue = before ++ o :: after) (hne : before ≠ [])
    (ho : o.source = a) (first : ∀ p ∈ before, p.source ≠ a) :
    moveOrderAnswer (some a) (some d) (some c) who s =
      ⟨.ok, [.u8 a.code, .u8 0, .u8 (before.length + 1), .u8 0],
        s.setQueue (before ++ o.replace d c :: after)⟩ := by
  obtain ⟨i, hi⟩ := Nat.exists_eq_succ_of_ne_zero (mt List.length_eq_zero_iff.1 hne)
  have place := orderPlace_behind hq ho first
  have written : s.mig.queue.modify before.length (·.replace d c) = before ++ o.replace d c :: after := by
    simp [hq, List.modify_eq_take_drop]
  rw [hi] at place written ⊢
  simp [moveOrderAnswer, hs, fits, place, fOrdered, fSecond, orderState, written]

/-- R124 step 7: a source without an order gets one at the tail. -/
theorem moveOrderAnswer_appends (hs : s.silent = false) (fits : s.orderFits a d c = true)
    (hn : ∀ o ∈ s.mig.queue, o.source ≠ a) :
    moveOrderAnswer (some a) (some d) (some c) who s =
      ⟨.ok, [.u8 a.code, .u8 1, .u8 (s.mig.queue.length + 1), .u8 (if s.mig.queue = [] then 1 else 0)],
        s.setQueue (s.mig.queue ++ [newOrder a d c .router])⟩ := by
  simp [moveOrderAnswer, hs, fits, orderPlace_none hn, fOrdered, fSecond, orderState]

end

/-- Settles O47: the checks of R124 in their order, and the place of the source's order. -/
theorem moveOrderDisposition : Obligations.MoveOrderDisposition := by
  intro h s hr hh
  have refuses {a d c r} (ha : moveOrderAnswer a d c ⟨h.client, .router⟩ s = refuse r s) :
      exec (.moveOrder h a d c) s = refused h .moveOrder r s := request_refuses hr hh rfl ha
  refine ⟨fun hs a d c => refuses (moveOrderAnswer_silent _ a d c hs), fun hs =>
    ⟨fun a d c bad => refuses (moveOrderAnswer_badValue _ hs bad), fun a d c bad => ?_, fun a d c together free => ?_⟩⟩
  · refine refuses (moveOrderAnswer_unfit _ hs (Bool.eq_false_iff.2 fun fits => ?_))
    obtain ⟨together, free⟩ := (orderFits_iff s a d c).1 fits
    obtain ⟨rfl, apart⟩ | ⟨l, hd, same | offline⟩ := bad
    · obtain ⟨auto, all⟩ := together rfl
      obtain other | emergency := apart
      · exact other auto
      · rw [all] at emergency; cases emergency
    · exact (free l hd).1 same
    · exact (free l hd).2 offline
  · have fits := (orderFits_iff s a d c).2 ⟨together, free⟩
    intro code
    have named : code = a.code := by
      unfold code
      cases a <;> rfl
    rw [named]
    refine ⟨fun o rest hq ho => refuses (moveOrderAnswer_busy _ hs fits (orderPlace_head hq ho)),
      fun before o after hq hne ho first => ?_, fun hn => ?_⟩
    · exact request_answers hr hh rfl (moveOrderAnswer_replaces _ hs fits hq hne ho first) hr.1 hr.2 rfl
    · exact request_answers hr hh rfl (moveOrderAnswer_appends _ hs fits hn) hr.1 hr.2 rfl

end Sys2Proof.Machine
end

section
/-! Chapter 7, second part: what a binding cut does to a session and to the others, and sessions that get another
binding after it, one after another (R72, R132, R139). -/

namespace Sys2Proof.Machine

/-! ### Sessions with their contexts and partners (R20, R23) -/

/-- The books and the session lists agree with the open sessions. -/
def Sound (s : State) : Prop := Books s ∧ Paired s

theorem Steady.sound {s t : State} (h : Steady s t) (hs : Sound s) : Sound t := ⟨h.books hs.1, h.paired hs.2⟩

theorem sound_of_listed {s : State} (hb : Books s) (hl : Listed s) : Sound s := ⟨hb, ((listed_iff s).1 hl).1⟩

/-- R20, R23: an open session has its context and its partner. -/
theorem Sound.owned {s : State} (hs : Sound s) {n : Nat} {x : Session} (hx : s.ses n = some x) :
    ∃ c p, Owned s n x c p := by
  obtain ⟨books, -, -, -, listed⟩ := hs
  obtain ⟨pr, ns, hl, -⟩ := listed n x.subscriber ((owner_eq_some_iff ..).2 ⟨x, hx, rfl⟩)
  obtain ⟨c, hc, -⟩ := (listing_eq_some_iff ..).1 hl
  obtain ⟨-, -, contexts, -⟩ := (books_iff s).1 books
  obtain ⟨p, hp⟩ := Option.isSome_iff_exists.1 (contexts _ c hc).2
  exact ⟨c, p, hx, hc, hp⟩

/-! ### One cut, and the two of a binding cut (R70 to R72) -/

/-- The record `y` is `x` after cuts of it. -/
def Session.cut (x y : Session) : Prop :=
  y = { x with epoch := y.epoch, residue := y.residue, carry := y.carry, charge := y.charge, service := y.service }

theorem Session.cut.trans {x y z : Session} (h₁ : x.cut y) (h₂ : y.cut z) : x.cut z := by
  unfold Session.cut at *
  rw [h₂, h₁]

/-- `t` is `s` after cuts of the session `x` open at `n`: of the other sessions the service state may differ. -/
structure Cuts (n : Nat) (x : Session) (s t : State) : Prop where
  rates : Rates s t
  told : ∃ qs, t.raised = s.raised ++ qs
  own : ∃ y, t.ses n = some y ∧ x.cut y
  other : ∀ m w, m ≠ n → s.ses m = some w → ∃ v, t.ses m = some { w with service := v }

section
variable {n : Nat} {x : Session} {s t u : State}

theorem Cuts.refl (hx : s.ses n = some x) : Cuts n x s s where
  rates := .refl s
  told := ⟨[], (List.append_nil _).symm⟩
  own := ⟨x, hx, rfl⟩
  other _ w _ hw := ⟨w.service, hw⟩

theorem Cuts.trans (h₁ : Cuts n x s t) (h₂ : ∀ y, t.ses n = some y → Cuts n y t u) : Cuts n x s u := by
  obtain ⟨y, hy, cut⟩ := h₁.own
  have h₂ := h₂ y hy
  refine ⟨h₁.rates.trans h₂.rates, ?_, ?_, fun m w hm hw => ?_⟩
  · obtain ⟨ps, hps⟩ := h₁.told
    obtain ⟨qs, hqs⟩ := h₂.told
    exact ⟨ps ++ qs, by rw [hqs, hps, List.append_assoc]⟩
  · obtain ⟨z, hz, cut'⟩ := h₂.own
    exact ⟨z, hz, cut.trans cut'⟩
  · obtain ⟨v, hv⟩ := h₁.other m w hm hw
    obtain ⟨v', hv'⟩ := h₂.other m _ hm hv
    exact ⟨v', hv'⟩

theorem Cuts.epoch (h : Cuts n x s t) : t.tariff.epoch = s.tariff.epoch := by rw [h.rates.frame]

/-- R70: a cut makes the session's epoch current and leaves a VOICE or DATA session no residue. -/
theorem cutAt_cuts {c : Context} {p : Partner} (q : Price) (ho : Owned s n x c p) :
    Cuts n x s (cutAt n q s) ∧ ∃ y, (cutAt n q s).ses n = some y ∧ y.epoch = s.tariff.epoch
      ∧ (x.cls = .voice ∨ x.cls = .data → y.residue = 0) := by
  cases hr : x.hasResidue with
  | false =>
    have written := cutAt_no_residue q ho.session hr
    have rates := rates_cutAt n q s
    rw [written] at rates ⊢
    refine ⟨⟨rates, ⟨[], (List.append_nil _).symm⟩, ⟨_, State.ses_setSes .., rfl⟩, fun m w hm hw =>
      ⟨w.service, (State.ses_setSes_other _ _ hm).trans hw⟩⟩, _, State.ses_setSes .., rfl, fun hc => ?_⟩
    by_contra pos
    obtain e | e := hc <;> simp [Session.hasResidue, e, Nat.pos_of_ne_zero pos] at hr
  | true =>
    obtain ⟨t, blocked, asked, charges, eq⟩ := cutAt_charges q ho.session hr ho.context ho.partner
    have rates := rates_cutAt n q s
    rw [eq] at rates ⊢
    obtain ⟨-, ses, -⟩ := charges c p ho.context ho.partner
    have own := ses n
    dsimp only at own
    rw [if_pos rfl] at own
    have mine : ∃ y, t.ses n = some y ∧ x.cut y ∧ y.epoch = s.tariff.epoch ∧ y.residue = 0 := by
      split at own
      · exact ⟨_, own, rfl, rfl, rfl⟩
      · exact ⟨_, own, rfl, rfl, rfl⟩
    obtain ⟨y, hy, cut, epoch, residue⟩ := mine
    refine ⟨⟨rates, ⟨blocked ++ asked, List.append_assoc ..⟩, ⟨y, hy, cut⟩, fun m w hm hw => ?_⟩, y, hy, epoch,
      fun _ => residue⟩
    have left := ses m
    dsimp only at left
    rw [if_neg hm, hw] at left
    split at left
    · exact ⟨_, left⟩
    · exact ⟨w.service, left⟩

/-- R71: an epoch cut, where the session needs one. -/
theorem epochCutOf_cuts {c : Context} {p : Partner} (ho : Owned s n x c p) : Cuts n x s (epochCutOf n s) := by
  unfold epochCutOf
  split
  · next y prev hy _ =>
    obtain rfl : y = x := Option.some.inj (hy.symm.trans ho.session)
    split
    · rw [partnerEntry_eq ho.context ho.partner]
      exact (cutAt_cuts _ ho).1
    · exact .refl ho.session
  · exact .refl ho.session

/-- R72: a session after its epoch cut and its binding cut. -/
theorem bindingCutOf_cuts (hs : Sound s) (hx : s.ses n = some x) :
    Cuts n x s (bindingCutOf n s) ∧ ∃ y, (bindingCutOf n s).ses n = some y ∧ x.cut y ∧ y.epoch = s.tariff.epoch
      ∧ (x.cls = .voice ∨ x.cls = .data → y.residue = 0) := by
  obtain ⟨c, p, ho⟩ := hs.owned hx
  have first := epochCutOf_cuts ho
  have sound := (steady_epochCutOf n s).sound hs
  obtain ⟨y, hy, cut⟩ := first.own
  obtain ⟨d, q, ho'⟩ := sound.owned hy
  have steps : bindingCutOf n s = cutAt n ((epochCutOf n s).currentPrice y q) (epochCutOf n s) := by
    simp only [bindingCutOf, hy, partnerOf_eq ho'.context ho'.partner]
  obtain ⟨second, z, hz, epoch, residue⟩ := cutAt_cuts ((epochCutOf n s).currentPrice y q) ho'
  rw [← steps] at second hz
  have both : Cuts n x s (bindingCutOf n s) := first.trans fun w hw => by
    rw [hy] at hw
    exact Option.some.inj hw ▸ second
  refine ⟨both, z, hz, ?_, epoch.trans first.epoch, fun hc => residue ?_⟩
  · obtain ⟨w, hw, cut'⟩ := both.own
    exact Option.some.inj (hw.symm.trans hz) ▸ cut'
  · rw [cut]; exact hc

end

/-! ### A rebinding: what a session gets with its cuts (R132, R139) -/

/-- Whether the session open at a handle holds a slot of a link's capacity. -/
def State.holdsSlot (s : State) (n : Nat) : Bool := (s.ses n).any Session.nonEmergency

/-- What stranding or an acceptance does for each session after its cuts: the binding it gets, what becomes of each
link, given whether the session holds a slot, what becomes of the stranded count, and what is told, given the session's
handle, subscriber, class and reference. -/
structure Rebinding where
  binding : Binding
  link : Bool → LinkId → Link → Link
  stranded : Nat → Nat
  notices : Nat → Nat → TrafficClass → BitVec 32 → List Notice

/-- The record `y` is `x` after its cuts in the epoch `e` and with the binding `b`. -/
def Session.rebound (x y : Session) (b : Binding) (e : BitVec 16) : Prop :=
  y.binding = b ∧ y.epoch = e ∧ (x.cls = .voice ∨ x.cls = .data → y.residue = 0)
    ∧ y = { x with
      binding := y.binding, epoch := y.epoch, residue := y.residue, carry := y.carry, charge := y.charge
      service := y.service }

/-- `t` is `s` after a rebinding of the sessions open at `ns`, one after another. -/
structure Rebinds (r : Rebinding) (ns : List Nat) (s t : State) : Prop where
  frame : t = { s with
    sess := t.sess, links := t.links, subs := { s.subs with contexts := t.subs.contexts }
    tariff := { s.tariff with partners := t.tariff.partners }, raised := t.raised }
  session : ∀ m x, s.ses m = some x → ∃ y, t.ses m = some y ∧
    if m ∈ ns then x.rebound y r.binding s.tariff.epoch else y = { x with service := y.service }
  absent : ∀ m, s.ses m = none → t.ses m = none
  link : ∀ l, t.link l = (ns.map s.holdsSlot).foldl (fun k c => r.link c l k) (s.link l)
  stranded : t.sess.stranded = r.stranded^[ns.length] s.sess.stranded
  told : ∃ qs, t.raised = s.raised ++ qs
    ∧ ∀ m ∈ ns, ∀ x, s.ses m = some x → ∀ q ∈ r.notices m x.subscriber x.cls x.ref, q ∈ qs

/-- What a rebinding never changes of a session. -/
def Session.identity (x : Session) : Nat × TrafficClass × BitVec 32 := (x.subscriber, x.cls, x.ref)

section
variable {r : Rebinding} {ms ns : List Nat} {s t u : State}

theorem Rebinds.refl (r : Rebinding) (s : State) : Rebinds r [] s s where
  frame := rfl
  session _ x hx := ⟨x, hx, by rw [if_neg List.not_mem_nil]⟩
  absent _ h := h
  link _ := rfl
  stranded := rfl
  told := ⟨[], (List.append_nil _).symm, nofun⟩

theorem Rebinds.identity (h : Rebinds r ns s t) {m : Nat} {x y : Session} (hx : s.ses m = some x)
    (hy : t.ses m = some y) : y.identity = x.identity := by
  obtain ⟨z, hz, change⟩ := h.session m x hx
  obtain rfl : z = y := Option.some.inj (hz.symm.trans hy)
  split at change
  · rw [change.2.2.2]; rfl
  · rw [change]; rfl

theorem Rebinds.holdsSlot (h : Rebinds r ns s t) (m : Nat) : t.holdsSlot m = s.holdsSlot m := by
  cases hx : s.ses m with
  | none => simp only [State.holdsSlot, hx, h.absent m hx]
  | some x =>
    obtain ⟨y, hy, -⟩ := h.session m x hx
    have cls : y.cls = x.cls := congrArg (fun i => i.2.1) (h.identity hx hy)
    simp only [State.holdsSlot, hx, hy, Option.any_some, Session.nonEmergency, cls]

theorem Rebinds.trans (h₁ : Rebinds r ms s t) (h₂ : Rebinds r ns t u) : Rebinds r (ms ++ ns) s u where
  frame := by
    have frame := h₂.frame
    rw [h₁.frame] at frame
    exact frame
  session m x hx := by
    have epoch : t.tariff.epoch = s.tariff.epoch := by rw [h₁.frame]
    obtain ⟨y, hy, first⟩ := h₁.session m x hx
    obtain ⟨z, hz, second⟩ := h₂.session m y hy
    refine ⟨z, hz, ?_⟩
    rw [epoch] at second
    by_cases later : m ∈ ns
    · rw [if_pos later] at second
      rw [if_pos (List.mem_append_right _ later)]
      obtain ⟨binding, current, residue, same⟩ := second
      have kept : x.cls = y.cls ∧ z = { x with
          binding := z.binding, epoch := z.epoch, residue := z.residue, carry := z.carry, charge := z.charge
          service := z.service } := by
        split at first
        · obtain ⟨-, -, -, same'⟩ := first
          rw [same, same']
          exact ⟨rfl, rfl⟩
        · rw [same, first]
          exact ⟨rfl, rfl⟩
      exact ⟨binding, current, kept.1 ▸ residue, kept.2⟩
    · rw [if_neg later] at second
      by_cases earlier : m ∈ ms
      · rw [if_pos earlier] at first
        rw [if_pos (List.mem_append_left _ earlier)]
        obtain ⟨binding, current, residue, same⟩ := first
        rw [second]
        refine ⟨binding, current, residue, ?_⟩
        rw [same]
      · rw [if_neg earlier] at first
        rw [if_neg (by simp [earlier, later]), second, first]
  absent m hm := h₂.absent m (h₁.absent m hm)
  link l := by
    have held : ns.map t.holdsSlot = ns.map s.holdsSlot := List.map_congr_left fun m _ => h₁.holdsSlot m
    rw [h₂.link, h₁.link, held, List.map_append, List.foldl_append]
  stranded := by rw [h₂.stranded, h₁.stranded, List.length_append, Nat.add_comm, Function.iterate_add_apply]
  told := by
    obtain ⟨ps, raised, first⟩ := h₁.told
    obtain ⟨qs, raised', second⟩ := h₂.told
    refine ⟨ps ++ qs, by rw [raised', raised, List.append_assoc], fun m hm x hx q hq => ?_⟩
    rw [List.mem_append] at hm ⊢
    refine hm.imp (fun hm => first m hm x hx q hq) fun hm => ?_
    obtain ⟨y, hy, -⟩ := h₁.session m x hx
    have same := h₁.identity hx hy
    simp only [Session.identity, Prod.mk.injEq] at same
    obtain ⟨subscriber, cls, ref⟩ := same
    exact second m hm y hy q (by rw [subscriber, cls, ref]; exact hq)

/-- One session after its cuts: it gets its binding, and the links, the stranded count and the notices follow. -/
theorem rebinds_one {n : Nat} {x : Session} (hs : Sound s) (hx : s.ses n = some x)
    (written : ∀ y, (bindingCutOf n s).ses n = some y → y.identity = x.identity →
      t = { (bindingCutOf n s).setSes n { y with binding := r.binding } with
        sess := ⟨Table.set (bindingCutOf n s).sess.records n { y with binding := r.binding }, t.sess.stranded⟩
        links := t.links, raised := t.raised }
      ∧ (∀ l, t.link l = r.link y.nonEmergency l ((bindingCutOf n s).link l))
      ∧ t.sess.stranded = r.stranded (bindingCutOf n s).sess.stranded
      ∧ t.raised = (bindingCutOf n s).raised ++ r.notices n y.subscriber y.cls y.ref) :
    Rebinds r [n] s t := by
  obtain ⟨cuts, y, hy, cut, epoch, residue⟩ := bindingCutOf_cuts hs hx
  have same : y.identity = x.identity := by rw [cut]; rfl
  obtain ⟨frame, link, stranded, told⟩ := written y hy same
  have rates := cuts.rates
  have slot : s.holdsSlot n = y.nonEmergency := by
    simp only [State.holdsSlot, hx, Option.any_some]
    rw [cut]
    rfl
  have ses (m : Nat) : t.ses m = if m = n then some { y with binding := r.binding } else (bindingCutOf n s).ses m := by
    rw [frame]
    exact Table.get_set ..
  refine ⟨?_, fun m w hw => ?_, fun m hm => ?_, fun l => ?_, ?_, ?_⟩
  · rw [frame]
    generalize t.links = ls
    generalize t.raised = qs
    rw [rates.frame]
    rfl
  · rw [ses]
    by_cases hm : m = n
    · subst hm
      obtain rfl : w = x := Option.some.inj (hw.symm.trans hx)
      refine ⟨_, if_pos rfl, ?_⟩
      rw [if_pos (List.mem_singleton_self m)]
      refine ⟨rfl, epoch, residue, ?_⟩
      rw [cut]
    · obtain ⟨v, hv⟩ := cuts.other m w hm hw
      exact ⟨_, (if_neg hm).trans hv, by rw [if_neg (by simpa using hm)]⟩
  · have apart : m ≠ n := fun e => by rw [e, hx] at hm; cases hm
    rw [ses, if_neg apart]
    have seat : (bindingCutOf n s).seat m = s.seat m := rates.seat m
    simpa [State.seat, hm] using seat
  · rw [link, rates.link]
    simp only [List.map_cons, List.map_nil, List.foldl_cons, List.foldl_nil, slot]
  · rw [stranded, rates.frame]; rfl
  · obtain ⟨qs, hqs⟩ := cuts.told
    refine ⟨qs ++ r.notices n y.subscriber y.cls y.ref, by rw [told, hqs, List.append_assoc], fun m hm w hw q hq => ?_⟩
    obtain rfl := List.mem_singleton.1 hm
    obtain rfl : w = x := Option.some.inj (hw.symm.trans hx)
    simp only [Session.identity, Prod.mk.injEq] at same
    obtain ⟨subscriber, cls, ref⟩ := same
    exact List.mem_append_right _ (by rw [subscriber, cls, ref]; exact hq)

/-- A rebinding of one session after another. -/
theorem rebinds_foldl {f : State → Nat → State} (keeps : ∀ s n, Steady s (f s n))
    (step : ∀ s n x, Sound s → s.ses n = some x → Rebinds r [n] s (f s n)) (hs : Sound s)
    (hn : ∀ n ∈ ns, ∃ x, s.ses n = some x) : Rebinds r ns s (ns.foldl f s) := by
  induction ns generalizing s with
  | nil => exact .refl r s
  | cons n ns ih =>
    rw [List.forall_mem_cons] at hn
    obtain ⟨⟨x, hx⟩, rest⟩ := hn
    have first := step s n x hs hx
    refine first.trans (ih ((keeps s n).sound hs) fun m hm => ?_)
    obtain ⟨y, hy⟩ := rest m hm
    obtain ⟨z, hz, -⟩ := first.session m y hy
    exact ⟨z, hz⟩

end

/-! ### Counts after a rebinding (R40, R115) -/

/-- R122, R129: of some open sessions, those that hold a slot. -/
theorem nonEmergencyAmong_eq {s : State} {ns : List Nat} (hw : Table.wf s.sess.records = true) (hd : ns.Nodup)
    (hn : ∀ n ∈ ns, ∃ x, s.ses n = some x) : s.nonEmergencyAmong ns = (ns.map s.holdsSlot).count true := by
  have same : ((s.sess.records.filter fun p => ns.contains p.1 && p.2.cls != .emergency).map Prod.fst).Perm
      (ns.filter s.holdsSlot) := by
    refine (List.perm_ext_iff_of_nodup ((Table.nodup_keys hw).sublist (List.filter_sublist.map _)) (hd.filter _)).2
      fun n => ?_
    simp only [List.mem_map, List.mem_filter, Bool.and_eq_true, List.contains_iff_mem]
    constructor
    · rintro ⟨p, ⟨hp, hm, hc⟩, rfl⟩
      have hx : s.ses p.1 = some p.2 := Table.get_of_mem hw hp
      exact ⟨hm, by rw [State.holdsSlot, hx]; exact hc⟩
    · rintro ⟨hm, hc⟩
      obtain ⟨x, hx⟩ := hn n hm
      simp only [State.holdsSlot, hx] at hc
      exact ⟨(n, x), ⟨Table.mem_of_get hx, hm, hc⟩, rfl⟩
  have lengths := same.length_eq
  rw [List.length_map] at lengths
  rw [State.nonEmergencyAmong, lengths, List.count_eq_countP, List.countP_map, List.countP_eq_length_filter]
  congr 1
  exact List.filter_congr fun n _ => by simp

/-- The sessions that hold no slot are the others. -/
theorem count_false_eq (cs : List Bool) : cs.count false = cs.length - cs.count true := by
  rw [← List.count_true_add_count_false cs, Nat.add_sub_cancel_left]

/-- R115: a link with one session fewer. -/
def Link.drop (c : Bool) (k : Link) : Link :=
  { k with bound := k.bound - c.toNat, emergency := k.emergency - (!c).toNat }

theorem lose_eq_drop (k : Link) (x : Session) : k.lose x = k.drop x.nonEmergency := by
  unfold Link.lose Link.drop
  cases x.nonEmergency <;> rfl

theorem foldl_drop (cs : List Bool) (k : Link) :
    cs.foldl (fun k c => k.drop c) k =
      { k with bound := k.bound - cs.count true, emergency := k.emergency - cs.count false } := by
  induction cs generalizing k with
  | nil => rfl
  | cons c cs ih => rw [List.foldl_cons, ih]; cases c <;> simp [Link.drop, Nat.sub_sub, Nat.add_comm]

end Sys2Proof.Machine
end

section
/-! Chapter 7, third part: the acceptance of a batch (R131, R132). -/

namespace Sys2Proof.Machine

/-! ### One session accepted (R115, R132) -/

/-- R115, R132: a link that gains a session of an accepted batch, whose slot it had reserved. -/
def Link.settle (c : Bool) (k : Link) : Link :=
  { k with bound := k.bound + c.toNat, emergency := k.emergency + (!c).toNat, reserved := k.reserved - c.toNat }

theorem foldl_settle (cs : List Bool) (k : Link) :
    cs.foldl (fun k c => k.settle c) k =
      { k with
        bound := k.bound + cs.count true, emergency := k.emergency + cs.count false
        reserved := k.reserved - cs.count true } := by
  induction cs generalizing k with
  | nil => rfl
  | cons c cs ih =>
    rw [List.foldl_cons, ih]
    cases c <;> simp [Link.settle, Nat.sub_sub, Nat.add_comm, Nat.add_left_comm]

/-- R132: what an acceptance does for each session of the batch. -/
def accepting (b : Batch) : Rebinding where
  binding := .bound b.dest
  link c l k :=
    let left := if b.source = .link l then k.drop c else k
    if l = b.dest then left.settle c else left
  stranded k := if b.source = .rescue then k - 1 else k
  notices _ _ _ _ := []

theorem loseFrom_link (src : Source) (x : Session) (s : State) (l : LinkId) :
    (loseFrom src x s).link l = if src = .link l then (s.link l).drop x.nonEmergency else s.link l := by
  cases src with
  | link m => simp only [loseFrom, State.link_modLink_eq, lose_eq_drop, Source.link.injEq, eq_comm]
  | rescue => rw [if_neg nofun]; rfl

theorem loseFrom_stranded (src : Source) (x : Session) (s : State) :
    (loseFrom src x s).sess.stranded = if src = .rescue then s.sess.stranded - 1 else s.sess.stranded := by
  cases src <;> rfl

/-- A session that leaves the count of a source changes links and the stranded count and nothing else. -/
theorem loseFrom_frame (src : Source) (x : Session) (s : State) :
    loseFrom src x s = { s with
      links := (loseFrom src x s).links, sess := { s.sess with stranded := (loseFrom src x s).sess.stranded } } := by
  cases src <;> rfl

/-- R115: the slot reserved for a session becomes the one it holds at the destination. -/
theorem settle_link (d : LinkId) (x : Session) (s : State) (l : LinkId) :
    ((releaseSlot d x s).modLink d fun k => k.gain x).link l =
      if l = d then (s.link l).settle x.nonEmergency else s.link l := by
  rw [State.link_modLink_eq]
  by_cases hl : l = d
  · subst hl
    cases hx : x.nonEmergency <;> simp [releaseSlot, Link.gain, Link.settle, hx]
  · rw [if_neg hl, if_neg hl]
    unfold releaseSlot
    split
    · exact State.link_modLink_other s _ hl
    · rfl

theorem rebinds_acceptOne (b : Batch) {n : Nat} {x : Session} {s : State} (hs : Sound s) (hx : s.ses n = some x) :
    Rebinds (accepting b) [n] s (acceptOne b n s) := by
  refine rebinds_one hs hx fun y hy _ => ?_
  simp only [acceptOne, hy]
  generalize bindingCutOf n s = u
  refine ⟨?_, fun l => ?_, ?_, ?_⟩
  · rw [releaseSlot_frame, loseFrom_frame]; rfl
  · rw [settle_link, loseFrom_link]; rfl
  · rw [State.modLink_sess, releaseSlot_sess, loseFrom_stranded]; rfl
  · rw [releaseSlot_frame, loseFrom_frame]; exact (List.append_nil _).symm

/-! ### The whole batch (R132) -/

/-- R40, R132: what sessions of a batch leave of the stranded count. -/
theorem accepting_stranded (b : Batch) (i k : Nat) :
    (accepting b).stranded^[i] k = if b.source = .rescue then k - i else k := by
  induction i generalizing k with
  | zero => simp
  | succ i ih =>
    rw [Function.iterate_succ_apply, ih]
    simp only [accepting]
    split <;> omega

/-- R115, R132: what sessions of a batch make of a link, that is not both source and destination. -/
theorem accepting_link {b : Batch} (apart : b.source ≠ .link b.dest) (cs : List Bool) (l : LinkId) (k : Link) :
    cs.foldl (fun k c => (accepting b).link c l k) k =
      if l = b.dest then
        { k with
          bound := k.bound + cs.count true, emergency := k.emergency + cs.count false
          reserved := k.reserved - cs.count true }
      else if b.source = .link l then
        { k with bound := k.bound - cs.count true, emergency := k.emergency - cs.count false }
      else k := by
  by_cases hd : l = b.dest
  · subst hd
    simp only [accepting, apart, if_true, if_false, foldl_settle]
  · by_cases hs : b.source = .link l
    · simp only [accepting, hd, hs, if_true, if_false, foldl_drop]
    · simp only [accepting, hd, hs, if_false, List.foldl_fixed]

/-- R132: the sessions of the batch and their links after an acceptance. -/
theorem rebinds_acceptAll {b : Batch} {s : State} (hs : Sound s) (hn : ∀ n ∈ b.sessions, ∃ x, s.ses n = some x) :
    Rebinds (accepting b) b.sessions s (b.sessions.foldl (fun s n => acceptOne b n s) s) :=
  rebinds_foldl (fun s n => steady_acceptOne b n s) (fun _ _ _ hs hx => rebinds_acceptOne b hs hx) hs hn

/-- R132: an acceptance, from the rebinding of its sessions. -/
theorem acceptBatch_eq {b : Batch} {o : Order} {rest : List Order} {s : State} (hq : s.mig.queue = o :: rest)
    (kept : (b.sessions.foldl (fun s n => acceptOne b n s) s).mig = s.mig) :
    acceptBatch b s = { b.sessions.foldl (fun s n => acceptOne b n s) s with
      mig := { s.mig with
        queue := { o with moved := min (o.moved + b.sessions.length) 65535 } :: rest, batch := none } } := by
  simp only [acceptBatch, addMoved, kept, hq]
  simp only [State.setQueue, State.setBatch, kept]
  rfl

/-! ### The answer (R131) -/

/-- R131: an answer that names the in-flight batch. -/
theorem batchAnswerAnswer_matches {b : Batch} {s : State} (hb : s.mig.batch = some b) (v : Verdict) (who : Sender) :
    batchAnswerAnswer b.number (some v) who s = answerBatch b v s := by
  simp [batchAnswerAnswer, hb, Option.filter]

/-- R129, R130: the sessions of the in-flight batch are open, and each is named once. -/
theorem batch_open {b : Batch} {s : State} (hc : Counts s) (hb : s.mig.batch = some b) :
    b.sessions.Nodup ∧ ∀ n ∈ b.sessions, ∃ x, s.ses n = some x := by
  have holds := (((counts_iff s).1 hc).2.2 b hb).1
  refine ⟨holds.nodup, fun n hn => ?_⟩
  obtain ⟨c, hc⟩ := holds.moving n hn
  obtain ⟨x, hx, -⟩ := (seat_eq_some_iff ..).1 hc
  exact ⟨x, hx⟩

/-! ### A batch of one session (R70, R72, R132) -/

/-- R178: what a charge tells of blocking goes to RADIO, and its ask to GATEWAY. -/
theorem Charges.toGateway {n k : Nat} {x : Session} {z : ZoneClass} {s t : State} {blocked asked : List Notice}
    {c : Context} {p : Partner} (h : Charges n x z k s t blocked asked) (hc : s.ctx x.subscriber = some c)
    (hp : s.par c.partner = some p) :
    (∀ q ∈ blocked, q.toGateway = false) ∧ ∀ q ∈ asked, q.toGateway = true := by
  obtain ⟨-, -, -, -, rfl, rfl⟩ := h c p hc hp
  refine ⟨fun q hq => ?_, fun q hq => ?_⟩
  · split at hq
    · obtain rfl := List.mem_singleton.1 hq; rfl
    · cases hq
  · split at hq
    · obtain rfl := List.mem_singleton.1 hq; rfl
    · cases hq

/-- R70, R72: the binding cut of a VOICE or DATA session of the current epoch that has a residue: its charge whole. -/
theorem bindingCutOf_charges {s : State} {n : Nat} {x : Session} {c : Context} {p : Partner} (ho : Owned s n x c p)
    (current : s.inPrevious x = false) (pos : 0 < x.residue) (cls : x.cls = .voice ∨ x.cls = .data) :
    let cell := s.cellValues p.plan s.effectiveClass x.cls
    let thousandths := x.residue * cell.price * s.factor x.cls x.binding p.adjustment / cell.blockSize + x.carry
    ∃ u blocked asked,
      Charges n { x with residue := 0, carry := thousandths % 1000, epoch := s.tariff.epoch } s.effectiveClass
          (thousandths / 1000) s u blocked asked
        ∧ bindingCutOf n s = { u with raised := s.raised ++ blocked ++ asked } := by
  have charged : x.cls ≠ .emergency := by obtain e | e := cls <;> rw [e] <;> decide
  have notMessage : x.cls ≠ .message := by obtain e | e := cls <;> rw [e] <;> decide
  have cut := cutAt_charges (s.currentPrice x p) ho.session ((hasResidue_iff x).2 ⟨charged, notMessage, pos⟩)
    ho.context ho.partner
  have steps : bindingCutOf n s = cutAt n (s.currentPrice x p) s := by
    simp only [bindingCutOf, epochCutOf_current ho.session current, ho.session, partnerOf_eq ho.context ho.partner]
  rw [steps]
  rw [currentPrice_eq charged] at cut ⊢
  exact cut

/-- R132: what an acceptance writes after the binding cut of a session is the links, the stranded count and the
session's binding. -/
theorem acceptOne_frame (b : Batch) (n : Nat) (s : State) :
    (acceptOne b n s).raised = (bindingCutOf n s).raised ∧ (acceptOne b n s).tariff = (bindingCutOf n s).tariff
      ∧ (acceptOne b n s).subs = (bindingCutOf n s).subs
      ∧ ∀ j, (acceptOne b n s).ses j =
        if j = n then ((bindingCutOf n s).ses j).map fun y => { y with binding := .bound b.dest }
        else (bindingCutOf n s).ses j := by
  unfold acceptOne
  generalize bindingCutOf n s = u
  cases hx : u.ses n with
  | none =>
    simp only [hx, true_and]
    intro j
    by_cases hj : j = n
    · subst hj; simp [hx]
    · simp [hj]
  | some x =>
    simp only [hx]
    rw [releaseSlot_frame, loseFrom_frame]
    refine ⟨rfl, rfl, rfl, fun j => ?_⟩
    have read : ((u.setSes n { x with binding := .bound b.dest }).ses j) = if j = n then
        (u.ses j).map fun y => { y with binding := .bound b.dest } else u.ses j := by
      by_cases hj : j = n
      · subst hj; simp [hx]
      · simp [State.ses_setSes_other _ _ hj, hj]
    exact read

/-- Settles O49: the sessions of an accepted batch are cut and bound to its destination, one after another. -/
theorem batchAcceptRebinds : Obligations.BatchAcceptRebinds := by
  intro h b o rest s hr hh hb hq books listed counts apart charged others source
  obtain ⟨nodup, openOnes⟩ := batch_open counts hb
  have sound := sound_of_listed books listed
  have rebinds := rebinds_acceptAll sound openOnes
  have accepted := acceptBatch_eq hq (by rw [rebinds.frame])
  have slots : charged = (b.sessions.map s.holdsSlot).count true := nonEmergencyAmong_eq counts.1 nodup openOnes
  have free : others = (b.sessions.map s.holdsSlot).count false := by
    rw [count_false_eq, List.length_map, ← slots]
  obtain ⟨qs, told, -⟩ := rebinds.told
  rw [hr.1, List.nil_append] at told
  have named : source = b.source.code := by
    unfold source
    cases b.source <;> rfl
  have answer : batchAnswerAnswer b.number (some .accept) ⟨h.client, .router⟩ s = ⟨.ok,
      [.u16 b.number, .u8 0, .u8 b.sessions.length, .u8 b.source.code, .u8 1],
      { { acceptBatch b s with raised := [] } with raised := qs }⟩ := by
    rw [batchAnswerAnswer_matches hb]
    simp only [answerBatch, Answer.mk.injEq, true_and]
    refine ⟨rfl, ?_⟩
    rw [accepted, ← told]
  rw [named]
  generalize hu : b.sessions.foldl (fun s n => acceptOne b n s) s = u at *
  refine ⟨{ acceptBatch b s with raised := [] }, _, _, request_raises hr hh rfl answer rfl ?_ ?_, ?_, ?_, ?_, ?_, ?_,
    ?_⟩
  all_goals rw [accepted]
  · rw [rebinds.frame]; exact hr.2
  · rw [rebinds.frame]
  · exact rebinds.session
  · exact rebinds.absent
  · intro l
    rw [slots, free, ← accepting_link apart]
    exact rebinds.link l
  · exact rebinds.stranded.trans (accepting_stranded b _ _)
  · refine ⟨by rw [rebinds.frame], by rw [rebinds.frame], by rw [rebinds.frame], by rw [rebinds.frame], ?_⟩
    intro m x c p hm hx current pos cls hc hp cell thousandths
    obtain ⟨v, blocked, asked, charges, cut⟩ := bindingCutOf_charges ⟨hx, hc, hp⟩ current pos cls
    obtain ⟨raised, tariff, subs, ses⟩ := acceptOne_frame b m s
    obtain rfl : acceptOne b m s = u := by rw [← hu, hm]; rfl
    have news : qs = blocked ++ asked := by rw [← told, raised, cut, hr.1]; rfl
    obtain ⟨quiet, asks⟩ := charges.toGateway hc hp
    have before : qs.filter (! ·.toGateway) = blocked := by
      rw [news, List.filter_append, List.filter_eq_self.2 fun q hq => by simp [quiet q hq],
        List.filter_eq_nil_iff.2 fun q hq => by simp [asks q hq], List.append_nil]
    have after : qs.filter (·.toGateway) = asked := by
      rw [news, List.filter_append, List.filter_eq_nil_iff.2 fun q hq => by simp [quiet q hq],
        List.filter_eq_self.2 fun q hq => by simp [asks q hq], List.nil_append]
    rw [before, after]
    refine ⟨v, charges, tariff.trans (by rw [cut]), subs.trans (by rw [cut]), fun j => (ses j).trans ?_⟩
    rw [cut]
    rfl

end Sys2Proof.Machine
end

section
/-! Chapter 7, fourth part: sessions given a binding, the return of a batch, and the end of an order with the stranding
of its sessions (R133, R138, R139). -/

namespace Sys2Proof.Machine

/-! ### Sessions given a binding (R129, R133) -/

/-- The state with the sessions at some handles given a binding. -/
def State.withBinding (s : State) (ns : List Nat) (b : Binding) : State :=
  { s with sess := { s.sess with
    records := s.sess.records.map fun p => if p.1 ∈ ns then (p.1, { p.2 with binding := b }) else p } }

theorem withBinding_nil (s : State) (b : Binding) : s.withBinding [] b = s := by
  simp [State.withBinding]

theorem withBinding_cons (s : State) (n : Nat) (ns : List Nat) (b : Binding) :
    (s.withBinding [n] b).withBinding ns b = s.withBinding (n :: ns) b := by
  simp only [State.withBinding, List.map_map]
  congr 2
  refine List.map_congr_left fun p _ => ?_
  by_cases hn : p.1 = n <;> by_cases hm : p.1 ∈ ns <;> simp [hn, hm]

/-- A session written with another binding. -/
theorem setSes_eq_withBinding {s : State} {n : Nat} {x : Session} (hw : Table.wf s.sess.records = true)
    (hx : s.ses n = some x) (b : Binding) : s.setSes n { x with binding := b } = s.withBinding [n] b := by
  have written := (Table.set_eq_mapAt { x with binding := b } hw hx).trans
    (Table.mapAt_congr (g := fun y => { y with binding := b }) hw hx rfl)
  simp only [State.setSes, State.withBinding, written, Table.mapAt, List.mem_singleton]

theorem withBinding_wf {s : State} {n : Nat} {x : Session} (hw : Table.wf s.sess.records = true)
    (hx : s.ses n = some x) (b : Binding) : Table.wf (s.withBinding [n] b).sess.records = true := by
  rw [← setSes_eq_withBinding hw hx]
  exact Table.wf_set _ _ _ hw

theorem withBinding_holdsSlot {s : State} {n : Nat} {x : Session} (hw : Table.wf s.sess.records = true)
    (hx : s.ses n = some x) (b : Binding) (m : Nat) : (s.withBinding [n] b).holdsSlot m = s.holdsSlot m := by
  rw [← setSes_eq_withBinding hw hx]
  by_cases hm : m = n
  · subst hm; simp [State.holdsSlot, hx, Session.nonEmergency]
  · simp [State.holdsSlot, State.ses_setSes_other _ _ hm]

theorem withBinding_ses_other {s : State} {n m : Nat} {x : Session} (hw : Table.wf s.sess.records = true)
    (hx : s.ses n = some x) (b : Binding) (hm : m ≠ n) : (s.withBinding [n] b).ses m = s.ses m := by
  rw [← setSes_eq_withBinding hw hx]
  exact State.ses_setSes_other _ _ hm

/-! ### The return of a batch (R133) -/

/-- R115: a link with some reserved slots released. -/
def Link.release (i : Nat) (k : Link) : Link := { k with reserved := k.reserved - i }

theorem release_release (s : State) (d : LinkId) (i j : Nat) :
    (s.modLink d (Link.release i)).modLink d (Link.release j) = s.modLink d (Link.release (i + j)) := by
  simp only [State.modLink_modLink, Link.release, Nat.sub_sub]
  rfl

theorem modLink_release_zero (s : State) (d : LinkId) : s.modLink d (Link.release 0) = s := by
  have same : (Link.release 0 (s.link d)) = s.link d := rfl
  rw [State.modLink_links, same, State.links_set_self]

theorem returnOne_eq {b : Batch} {n : Nat} {x : Session} {s : State} (hw : Table.wf s.sess.records = true)
    (hx : s.ses n = some x) :
    returnOne b n s = (s.withBinding [n] (homeBinding b.source)).modLink b.dest
      (Link.release (s.holdsSlot n).toNat) := by
  have slot : s.holdsSlot n = x.nonEmergency := by rw [State.holdsSlot, hx]; rfl
  simp only [returnOne, hx, releaseSlot]
  rw [setSes_eq_withBinding hw hx, slot]
  cases x.nonEmergency with
  | false => rw [if_neg Bool.false_ne_true, Bool.toNat_false, modLink_release_zero]
  | true => rfl

/-- R133: sessions of a batch returned one after another, and the slots they had reserved released. -/
theorem returnList_eq (b : Batch) {ns : List Nat} {s : State} (hw : Table.wf s.sess.records = true) (hd : ns.Nodup)
    (hn : ∀ n ∈ ns, ∃ x, s.ses n = some x) :
    ns.foldl (fun s n => returnOne b n s) s = (s.withBinding ns (homeBinding b.source)).modLink b.dest
      (Link.release ((ns.map s.holdsSlot).count true)) := by
  induction ns generalizing s with
  | nil => rw [withBinding_nil]; exact (modLink_release_zero s b.dest).symm
  | cons n ns ih =>
    rw [List.nodup_cons] at hd
    rw [List.forall_mem_cons] at hn
    obtain ⟨⟨x, hx⟩, rest⟩ := hn
    have held (m : Nat) := withBinding_holdsSlot hw hx (homeBinding b.source) m
    have later := ih (s := (s.withBinding [n] (homeBinding b.source)).modLink b.dest
        (Link.release (s.holdsSlot n).toNat))
      (withBinding_wf hw hx _) hd.2 fun m hm => by
        have apart : m ≠ n := fun e => hd.1 (e ▸ hm)
        rw [State.ses_modLink, withBinding_ses_other hw hx _ apart]
        exact rest m hm
    have slots : ns.map ((s.withBinding [n] (homeBinding b.source)).modLink b.dest
        (Link.release (s.holdsSlot n).toNat)).holdsSlot = ns.map s.holdsSlot := List.map_congr_left fun m _ => held m
    rw [List.foldl_cons, returnOne_eq hw hx, later, slots]
    have moved (t : State) (f : Link → Link) : (t.modLink b.dest f).withBinding ns (homeBinding b.source) =
        (t.withBinding ns (homeBinding b.source)).modLink b.dest f := rfl
    rw [moved, withBinding_cons, release_release, List.map_cons, List.count_cons]
    congr 2
    cases s.holdsSlot n <;> simp [Nat.add_comm]

/-- R133: the return of a batch brings each session back and releases the slots reserved. -/
theorem returnBatch_eq {b : Batch} {s : State} (hw : Table.wf s.sess.records = true) (hd : b.sessions.Nodup)
    (hn : ∀ n ∈ b.sessions, ∃ x, s.ses n = some x) : returnBatch b s = s.returned b := by
  rw [returnBatch, returnList_eq b hw hd hn, ← nonEmergencyAmong_eq hw hd hn]
  unfold State.returned
  cases b.source <;> rfl

/-! ### Stranding (R138, R139) -/

/-- R139: what stranding does for each session of a link. -/
def stranding (l : LinkId) : Rebinding where
  binding := .stranded
  link c m k := if m = l then k.drop c else k
  stranded k := k + 1
  notices n subscriber cls ref := [.stranded n subscriber cls (some l) ref]

theorem rebinds_strandOne (l : LinkId) {n : Nat} {x : Session} {s : State} (hs : Sound s) (hx : s.ses n = some x) :
    Rebinds (stranding l) [n] s (strandOne l n s) := by
  refine rebinds_one hs hx fun y hy _ => ?_
  simp only [strandOne, hy]
  generalize bindingCutOf n s = u
  refine ⟨rfl, fun m => ?_, rfl, rfl⟩
  have read : (u.modLink l fun k => k.lose y).link m = if m = l then (u.link m).drop y.nonEmergency else u.link m := by
    rw [State.link_modLink_eq, lose_eq_drop]
  exact read

theorem rebinds_strandAll (l : LinkId) {ns : List Nat} {s : State} (hs : Sound s)
    (hn : ∀ n ∈ ns, ∃ x, s.ses n = some x) :
    Rebinds (stranding l) ns s (ns.foldl (fun s n => strandOne l n s) s) :=
  rebinds_foldl (fun s n => steady_strandOne l n s) (fun _ _ _ hs hx => rebinds_strandOne l hs hx) hs hn

theorem stranding_link (l m : LinkId) (cs : List Bool) (k : Link) :
    cs.foldl (fun k c => (stranding l).link c m k) k =
      if m = l then { k with bound := k.bound - cs.count true, emergency := k.emergency - cs.count false } else k := by
  by_cases hm : m = l
  · simp only [stranding, hm, if_true, foldl_drop]
  · simp only [stranding, hm, if_false, List.foldl_fixed]

theorem stranding_stranded (l : LinkId) (i k : Nat) : (stranding l).stranded^[i] k = k + i := by
  induction i generalizing k with
  | zero => rfl
  | succ i ih => rw [Function.iterate_succ_apply, ih]; simp only [stranding]; omega

/-! ### The end of an order (R138) -/

theorem scopeAdmits_eq (c : Scope) (cls : TrafficClass) : scopeAdmits c cls = (c == .all || cls != .emergency) := by
  cases c <;> rfl

/-- R122: the sessions in scope, by handle. -/
theorem inScope_handles (s : State) (o : Order) : (s.inScope o).map Prod.fst = s.scopeHandles o := by
  unfold State.inScope State.scopeHandles
  congr 1
  exact List.filter_congr fun p _ => congrArg (onSource o.source p.2.binding && ·) (scopeAdmits_eq ..)

theorem mem_scopeHandles {s : State} {o : Order} {n : Nat} (hw : Table.wf s.sess.records = true)
    (hn : n ∈ s.scopeHandles o) : ∃ x, s.ses n = some x := by
  rw [← inScope_handles] at hn
  obtain ⟨p, hp, rfl⟩ := List.mem_map.1 hn
  exact ⟨p.2, (mem_inScope hw hp).1⟩

theorem strandedBy_eq_nil {o : Order} {outcome : OrderOutcome} {s : State}
    (h : (outcome ≠ .stranded ∧ outcome ≠ .aborted) ∨ ¬ s.strands o) : strandedBy o outcome s = [] := by
  unfold strandedBy
  split
  · rfl
  · next l hl =>
    refine if_neg fun ⟨ends, down⟩ => ?_
    obtain other | stands := h
    · exact ends.elim other.1 other.2
    · exact stands ⟨l, hl, down⟩

/-- R138: an order that ends without stranding is told and leaves the queue. -/
theorem endOrder_quiet {o : Order} {rest : List Order} {outcome : OrderOutcome} {s : State}
    (hq : s.mig.queue = o :: rest) (hn : strandedBy o outcome s = []) :
    endOrder outcome s =
      { s with mig := { s.mig with queue := rest }, raised := s.raised ++ [endOf o outcome 0] } := by
  have none_stranded : strandAll o [] s = s := by unfold strandAll; split <;> rfl
  simp only [endOrder, hq, hn, none_stranded]
  simp only [State.setQueue, State.raise, hq]
  rfl

/-- R138, R139: an order whose source is a link that is DOWN or SUSPECT strands its sessions as it ends so. -/
theorem endOrder_strands {o : Order} {rest : List Order} {outcome : OrderOutcome} {l : LinkId} {s : State}
    (hs : Sound s) (hq : s.mig.queue = o :: rest) (ends : outcome = .stranded ∨ outcome = .aborted)
    (hl : o.source = .link l) (down : (s.link l).state = .down ∨ (s.link l).state = .suspect) :
    ∃ t ns, endOrder outcome s = { t with raised := s.raised ++ ns } ∧ t.raised = []
      ∧ Strands o rest l outcome s t ns := by
  have wf := hs.2.2.1
  have openOnes : ∀ n ∈ s.scopeHandles o, ∃ x, s.ses n = some x := fun n hn => mem_scopeHandles wf hn
  have nodup : (s.scopeHandles o).Nodup := inScope_handles s o ▸ inScope_nodup o wf
  have named : strandedBy o outcome s = s.scopeHandles o := by
    simp only [strandedBy, hl, ends, down, and_self, if_true, inScope_handles]
  have rebinds := rebinds_strandAll l hs openOnes
  have all : strandAll o (s.scopeHandles o) s = (s.scopeHandles o).foldl (fun s n => strandOne l n s) s := by
    simp only [strandAll, hl]
  have slots := nonEmergencyAmong_eq wf nodup openOnes
  have free : (s.scopeHandles o).length - s.nonEmergencyAmong (s.scopeHandles o) =
      ((s.scopeHandles o).map s.holdsSlot).count false := by rw [count_false_eq, List.length_map, slots]
  generalize (s.scopeHandles o).foldl (fun s n => strandOne l n s) s = u at rebinds all
  obtain ⟨qs, told, tells⟩ := rebinds.told
  refine ⟨{ u with mig := { s.mig with queue := rest }, raised := [] },
    qs ++ [endOf o outcome (s.scopeHandles o).length], ?_, rfl, rfl, rebinds.session, rebinds.absent, fun m => ?_,
    rebinds.stranded.trans (stranding_stranded l _ _), fun m hm => ?_, List.getLast?_concat, ?_, ?_, ?_, ?_⟩
  · have kept : u.mig = s.mig := by rw [rebinds.frame]
    simp only [endOrder, hq, named, all]
    simp only [State.setQueue, State.raise, kept, hq, told, List.append_assoc]
    rfl
  · have final := rebinds.link m
    rw [stranding_link, ← slots, ← free] at final
    refine Eq.trans (b := u.link m) rfl (final.trans ?_)
    split
    · next h => rw [h]
    · rfl
  · obtain ⟨x, hx⟩ := openOnes m hm
    exact ⟨x, hx, List.mem_append_left _ (tells m hm x hx _ (List.mem_singleton_self _))⟩
  all_goals rw [rebinds.frame]

end Sys2Proof.Machine
end

section
/-! Chapter 7, fifth part: a batch refused, timed out or whose destination is lost (R131, R133 to R135). -/

namespace Sys2Proof.Machine

/-! ### The order of a batch that failed (R133) -/

section
variable {o : Order} {rest : List Order} {d l : LinkId} {s : State}

theorem batchFailed_auto (hq : s.mig.queue = o :: rest) (hd : o.dest = .auto) :
    batchFailed d s = { s with mig := { s.mig with queue := o.without d :: rest } } := by
  unfold batchFailed
  rw [hq]
  dsimp only
  split
  · next fixed => rw [hd] at fixed; cases fixed
  · rfl

theorem batchFailed_fixed {e : LinkId} (hq : s.mig.queue = o :: rest) (hd : o.dest = .fixed e) :
    batchFailed d s = endOrder .aborted s := by
  simp only [batchFailed, hq, hd]

theorem batchFailed_quiet {e : LinkId} (hq : s.mig.queue = o :: rest) (hd : o.dest = .fixed e) (hn : ¬ s.strands o) :
    batchFailed d s =
      { s with mig := { s.mig with queue := rest }, raised := s.raised ++ [endOf o .aborted 0] } :=
  (batchFailed_fixed hq hd).trans (endOrder_quiet hq (strandedBy_eq_nil (.inr hn)))

theorem batchFailed_strands {e : LinkId} (hs : Sound s) (hq : s.mig.queue = o :: rest) (hd : o.dest = .fixed e)
    (hl : o.source = .link l) (down : (s.link l).state = .down ∨ (s.link l).state = .suspect) :
    ∃ t ns, batchFailed d s = { t with raised := s.raised ++ ns } ∧ t.raised = []
      ∧ Strands o rest l .aborted s t ns := by
  rw [batchFailed_fixed hq hd]
  exact endOrder_strands hs hq (.inr rfl) hl down

/-- R178: in the answer to a request the notices to GATEWAY stand last; what a stranding tells is the same. -/
theorem Strands.reorder {outcome : OrderOutcome} {t : State} {ns : List Notice} (h : Strands o rest l outcome s t ns) :
    Strands o rest l outcome s t (ns.filter (·.toGateway) ++ ns.filter (! ·.toGateway)) := by
  obtain ⟨mig, sessions, absent, links, stranded, tells, last, frame⟩ := h
  refine ⟨mig, sessions, absent, links, stranded, fun m hm => ?_, ?_, frame⟩
  · obtain ⟨x, hx, hq⟩ := tells m hm
    exact ⟨x, hx, List.mem_append_right _ (List.mem_filter.2 ⟨hq, rfl⟩)⟩
  · obtain ⟨ms, rfl⟩ := List.getLast?_eq_some_iff.1 last
    have final : (ms ++ [endOf o outcome (s.scopeHandles o).length]).filter (! ·.toGateway) =
        ms.filter (! ·.toGateway) ++ [endOf o outcome (s.scopeHandles o).length] := List.filter_append ..
    rw [final, ← List.append_assoc]
    exact List.getLast?_concat

/-- What a stranding leaves of a link: all but the counts of sessions bound. -/
theorem Strands.link_kept {outcome : OrderOutcome} {t : State} {ns : List Notice} (h : Strands o rest l outcome s t ns)
    (m : LinkId) : (t.link m).state = (s.link m).state ∧ (t.link m).quality = (s.link m).quality
      ∧ (t.link m).streak = (s.link m).streak := by
  obtain ⟨-, -, -, links, -⟩ := h
  rw [links m]
  split
  · next e => rw [e]; exact ⟨rfl, rfl, rfl⟩
  · exact ⟨rfl, rfl, rfl⟩

/-- What a stranding leaves of the state beside sessions, links and queue. -/
theorem Strands.frame {outcome : OrderOutcome} {t : State} {ns : List Notice} (h : Strands o rest l outcome s t ns) :
    t.zone = s.zone ∧ t.time = s.time ∧ t.port = s.port := by
  obtain ⟨-, -, -, -, -, -, -, zone, time, port, -⟩ := h
  exact ⟨zone, time, port⟩

end

/-- R133: the return of a batch changes no link's state. -/
theorem returned_state (s : State) (b : Batch) (l : LinkId) : ((s.returned b).link l).state = (s.link l).state := by
  refine (congrArg Link.state (s.link_set b.dest l { s.link b.dest with
    reserved := (s.link b.dest).reserved - s.nonEmergencyAmong b.sessions })).trans ?_
  split
  · next e => rw [e]
  · rfl

/-! ### The answer of a refusal (R131) -/

section
variable {b : Batch} {o : Order} {rest : List Order} {s : State}

theorem batchAnswerAnswer_badValue (n : Nat) (who : Sender) (s : State) :
    batchAnswerAnswer n none who s = refuse .badValue s := rfl

theorem batchAnswerAnswer_late {n : Nat} {s : State} (hn : ∀ b, s.mig.batch = some b → b.number ≠ n) (v : Verdict)
    (who : Sender) : batchAnswerAnswer n (some v) who s = refuse .late s := by
  have unmatched : s.mig.batch.filter (fun b => b.number == n) = none :=
    Option.filter_eq_none_iff.2 fun b hb => by simpa using hn b hb
  simp only [batchAnswerAnswer, unmatched]

/-- R131: the answer of a refusal, from the state after it. -/
theorem batchAnswerAnswer_refuse {byte : Nat} {t : State} (hc : Counts s) (hb : s.mig.batch = some b)
    (hq : s.mig.queue = o :: rest) (hbyte : fAnsweredOrder b.number true (some o) = .u8 byte)
    (ht : batchFailed b.dest (s.returned b) = t) (who : Sender) :
    batchAnswerAnswer b.number (some .refuse) who s =
      ⟨.ok, [.u16 b.number, .u8 1, .u8 0, .u8 b.source.code, .u8 byte], t⟩ := by
  obtain ⟨nodup, openOnes⟩ := batch_open hc hb
  have running : s.running = some o := by rw [State.running, hq]; rfl
  rw [batchAnswerAnswer_matches hb]
  simp only [answerBatch, refuseBatch, returnBatch_eq hc.1 nodup openOnes, ht, running, hbyte]
  rfl

theorem fAnsweredOrder_auto (n : Nat) (hd : o.dest = .auto) : fAnsweredOrder n true (some o) = .u8 1 := by
  simp only [fAnsweredOrder, Option.map_some, hd]
  rfl

theorem fAnsweredOrder_fixed {d : LinkId} (n : Nat) (hd : o.dest = .fixed d) :
    fAnsweredOrder n true (some o) = .u8 (Config.endedOrderState n).toNat := by
  simp only [fAnsweredOrder, Option.map_some, hd]

/-! ### The timeout (R134) -/

theorem exec_batchTimeout (s : State) : exec .batchTimeout s = .next (batchTimeoutEffect s).flush := rfl

theorem exec_batchTimeout_early (hr : s.ready) (early : ∀ b, s.mig.batch = some b → s.time.clock < b.deadline) :
    exec .batchTimeout s = .next s := by
  have waits : batchTimeoutEffect s = s := by
    unfold batchTimeoutEffect
    split
    · rfl
    · next b hb => exact if_neg (by simpa [State.passed] using early b hb)
  rw [exec_batchTimeout, waits, flush_quiet hr.1]

/-- R134: a timeout at the deadline, from the state after it. -/
theorem exec_batchTimeout_due {t : State} {ns : List Notice} (hr : s.ready) (hc : Counts s) (hb : s.mig.batch = some b)
    (due : b.deadline ≤ s.time.clock)
    (ht : batchFailed b.dest { s.returned b with
      raised := [.batchAbandoned b.number b.source b.dest .timeout b.sessions.length] } = { t with raised := ns })
    (quiet : t.raised = []) (port : t.port = s.port) : exec .batchTimeout s = noticed t ns := by
  obtain ⟨nodup, openOnes⟩ := batch_open hc hb
  have passed : s.passed b.deadline = true := decide_eq_true due
  have abandons : batchTimeoutEffect s = { t with raised := ns } := by
    simp only [batchTimeoutEffect, hb, passed, if_true, abandonBatch, returnBatch_eq hc.1 nodup openOnes]
    rw [← ht]
    unfold State.raise
    have silent : (s.returned b).raised = [] := hr.1
    rw [silent]
    rfl
  rw [exec_batchTimeout, abandons, flush_raised quiet (port ▸ hr.2)]

end

/-! ### The loss of the destination (R110, R135) -/

/-- R110, R135: the state after a report that takes the destination of a batch out of UP and the batch's return. -/
def State.lost (s : State) (b : Batch) (st : LinkState) (v : Nat) : State :=
  { s.returned b with
    links := (s.returned b).links.set b.dest { (s.returned b).link b.dest with
      state := st, quality := v, streak := 0 } }

/-- R110, R134: what the loss of a batch's destination tells before its order goes on. -/
def State.lossNews (s : State) (b : Batch) (st : LinkState) (v : Nat) : List Notice :=
  [.linkState b.dest (s.link b.dest).kind .up st .report v (s.link b.dest).bound (s.link b.dest).emergency
    (s.link b.dest).discrepancy,
    .batchAbandoned b.number b.source b.dest .destinationLost b.sessions.length]

section
variable {b : Batch} {s : State} {st : LinkState} {v : Nat}

theorem lost_link (s : State) (b : Batch) (st : LinkState) (v : Nat) :
    (s.lost b st v).link b.dest = { (s.returned b).link b.dest with state := st, quality := v, streak := 0 } :=
  ((s.returned b).link_set b.dest b.dest _).trans (if_pos rfl)

/-- R133: the batch returns to the same, whether before or after its destination's change of state. -/
theorem returned_of_changed (s : State) (b : Batch) (st : LinkState) (v : Nat) (qs : List Notice) :
    State.returned { s with
      links := s.links.set b.dest { s.link b.dest with state := st, quality := v, streak := 0 }, raised := qs } b =
      { s.lost b st v with raised := qs } := by
  have changed := s.link_written b.dest { s.link b.dest with state := st, quality := v, streak := 0 } qs s.mig
  have back := s.link_written b.dest { s.link b.dest with
    reserved := (s.link b.dest).reserved - s.nonEmergencyAmong b.sessions } s.raised { s.mig with batch := none }
  have home : (s.returned b).link b.dest = { s.link b.dest with
    reserved := (s.link b.dest).reserved - s.nonEmergencyAmong b.sessions } := back
  unfold State.lost
  rw [home]
  simp only [State.returned, changed, links_set_set]
  rfl

/-- R110, R135: a change of state by which a link in UP loses the batch of which it is the destination. -/
theorem takeReport_loses {i : Indication} (hc : Counts s) (hb : s.mig.batch = some b)
    (enters : (s.link b.dest).reportEnters i v = some st) (hst : st ≠ .up) :
    takeReport b.dest i v s = raiseForState b.dest .up st
      (batchFailed b.dest { s.lost b st v with raised := s.raised ++ s.lossNews b st v }) := by
  obtain ⟨nodup, openOnes⟩ := batch_open hc hb
  have up : (s.link b.dest).state = .up := (((counts_iff s).1 hc).2.2 b hb).2
  simp only [takeReport, State.link_modLink, judge_eq, enters, Option.map_some, Option.getD_some]
  simp only [changeState, State.link_modLink, up, State.modLink_modLink]
  congr 1
  have batch (note : Notice) : ((s.modLink b.dest fun k =>
      { k with quality := v, state := st, streak := 0 }).raise note).mig.batch = some b := hb
  have back (note : Notice) := returnBatch_eq
    (s := (s.modLink b.dest fun k => { k with quality := v, state := st, streak := 0 }).raise note) hc.1 nodup openOnes
  simp only [loseDestination, batch, hst, ne_eq, not_false_eq_true, and_self, if_true, abandonBatch, back]
  have told : linkNotice b.dest .up .report (s.modLink b.dest fun k =>
      { k with quality := v, state := st, streak := 0 }) = .linkState b.dest (s.link b.dest).kind .up st .report v
        (s.link b.dest).bound (s.link b.dest).emergency (s.link b.dest).discrepancy := by
    simp only [linkNotice, State.link_modLink]
  rw [told]
  generalize hn : Notice.linkState b.dest (s.link b.dest).kind .up st .report v (s.link b.dest).bound
    (s.link b.dest).emergency (s.link b.dest).discrepancy = note
  have news : s.raised ++ s.lossNews b st v =
      s.raised ++ [note] ++ [.batchAbandoned b.number b.source b.dest .destinationLost b.sessions.length] := by
    rw [State.lossNews, hn, List.append_assoc]
    rfl
  rw [news]
  exact congrArg (fun u : State => batchFailed b.dest
    (u.raise (.batchAbandoned b.number b.source b.dest .destinationLost b.sessions.length)))
    (returned_of_changed s b st v (s.raised ++ [note]))

/-- R111: the order that a link which leaves UP for DOWN or DEGRADED raises. -/
theorem raiseForState_lost (l : LinkId) (hst : st = .down ∨ st = .degraded) (s : State) :
    raiseForState l .up st s = { s with
      mig := { s.mig with
        queue := handedOrder s.silent (.link l) .all (if st = .down then .failed else .degraded) s.mig.queue } } := by
  obtain rfl | rfl := hst
  · exact raiseOrder_eq ..
  · exact raiseOrder_eq ..

/-- R109: the reports that take a link out of UP. -/
theorem reportEnters_lost {k : Link} {i : Indication} (up : k.state = .up)
    (report : ((i = .down ∨ v = 0) ∧ st = .down)
      ∨ (i = .up ∧ 0 < v ∧ v < k.degrade ∧ k.hold ≤ k.streak + 1 ∧ st = .degraded)) :
    k.reportEnters i v = some st ∧ (st = .down ∨ st = .degraded) := by
  obtain ⟨silenced, rfl⟩ | ⟨rfl, pos, low, held, rfl⟩ := report
  · exact ⟨by simp [Link.reportEnters, up, silenced], .inl rfl⟩
  · exact ⟨by simp [Link.reportEnters, up, pos.ne', low, held], .inr rfl⟩

/-- R111: the state with the order that its link's leaving UP for `st` raises. -/
def State.withLossOrder (t : State) (silent : Bool) (l : LinkId) (st : LinkState) : State :=
  { t with
    mig := { t.mig with
      queue := handedOrder silent (.link l) .all (if st = .down then .failed else .degraded) t.mig.queue } }

/-- R108, R110, R135: the answer of a LINK_REPORT that takes the destination of a batch out of UP, from the state after
the batch's order has gone on. -/
theorem linkReport_loses {h : Header} {i : Indication} {q : Nat} {t : State} {ns : List Notice} (hr : s.ready)
    (hh : s.hears h .linkReport .router) (hc : Counts s) (hb : s.mig.batch = some b)
    (enters : (s.link b.dest).reportEnters i (min q 100) = some st) (hst : st = .down ∨ st = .degraded)
    (fails : batchFailed b.dest { s.lost b st (min q 100) with raised := s.lossNews b st (min q 100) } =
      { t with raised := s.lossNews b st (min q 100) ++ ns })
    (quiet : t.raised = []) (frame : t.zone = s.zone ∧ t.time = s.time ∧ t.port = s.port)
    (link : (t.link b.dest).state = st ∧ (t.link b.dest).quality = min q 100 ∧ (t.link b.dest).streak = 0) :
    exec (.linkReport h b.dest.val (some i) q) s =
      answered h .linkReport (if 100 < q then .okClamped else .ok)
        [.u8 b.dest.val, .u8 2, .u8 st.code, .u8 (min q 100), .u8 0] s (t.withLossOrder s.silent b.dest st)
        (s.lossNews b st (min q 100) ++ ns.filter (! ·.toGateway)) (ns.filter (·.toGateway)) := by
  obtain ⟨zone, time, port⟩ := frame
  obtain ⟨state, quality, streak⟩ := link
  have hne : st ≠ .up := by obtain rfl | rfl := hst <;> nofun
  have up : (s.link b.dest).state = .up := (((counts_iff s).1 hc).2.2 b hb).2
  have silent : t.silent = s.silent := by rw [State.silent, zone]; rfl
  have taken : takeReport b.dest i (min q 100) s =
      { t.withLossOrder s.silent b.dest st with raised := s.lossNews b st (min q 100) ++ ns } := by
    rw [takeReport_loses hc hb enters hne, hr.1, List.nil_append, fails, raiseForState_lost _ hst, ← silent]
    rfl
  have answer := linkReportAnswer_eq (q := q) ⟨h.client, .router⟩ taken rfl
  have read : State.link { t.withLossOrder s.silent b.dest st with
    raised := s.lossNews b st (min q 100) ++ ns } b.dest = t.link b.dest := rfl
  rw [read, up, state, quality, streak] at answer
  exact request_raises hr hh rfl answer quiet (port ▸ hr.2) (congrArg TimeBase.clock time)

end

/-- Settles O50: the ends of a batch that is not accepted, each by what becomes of its order. -/
theorem batchFailureReturns : Obligations.BatchFailureReturns := by
  intro h s hr hh
  refine ⟨fun n => request_refuses hr hh rfl (batchAnswerAnswer_badValue n _ s), fun n v hn =>
    request_refuses hr hh rfl (batchAnswerAnswer_late hn v _), exec_batchTimeout_early hr, ?_⟩
  intro b o rest hb hq books listed counts source back left abandoned refusal
  have sound : Sound (returnBatch b s) := (steady_returnBatch b s).sound (sound_of_listed books listed)
  obtain ⟨nodup, openOnes⟩ := batch_open counts hb
  rw [returnBatch_eq counts.1 nodup openOnes] at sound
  have queue : back.mig.queue = o :: rest := hq
  have named : source = b.source.code := by
    unfold source
    cases b.source <;> rfl
  have state (l : LinkId) : (back.link l).state = (s.link l).state := returned_state s b l
  have strands_iff : back.strands o ↔ s.strands o := by
    simp only [State.strands, state]
  refine ⟨fun hd => ⟨?_, fun due => ?_⟩, fun d hd hn => ⟨⟨(Config.endedOrderState b.number).toNat, ?_⟩, fun due => ?_⟩,
    fun d l hd hl down => ⟨?_, fun due => ?_⟩, ?_⟩
  · unfold refusal
    rw [named]
    exact request_answers hr hh rfl (batchAnswerAnswer_refuse counts hb hq (fAnsweredOrder_auto _ hd)
      (batchFailed_auto queue hd) _) hr.1 hr.2 rfl
  · exact exec_batchTimeout_due hr counts hb due (batchFailed_auto queue hd) hr.1 rfl
  · have ended := batchFailed_quiet (d := b.dest) queue hd (mt strands_iff.1 hn)
    have silent : back.raised = [] := hr.1
    rw [silent] at ended
    unfold refusal
    rw [named]
    refine request_tells (t := left rest) hr hh rfl (batchAnswerAnswer_refuse counts hb hq (fAnsweredOrder_fixed _ hd)
      ended _) hr.1 hr.2 rfl fun q hq => ?_
    obtain rfl := List.mem_singleton.1 hq
    rfl
  · exact exec_batchTimeout_due (t := left rest) hr counts hb due
      (batchFailed_quiet (s := { back with raised := [abandoned .timeout] }) queue hd (mt strands_iff.1 hn)) hr.1 rfl
  · obtain ⟨t, ns, ended, quiet, strands⟩ := batchFailed_strands (d := b.dest) sound queue hd hl
      (by rw [state]; exact down)
    have silent : (s.returned b).raised = [] := hr.1
    rw [silent, List.nil_append] at ended
    obtain ⟨-, time, port⟩ := strands.frame
    refine ⟨(Config.endedOrderState b.number).toNat, t, _, _, ?_, strands.reorder⟩
    unfold refusal
    rw [named]
    exact request_raises hr hh rfl (batchAnswerAnswer_refuse counts hb hq (fAnsweredOrder_fixed _ hd) ended _) quiet
      (port ▸ hr.2) (congrArg TimeBase.clock time)
  · obtain ⟨t, ns, ended, quiet, strands⟩ := batchFailed_strands (d := b.dest)
      (s := { back with raised := [abandoned .timeout] }) ((Steady.of_same).sound sound) queue hd hl
      (by rw [← state] at down; exact down)
    exact ⟨t, ns, exec_batchTimeout_due hr counts hb due ended quiet strands.frame.2.2, strands⟩
  · intro h' i q st hh' k v report moved ended raised gives
    have up : k.state = .up := (((counts_iff s).1 counts).2.2 b hb).2
    obtain ⟨enters, hst⟩ := reportEnters_lost up report
    have atDest : (moved.link b.dest).state = st ∧ (moved.link b.dest).quality = v
        ∧ (moved.link b.dest).streak = 0 := by
      rw [show moved.link b.dest = _ from lost_link s b st v]
      exact ⟨rfl, rfl, rfl⟩
    have loses {t : State} {ns : List Notice} (fails : batchFailed b.dest { moved with raised := s.lossNews b st v } =
        { t with raised := s.lossNews b st v ++ ns }) (quiet : t.raised = [])
        (frame : t.zone = s.zone ∧ t.time = s.time ∧ t.port = s.port)
        (link : (t.link b.dest).state = st ∧ (t.link b.dest).quality = v ∧ (t.link b.dest).streak = 0) :
        gives t (ns.filter (! ·.toGateway)) (ns.filter (·.toGateway)) :=
      linkReport_loses hr hh' counts hb enters hst fails quiet frame link
    refine ⟨fun hd => ?_, fun d hd hn => ?_, fun d l hd hl down => ?_⟩
    · exact loses (ns := []) (batchFailed_auto queue hd) hr.1 ⟨rfl, rfl, rfl⟩ atDest
    · exact loses (ns := [endOf o .aborted 0])
        (batchFailed_quiet (s := { moved with raised := s.lossNews b st v }) queue hd hn) hr.1 ⟨rfl, rfl, rfl⟩ atDest
    · obtain ⟨t, ns, fails, quiet, strands⟩ := batchFailed_strands (d := b.dest)
        (s := { moved with raised := s.lossNews b st v }) ((Steady.of_same).sound sound) queue hd hl down
      obtain ⟨state, quality, streak⟩ := strands.link_kept b.dest
      exact ⟨t, _, _, loses fails quiet strands.frame
        ⟨state.trans atDest.1, quality.trans atDest.2.1, streak.trans atDest.2.2⟩, strands.reorder⟩

end Sys2Proof.Machine
end

section
/-! Chapter 7, sixth part: the sessions a batch takes, what sending it writes, and what a batch step decides (R125 to
R130). -/

namespace Sys2Proof.Machine

/-! ### The sessions a batch takes (R129) -/

/-- R129: the non-emergency sessions of a list that stand before a handle, counted. -/
def chargedBefore (l : List (Nat × Session)) (n : Nat) : Nat :=
  (l.filter fun q => decide (q.1 < n) && q.2.nonEmergency).length

theorem chargedBefore_cons {p : Nat × Session} {l : List (Nat × Session)} {n : Nat} (hp : p.1 < n) :
    chargedBefore (p :: l) n = (if p.2.nonEmergency then 1 else 0) + chargedBefore l n := by
  by_cases hc : p.2.nonEmergency = true <;> simp [chargedBefore, hp, hc, Nat.add_comm]

theorem chargedBefore_head {p : Nat × Session} {l : List (Nat × Session)} (hl : ∀ q ∈ l, p.1 < q.1) :
    chargedBefore (p :: l) p.1 = 0 := by
  have behind : ∀ q ∈ l, ¬ (decide (q.1 < p.1) && q.2.nonEmergency) = true := fun q hq => by
    simp [Nat.le_of_lt (hl q hq)]
  simp [chargedBefore, List.filter_eq_nil_iff.2 behind]

/-- R129: the walk takes, of the sessions in ascending order of their handles, every EMERGENCY session and as many
others as there is room for, and of these the first `slots`. -/
theorem takeSessions_eq {l : List (Nat × Session)} (hl : l.Pairwise fun p q => p.1 < q.1) (room slots : Nat) :
    takeSessions l room slots =
      (l.filter fun p => !p.2.nonEmergency || decide (chargedBefore l p.1 < room)).take slots := by
  induction l generalizing room slots with
  | nil => simp [takeSessions]
  | cons p l ih =>
    obtain ⟨first, rest⟩ := List.pairwise_cons.1 hl
    cases slots with
    | zero => rfl
    | succ slots =>
      have head := chargedBefore_head first
      have tail (r : Nat) (hr : ∀ c, ((if p.2.nonEmergency then 1 else 0) + c < room) ↔ c < r) :
          (l.filter fun q => !q.2.nonEmergency || decide (chargedBefore (p :: l) q.1 < room)) =
            l.filter fun q => !q.2.nonEmergency || decide (chargedBefore l q.1 < r) :=
        List.filter_congr fun q hq => by
          rw [chargedBefore_cons (first q hq)]
          exact congrArg (!q.2.nonEmergency || ·) (decide_eq_decide.2 (hr _))
      cases hc : p.2.nonEmergency with
      | false =>
        have later := tail room fun c => by simp [hc]
        simp [takeSessions, hc, later, ih rest]
      | true =>
        cases room with
        | zero => simp [takeSessions, hc, ih rest]
        | succ r =>
          have later := tail r fun c => by rw [hc, if_pos rfl]; omega
          have step : takeSessions (p :: l) (r + 1) (slots + 1) = p :: takeSessions l r slots := by
            simp [takeSessions, hc]
          rw [step, ih rest, List.filter_cons_of_pos (by simp [head]), later, List.take_succ_cons]

/-- R129: a batch takes a session where one in scope is EMERGENCY, or where there is one and room for it. -/
theorem takeSessions_ne_nil {l : List (Nat × Session)} {room slots : Nat} (hs : 0 < slots)
    (h : (l ≠ [] ∧ 0 < room) ∨ ∃ p ∈ l, p.2.nonEmergency = false) : takeSessions l room slots ≠ [] := by
  fun_induction takeSessions l room slots with
  | case1 => simp at h
  | case2 => cases hs
  | case3 => exact List.cons_ne_nil _ _
  | case4 p rest slots hp ih =>
    refine ih hs (.inr ?_)
    obtain ⟨-, none_left⟩ | ⟨q, hq, he⟩ := h
    · cases none_left
    · obtain rfl | later := List.mem_cons.1 hq
      · simp [he] at hp
      · exact ⟨q, later, he⟩
  | case5 => exact List.cons_ne_nil _ _

/-- In the canonical form the records stand in ascending order of their numbers. -/
theorem Table.pairwise_of_wf {α : Type} {t : Table α} (ht : t.wf = true) : t.Pairwise fun p q => p.1 < q.1 := by
  unfold Table.wf at ht
  generalize (none : Option Nat) = b at ht
  induction t generalizing b with
  | nil => exact .nil
  | cons p t ih =>
    simp only [Table.risingFrom, Bool.and_eq_true] at ht
    exact List.pairwise_cons.2 ⟨Table.above_of_rising ht.2, ih _ ht.2⟩

section
variable {s : State} {o : Order}

theorem inScope_holdsSlot (hw : Table.wf s.sess.records = true) {p : Nat × Session} (hp : p ∈ s.inScope o) :
    s.holdsSlot p.1 = p.2.nonEmergency := by
  rw [State.holdsSlot, (mem_inScope hw hp).1]; rfl

theorem chargedBefore_inScope (hw : Table.wf s.sess.records = true) (n : Nat) :
    chargedBefore (s.inScope o) n =
      ((s.scopeHandles o).filter fun m => decide (m < n) && s.holdsSlot m).length := by
  rw [← inScope_handles, List.filter_map, List.length_map, chargedBefore]
  congr 1
  exact List.filter_congr fun p hp => congrArg (decide (p.1 < n) && ·) (inScope_holdsSlot hw hp).symm

/-- R129: the handles a batch takes, as the manual words it. -/
theorem batchSessions_handles (hw : Table.wf s.sess.records = true) (d : LinkId) (withCharged : Bool) :
    (s.batchSessions o d withCharged).map Prod.fst = ((s.scopeHandles o).filter fun n => !s.holdsSlot n
      || (withCharged && decide (((s.scopeHandles o).filter fun m => decide (m < n) && s.holdsSlot m).length <
        (s.link d).capacity - ((s.link d).bound + (s.link d).reserved)))).take 32 := by
  have sorted : (s.inScope o).Pairwise fun p q => p.1 < q.1 := (Table.pairwise_of_wf hw).sublist List.filter_sublist
  rw [State.batchSessions, takeSessions_eq sorted, List.map_take, ← inScope_handles, List.filter_map, inScope_handles]
  congr 2
  refine List.filter_congr fun p hp => ?_
  rw [Function.comp_apply, inScope_holdsSlot hw hp, chargedBefore_inScope hw, free_eq]
  cases withCharged <;> simp

theorem batchSessions_sublist (s : State) (o : Order) (d : LinkId) (withCharged : Bool) :
    (s.batchSessions o d withCharged).Sublist (s.inScope o) := takeSessions_sublist ..

/-! ### The batch sent (R129, R130) -/

/-- R129: sessions that are given a binding one after another. -/
theorem rebind_eq {taken : List (Nat × Session)} {s : State} (b : Binding) (hw : Table.wf s.sess.records = true)
    (hd : (taken.map Prod.fst).Nodup) (ht : ∀ p ∈ taken, s.ses p.1 = some p.2) :
    taken.foldl (fun s p => s.setSes p.1 { p.2 with binding := b }) s = s.withBinding (taken.map Prod.fst) b := by
  induction taken generalizing s with
  | nil => exact (withBinding_nil s b).symm
  | cons p taken ih =>
    rw [List.map_cons, List.nodup_cons] at hd
    rw [List.forall_mem_cons] at ht
    obtain ⟨hx, rest⟩ := ht
    rw [List.foldl_cons, setSes_eq_withBinding hw hx, ih (withBinding_wf hw hx b) hd.2 fun q hq => ?_, List.map_cons,
      withBinding_cons]
    have apart : q.1 ≠ p.1 := fun e => hd.1 (e ▸ List.mem_map_of_mem hq)
    rw [withBinding_ses_other hw hx b apart]
    exact rest q hq

theorem nextBatch_eq (counter : Nat) : nextBatch counter = if counter < 65535 then counter + 1 else 1 := by
  unfold nextBatch
  split <;> split <;> omega

/-- R129, R130: what sending a batch of sessions in scope writes. -/
theorem formBatch_eq {rest : List Order} {d : LinkId} {taken : List (Nat × Session)} {handles : List Nat}
    {number : Nat} (hw : Table.wf s.sess.records = true) (sub : taken.Sublist (s.inScope o))
    (hh : taken.map Prod.fst = handles) (hn : nextBatch s.mig.counter = number) :
    formBatch o rest d taken s = { s with
      sess := { s.sess with records := s.sess.records.map fun p =>
        if p.1 ∈ handles then (p.1, { p.2 with binding := .moving o.source d number }) else p }
      links := s.links.set d { s.link d with reserved := (s.link d).reserved + s.nonEmergencyAmong handles }
      mig := {
        queue := { o with batches := min (o.batches + 1) 65535 } :: rest
        batch := some ⟨number, o.source, d, handles, s.time.clock,
          min (s.time.clock + s.settings.batchTimeout) 1099511627775⟩
        counter := number }
      raised := s.raised ++ [.moveBatch number o.source d handles] } := by
  have here : ∀ p ∈ taken, s.ses p.1 = some p.2 := fun p hp => (mem_inScope hw (sub.subset hp)).1
  have nodup : handles.Nodup := hh ▸ (inScope_nodup o hw).sublist (sub.map _)
  have slots : (taken.filter fun p => p.2.nonEmergency).length = s.nonEmergencyAmong handles := by
    have held : handles.map s.holdsSlot = taken.map fun p => p.2.nonEmergency := by
      rw [← hh, List.map_map]
      exact List.map_congr_left fun p hp => inScope_holdsSlot hw (sub.subset hp)
    rw [nonEmergencyAmong_eq hw nodup fun n hn => ?_, held, List.count_eq_countP, List.countP_map,
      List.countP_eq_length_filter]
    · congr 1
      exact List.filter_congr fun p _ => by simp
    · obtain ⟨p, hp, rfl⟩ := List.mem_map.1 (hh ▸ hn)
      exact ⟨p.2, here p hp⟩
  simp only [formBatch, hn, hh, slots, rebind_eq (.moving o.source d number) hw (hh ▸ nodup) here]
  rfl

/-! ### What a batch step decides (R126 to R128) -/

theorem resolved_iff (s : State) (o : Order) :
    s.resolved o = true ↔ (o.cause = .degraded ∨ o.cause = .failed ∨ o.cause = .zone)
      ∧ ∃ l, o.source = .link l ∧ (s.link l).state = .up ∧ (s.link l).permits s.zone.effective = true := by
  cases hsrc : o.source <;> simp [State.resolved, State.permitted, hsrc, or_assoc]

theorem candidate_iff (s : State) (o : Order) (l : LinkId) :
    s.candidate o l = true ↔ (s.link l).state = .up ∧ o.source ≠ .link l ∧ l ∉ o.excluded := by
  simp [State.candidate, and_assoc]

/-- R129, R113: the link that wins is chosen. -/
theorem bestLink_of_wins {p : LinkId → Bool} {admits : LinkId → Prop} {d : LinkId} (hp : ∀ l, p l = true ↔ admits l)
    (h : s.wins admits d) : s.bestLink p = some d :=
  bestLink_eq_some ((hp d).2 h.1) fun m hm hne => h.2 m ((hp m).1 hm) hne

theorem bestLink_of_none {p : LinkId → Bool} {admits : LinkId → Prop} (hp : ∀ l, p l = true ↔ admits l)
    (h : ∀ l, ¬ admits l) : s.bestLink p = none :=
  bestLink_eq_none fun l => Bool.eq_false_iff.2 (mt (hp l).1 (h l))

theorem inScope_slots (hw : Table.wf s.sess.records = true) :
    s.nonEmergencyAmong (s.scopeHandles o) = ((s.inScope o).map fun p => p.2.nonEmergency).count true
      ∧ (s.scopeHandles o).length = ((s.inScope o).map fun p => p.2.nonEmergency).length := by
  have held : (s.scopeHandles o).map s.holdsSlot = (s.inScope o).map fun p => p.2.nonEmergency := by
    rw [← inScope_handles, List.map_map]
    exact List.map_congr_left fun p hp => inScope_holdsSlot hw hp
  rw [nonEmergencyAmong_eq hw (inScope_handles s o ▸ inScope_nodup o hw) fun n hn => mem_scopeHandles hw hn, held,
    ← held, List.length_map]
  exact ⟨rfl, rfl⟩

/-- R128: whether some session in scope is not EMERGENCY. -/
theorem charged_iff (hw : Table.wf s.sess.records = true) :
    0 < s.nonEmergencyAmong (s.scopeHandles o) ↔ ((s.inScope o).all fun p => !p.2.nonEmergency) = false := by
  rw [(inScope_slots hw).1, List.count_pos_iff]
  simp [List.all_eq_false]

/-- R127, R128: whether some session in scope is EMERGENCY. -/
theorem emergency_iff (hw : Table.wf s.sess.records = true) :
    s.nonEmergencyAmong (s.scopeHandles o) < (s.scopeHandles o).length
      ↔ ((s.inScope o).any fun p => !p.2.nonEmergency) = true := by
  obtain ⟨slots, length⟩ := inScope_slots (o := o) hw
  rw [slots, length, ← List.count_true_add_count_false, Nat.lt_add_right_iff_pos, List.count_pos_iff]
  simp

end

end Sys2Proof.Machine
end

section
/-! Chapter 7, seventh part: BATCH_STEP, the destination of a batch and what comes of the order (R125 to R130, R138). -/

namespace Sys2Proof.Machine

/-! ### The destination (R127, R128) -/

section
variable {s : State} {o : Order} {d : LinkId} {scope : List (Nat × Session)}

/-- R127: a fixed destination that is not UP, or that has no room where only room would do. -/
theorem destination_fixed_fails (hd : o.dest = .fixed d)
    (h : (s.link d).state ≠ .up ∨ ((scope.any fun p => !p.2.nonEmergency) = false ∧ s.takes d = false)) :
    s.destination o scope = .ends .aborted := by
  simp only [State.destination, hd]
  obtain down | ⟨charged, full⟩ := h
  · rw [if_pos down]
  · rw [charged, full, if_pos (by rfl : (!false && !false) = true), ite_self]

/-- R127: a fixed destination that is UP, with room or for an EMERGENCY session. -/
theorem destination_fixed_sends (hd : o.dest = .fixed d) (up : (s.link d).state = .up)
    (h : s.takes d = true ∨ (scope.any fun p => !p.2.nonEmergency) = true) :
    s.destination o scope = .batch d (s.takes d) := by
  simp only [State.destination, hd]
  rw [if_neg (not_not.2 up), if_neg]
  obtain room | emergency := h
  · simp [room]
  · simp [emergency]

/-- R128: the best candidate with room, for a scope that is not EMERGENCY alone. -/
theorem destination_auto_full (hd : o.dest = .auto) (charged : (scope.all fun p => !p.2.nonEmergency) = false)
    (best : (s.bestLink fun l => s.candidate o l && s.takes l) = some d) :
    s.destination o scope = .batch d true := by
  simp [State.destination, hd, charged, best]

/-- R128: where no candidate has room, or none is needed, the best candidate takes the EMERGENCY sessions. -/
theorem destination_auto_emergency (hd : o.dest = .auto) (emergency : (scope.any fun p => !p.2.nonEmergency) = true)
    (no_room : (scope.all fun p => !p.2.nonEmergency) = false →
      (s.bestLink fun l => s.candidate o l && s.takes l) = none)
    (best : s.bestLink (s.candidate o) = some d) : s.destination o scope = .batch d false := by
  cases charged : scope.all fun p => !p.2.nonEmergency with
  | true => simp [State.destination, hd, charged, best]
  | false => simp [State.destination, hd, charged, no_room charged, emergency, best]

/-- R128: no candidate has room, and no session in scope is EMERGENCY. -/
theorem destination_auto_full_none (hd : o.dest = .auto) (charged : (scope.all fun p => !p.2.nonEmergency) = false)
    (no_emergency : (scope.any fun p => !p.2.nonEmergency) = false)
    (no_room : (s.bestLink fun l => s.candidate o l && s.takes l) = none) :
    s.destination o scope = .ends .stranded := by
  simp [State.destination, hd, charged, no_emergency, no_room]

/-- R128: there is no candidate. -/
theorem destination_auto_none (hd : o.dest = .auto)
    (no_room : (s.bestLink fun l => s.candidate o l && s.takes l) = none)
    (none_left : s.bestLink (s.candidate o) = none) : s.destination o scope = .ends .stranded := by
  simp [State.destination, hd, no_room, none_left]

/-! ### The decision (R126) -/

theorem stepChoice_done (h : s.scopeHandles o = []) : s.stepChoice o = .ends .done := by
  have empty : s.inScope o = [] := by rwa [← inScope_handles, List.map_eq_nil_iff] at h
  simp [State.stepChoice, empty]

theorem inScope_ne_nil (h : s.scopeHandles o ≠ []) : s.inScope o ≠ [] := fun e => h (by rw [← inScope_handles, e]; rfl)

theorem stepChoice_resolved (h : s.scopeHandles o ≠ []) (hr : s.resolved o = true) :
    s.stepChoice o = .ends .resolved := by
  simp [State.stepChoice, inScope_ne_nil h, hr]

theorem stepChoice_destination (h : s.scopeHandles o ≠ []) (hr : s.resolved o = false) :
    s.stepChoice o = s.destination o (s.inScope o) := by
  simp [State.stepChoice, inScope_ne_nil h, hr]

end

/-! ### The step (R125) -/

/-- R178: an event that brings the state `t` and adds the notices `ns` to those raised before it, which are none. -/
theorem flush_told {s t u : State} {ns : List Notice} (hr : s.ready) (hu : u = { t with raised := s.raised ++ ns })
    (quiet : t.raised = []) (port : t.port = s.port) : Host.Outcome.next u.flush = noticed t ns := by
  rw [hu, hr.1, List.nil_append, flush_raised quiet (port ▸ hr.2)]

theorem exec_batchStep (s : State) : exec .batchStep s = .next (batchStepEffect s).flush := rfl

/-- R125: there is nothing to do without an order, or while a batch is in flight. -/
theorem exec_batchStep_idle {s : State} (hr : s.ready) (idle : s.mig.queue = [] ∨ s.mig.batch.isSome = true) :
    exec .batchStep s = .next s := by
  have waits : batchStepEffect s = s := by
    unfold batchStepEffect
    split
    · next hq hb => simp [hq, hb] at idle
    · rfl
  rw [exec_batchStep, waits, flush_quiet hr.1]

section
variable {s : State} {o : Order} {rest : List Order}

theorem batchStepEffect_ends {outcome : OrderOutcome} (hq : s.mig.queue = o :: rest) (hb : s.mig.batch = none)
    (hc : s.stepChoice o = .ends outcome) : batchStepEffect s = endOrder outcome s := by
  simp only [batchStepEffect, hq, hb, hc]

/-- R138: the order ends without stranding. -/
theorem exec_batchStep_ends {outcome : OrderOutcome} (hr : s.ready) (hq : s.mig.queue = o :: rest)
    (hb : s.mig.batch = none) (hc : s.stepChoice o = .ends outcome) (hn : strandedBy o outcome s = []) :
    exec .batchStep s = noticed { s with mig := { s.mig with queue := rest } } [endOf o outcome 0] := by
  rw [exec_batchStep, batchStepEffect_ends hq hb hc]
  exact flush_told (t := { s with mig := { s.mig with queue := rest } }) hr (endOrder_quiet hq hn) hr.1 rfl

/-- R138, R139: the order ends and strands its sessions. -/
theorem exec_batchStep_strands {outcome : OrderOutcome} {l : LinkId} (hs : Sound s) (hr : s.ready)
    (hq : s.mig.queue = o :: rest) (hb : s.mig.batch = none) (hc : s.stepChoice o = .ends outcome)
    (ends : outcome = .stranded ∨ outcome = .aborted) (hl : o.source = .link l)
    (down : (s.link l).state = .down ∨ (s.link l).state = .suspect) :
    ∃ t ns, exec .batchStep s = noticed t ns ∧ Strands o rest l outcome s t ns := by
  obtain ⟨t, ns, ended, quiet, strands⟩ := endOrder_strands hs hq ends hl down
  refine ⟨t, ns, ?_, strands⟩
  rw [exec_batchStep, batchStepEffect_ends hq hb hc, flush_told hr ended quiet strands.frame.2.2]

/-- R129, R130: the order sends its next batch. -/
theorem exec_batchStep_sends {d : LinkId} {withCharged : Bool} {handles : List Nat} {number : Nat} (hr : s.ready)
    (hw : Table.wf s.sess.records = true) (hq : s.mig.queue = o :: rest) (hb : s.mig.batch = none)
    (hc : s.stepChoice o = .batch d withCharged)
    (hh : (s.batchSessions o d withCharged).map Prod.fst = handles) (hn : nextBatch s.mig.counter = number) :
    exec .batchStep s = noticed
      { s with
        sess := { s.sess with records := s.sess.records.map fun p =>
          if p.1 ∈ handles then (p.1, { p.2 with binding := .moving o.source d number }) else p }
        links := s.links.set d { s.link d with reserved := (s.link d).reserved + s.nonEmergencyAmong handles }
        mig := {
          queue := { o with batches := min (o.batches + 1) 65535 } :: rest
          batch := some ⟨number, o.source, d, handles, s.time.clock,
            min (s.time.clock + s.settings.batchTimeout) 1099511627775⟩
          counter := number } }
      [.moveBatch number o.source d handles] := by
  have effect : batchStepEffect s = formBatch o rest d (s.batchSessions o d withCharged) s := by
    simp only [batchStepEffect, hq, hb, hc]
  rw [exec_batchStep, effect]
  refine flush_told hr (formBatch_eq hw (batchSessions_sublist ..) hh hn) ?_ ?_
  · exact hr.1
  · rfl

/-- R129: a batch that is sent takes a session. -/
theorem batchSessions_ne_nil {d : LinkId} {withCharged : Bool} (h : s.scopeHandles o ≠ [])
    (room : (withCharged = true ∧ s.takes d = true) ∨ ((s.inScope o).any fun p => !p.2.nonEmergency) = true) :
    (s.batchSessions o d withCharged).map Prod.fst ≠ [] := by
  refine mt List.map_eq_nil_iff.1 (takeSessions_ne_nil (by decide) ?_)
  obtain ⟨rfl, takes⟩ | emergency := room
  · obtain ⟨-, -, space⟩ := (takes_iff s d).1 takes
    have free : 0 < (s.link d).free := by rw [free_eq]; omega
    exact .inl ⟨inScope_ne_nil h, free⟩
  · exact .inr (by simpa using emergency)

end

/-- Settles O48: what the batch step decides, by R126 to R128, and what it then does. -/
theorem batchStepAdvancesOrder : Obligations.BatchStepAdvancesOrder := by
  intro s hr
  refine ⟨exec_batchStep_idle hr, ?_⟩
  intro o rest hq hb books listed counts scope charged emergency mayCharge candidate ends fails resolved sends
  have wf := counts.1
  have sound := sound_of_listed books listed
  have takes_iff (l : LinkId) : s.takes l = true ↔ mayCharge l := takes_iff s l
  have candidate_iff (l : LinkId) : s.candidate o l = true ↔ candidate l := candidate_iff s o l
  have both_iff (l : LinkId) : (s.candidate o l && s.takes l) = true ↔ candidate l ∧ mayCharge l := by
    rw [Bool.and_eq_true, candidate_iff, takes_iff]
  have charged_iff : charged ↔ ((s.inScope o).all fun p => !p.2.nonEmergency) = false := charged_iff wf
  have emergency_iff : emergency ↔ ((s.inScope o).any fun p => !p.2.nonEmergency) = true := emergency_iff wf
  have failing {outcome : OrderOutcome} (hc : s.stepChoice o = .ends outcome)
      (ending : outcome = .stranded ∨ outcome = .aborted) : fails outcome :=
    ⟨fun hn => exec_batchStep_ends hr hq hb hc (strandedBy_eq_nil (.inr hn)),
      fun _ hl down => exec_batchStep_strands sound hr hq hb hc ending hl down⟩
  have sending {d : LinkId} {withCharged : Bool} (some_in_scope : scope ≠ [])
      (hc : s.stepChoice o = .batch d withCharged) (room : (withCharged = true ∧ mayCharge d) ∨ emergency) :
      sends d withCharged := by
    have handles := batchSessions_handles (o := o) wf d withCharged
    refine ⟨?_, exec_batchStep_sends hr wf hq hb hc handles (nextBatch_eq _)⟩
    refine ne_of_eq_of_ne handles.symm (batchSessions_ne_nil some_in_scope ?_)
    exact room.imp (fun h => ⟨h.1, (takes_iff d).2 h.2⟩) emergency_iff.1
  refine ⟨fun empty => ?_, fun some_in_scope done => ?_, fun some_in_scope not_done => ?_⟩
  · exact exec_batchStep_ends hr hq hb (stepChoice_done empty) (strandedBy_eq_nil (.inl ⟨nofun, nofun⟩))
  · exact exec_batchStep_ends hr hq hb (stepChoice_resolved some_in_scope ((resolved_iff s o).2 done))
      (strandedBy_eq_nil (.inl ⟨nofun, nofun⟩))
  · have choice := stepChoice_destination some_in_scope (Bool.eq_false_iff.2 (mt (resolved_iff s o).1 not_done))
    refine ⟨fun d hd => ⟨fun bad => ?_, fun up room => ?_, fun up some_emergency full => ?_⟩, fun hd =>
      ⟨fun d some_charged wins => ?_, fun d some_emergency no_room wins => ?_,
        fun some_charged no_emergency no_room => ?_, fun no_candidate => ?_⟩⟩
    · refine failing (choice.trans (destination_fixed_fails hd (bad.imp id fun h => ?_))) (.inr rfl)
      exact ⟨Bool.eq_false_iff.2 (mt emergency_iff.2 h.1), Bool.eq_false_iff.2 (mt (takes_iff d).1 h.2)⟩
    · have room' := (takes_iff d).2 room
      have sent := choice.trans (destination_fixed_sends hd up (.inl room'))
      rw [room'] at sent
      exact sending some_in_scope sent (.inl ⟨rfl, room⟩)
    · have sent := choice.trans (destination_fixed_sends hd up (.inr (emergency_iff.1 some_emergency)))
      rw [Bool.eq_false_iff.2 (mt (takes_iff d).1 full)] at sent
      exact sending some_in_scope sent (.inr some_emergency)
    · exact sending some_in_scope (choice.trans (destination_auto_full hd (charged_iff.1 some_charged)
        (bestLink_of_wins both_iff wins))) (.inl ⟨rfl, wins.1.2⟩)
    · refine sending some_in_scope (choice.trans (destination_auto_emergency hd (emergency_iff.1 some_emergency)
        (fun some_charged => ?_) (bestLink_of_wins candidate_iff wins))) (.inr some_emergency)
      exact bestLink_of_none both_iff fun l h => no_room (charged_iff.2 some_charged) l h.1 h.2
    · exact failing (choice.trans (destination_auto_full_none hd (charged_iff.1 some_charged)
        (Bool.eq_false_iff.2 (mt emergency_iff.2 no_emergency))
        (bestLink_of_none both_iff fun l h => no_room l h.1 h.2))) (.inl rfl)
    · exact failing (choice.trans (destination_auto_none hd
        (bestLink_of_none both_iff fun l h => no_candidate l h.1) (bestLink_of_none candidate_iff no_candidate)))
        (.inl rfl)

end Sys2Proof.Machine
end

section
/-! Chapter 8, first part: ZONE_SET (R145), and a ZONE_CHANGED notice that leaves the effective zone as it is (R156). -/

namespace Sys2Proof.Machine

/-! ### Zone records (R144, R145) -/

theorem zoneAt_setZone (s : State) (z : ZoneId) (r : Zone) : (s.setZone z r).zoneAt z = r := by
  simp [State.zoneAt, State.setZone]

/-- Writing a zone record as it is changes nothing. -/
theorem setZone_self (s : State) (z : ZoneId) : s.setZone z (s.zoneAt z) = s := by
  have same : s.zone.zones.set z (s.zoneAt z) = s.zone.zones := by
    ext i hi
    rw [Vector.getElem_set]
    split
    · next h => subst h; rfl
    · rfl
  rw [State.setZone, same]

/-- R156: the notice of a cause that leaves the effective zone `z` as it is. -/
theorem zoneNotice_effective {s : State} {z : ZoneId} (he : s.zone.effective = some z) (cause : ZoneCause) :
    s.zoneNotice cause = s.zoneNews cause z (s.zoneAt z) s.zone.tracking := by
  simp only [State.zoneNotice, State.zoneNews, State.effectiveClass, State.effectiveLevel, State.effectiveWindow,
    State.windDown, he]
  rfl

/-! ### The answer (R145) -/

section
variable {z : ZoneId} {c : ZoneClass} {l : ServiceLevel} {w : Nat} {s : State}

theorem zoneSetAnswer_badValue {n : Nat} {cls : Option ZoneClass} {level : Option ServiceLevel} (who : Sender)
    (s : State) (bad : 31 < n ∨ cls = none ∨ level = none ∨ 600 < w) :
    zoneSetAnswer n cls level w who s = refuse .badValue s := by
  unfold zoneSetAnswer
  split
  · next z c l hz =>
    have wide : windowMax < w := by
      obtain far | none_cls | none_level | wide := bad
      · rw [zoneOf_eq_none far] at hz; cases hz
      · cases none_cls
      · cases none_level
      · exact wide
    rw [if_pos wide]
  · rfl

/-- R145: an undefined zone is defined. -/
theorem zoneSetAnswer_undefined (who : Sender) (hw : w ≤ 600) (hd : (s.zoneAt z).defined = false) :
    zoneSetAnswer z.val (some c) (some l) w who s = zoneGive z .ok (s.setZone z ⟨true, c, l, w⟩) := by
  simp [zoneSetAnswer, windowMax, Nat.not_lt.2 hw, hd]

/-- R145: the record of a defined zone that is not effective is rewritten, or found as carried. -/
theorem zoneSetAnswer_elsewhere (who : Sender) (hw : w ≤ 600) (hd : (s.zoneAt z).defined = true)
    (he : s.zone.effective ≠ some z) :
    zoneSetAnswer z.val (some c) (some l) w who s =
      zoneGive z (if ⟨true, c, l, w⟩ = s.zoneAt z then .already else .ok) (s.setZone z ⟨true, c, l, w⟩) := by
  simp only [zoneSetAnswer, zoneOf_val, windowMax, Nat.not_lt.2 hw, hd, he, if_false, Bool.not_true,
    Bool.false_eq_true]
  split
  · next same => rw [same, setZone_self]
  · rfl

/-- R145: the effective zone keeps its class and its level. -/
theorem zoneSetAnswer_inUse (who : Sender) (hw : w ≤ 600) (hd : (s.zoneAt z).defined = true)
    (he : s.zone.effective = some z) (other : c ≠ (s.zoneAt z).cls ∨ l ≠ (s.zoneAt z).level) :
    zoneSetAnswer z.val (some c) (some l) w who s = refuse .inUse s := by
  simp [zoneSetAnswer, setEffectiveZone, windowMax, Nat.not_lt.2 hw, hd, he, other]

/-- R145: the effective zone with the window it has. -/
theorem zoneSetAnswer_same (who : Sender) (hw : (s.zoneAt z).window ≤ 600) (hd : (s.zoneAt z).defined = true)
    (he : s.zone.effective = some z) :
    zoneSetAnswer z.val (some (s.zoneAt z).cls) (some (s.zoneAt z).level) (s.zoneAt z).window who s =
      zoneGive z .already s := by
  simp [zoneSetAnswer, setEffectiveZone, windowMax, Nat.not_lt.2 hw, hd, he]

end

/-- R145: an answer that carries the record now at `z`. -/
theorem exec_zoneSet_gives {h : Header} {z : ZoneId} {c : ZoneClass} {l : ServiceLevel} {w : Nat} {r : Result}
    {s t : State} (hr : s.ready) (hh : s.hears h .zoneSet .purser)
    (answer : ∀ who, zoneSetAnswer z.val (some c) (some l) w who s = zoneGive z r t)
    (record : t.zoneAt z = ⟨true, c, l, w⟩) (quiet : t.raised = []) (port : t.port = s.port) (time : t.time = s.time) :
    exec (.zoneSet h z.val (some c) (some l) w) s =
      answered h .zoneSet r [.u8 z.val, .u8 1, .u8 c.code, .u8 l.code, .u16 w] s t := by
  refine request_answers hr hh rfl ((answer _).trans ?_) quiet (port ▸ hr.2) (congrArg TimeBase.clock time)
  rw [zoneGive, record]
  rfl

/-- Settles O51: the record's three cases, and of the effective zone the three of its values. -/
theorem zoneSetRecord : Obligations.ZoneSetRecord := by
  intro h s hr hh
  refine ⟨fun z c l w hw => ?_, fun n c l w bad => request_refuses hr hh rfl (zoneSetAnswer_badValue _ s bad)⟩
  intro old new run gives
  have written {r : Result}
      (answer : ∀ who, zoneSetAnswer z.val (some c) (some l) w who s = zoneGive z r (s.setZone z new)) :
      gives r s.zone.report [] :=
    exec_zoneSet_gives hr hh answer (zoneAt_setZone s z new) hr.1 rfl rfl
  refine ⟨fun hd => written fun who => zoneSetAnswer_undefined who hw hd,
    fun hd he => written fun who => zoneSetAnswer_elsewhere who hw hd he, fun hd he => ⟨fun other => ?_, ?_, ?_⟩⟩
  · exact request_refuses hr hh rfl (zoneSetAnswer_inUse _ hw hd he other)
  · rintro rfl rfl rfl
    have same : new = s.zoneAt z := by
      change (⟨true, old.cls, old.level, old.window⟩ : Zone) = old
      rw [← hd]
    refine written fun who => ?_
    rw [same, setZone_self]
    exact zoneSetAnswer_same who hw hd he
  · rintro rfl rfl changed
    refine ⟨some ⟨.window, s.tariff.epoch⟩, ?_⟩
    have told : (s.setZone z new).zoneNotice .window = s.zoneNews .window z new s.zone.tracking := by
      rw [zoneNotice_effective (s := s.setZone z new) he, zoneAt_setZone]
      rfl
    refine request_tells hr hh rfl ((zoneSetAnswer_window _ he hd hw changed).trans ?_) hr.1 hr.2 rfl
      fun n hn => ?_
    · have record : (tellZone .window (s.setZone z new)).zoneAt z = new := zoneAt_setZone s z new
      change zoneGive z .ok (tellZone .window (s.setZone z new)) = _
      rw [zoneGive, record, tellZone, told]
      simp only [State.raise, State.modZone, State.setZone, hr.1, List.nil_append]
      rfl
    · obtain rfl := List.mem_singleton.1 hn
      rfl

end Sys2Proof.Machine
end

section
/-! Chapter 8, second part: what a crossing and a re-placement do (R150, R154). -/

namespace Sys2Proof.Machine

/-! ### The epoch a crossing opens (R15, R154) -/

/-- R15 step 3: an entry is applied alike whatever the Zone Tracker holds. -/
theorem applyRevision_modZone (r : Revision) (f : ZoneTracker → ZoneTracker) (s : State) :
    applyRevision r (s.modZone f) = ((applyRevision r s).1.modZone f, (applyRevision r s).2) := by
  cases r with
  | cell i new old => rfl
  | partner i plan a old =>
    have same : (s.modZone f).par i = s.par i := rfl
    simp only [applyRevision, same]
    split
    · rfl
    · simp only [movePlanUse]
      split <;> rfl

theorem applyRevisions_modZone (rs : List Revision) (f : ZoneTracker → ZoneTracker) (s : State) :
    applyRevisions rs (s.modZone f) = ((applyRevisions rs s).1.modZone f, (applyRevisions rs s).2) := by
  induction rs generalizing s with
  | nil => rfl
  | cons r rs ih => simp only [applyRevisions_cons, applyRevision_modZone, ih]

/-- R15: the opening of an epoch neither reads nor writes the Zone Tracker. -/
theorem openEpoch_modZone (z : ZoneClass) (f : ZoneTracker → ZoneTracker) (s : State) :
    openEpoch z (s.modZone f) = (openEpoch z s).modZone f := by
  have advanced : advanceEpoch z (s.modZone f) = (advanceEpoch z s).modZone f := rfl
  unfold openEpoch
  simp only [advanced]
  rw [show ((advanceEpoch z s).modZone f).tariff = (advanceEpoch z s).tariff from rfl, applyRevisions_modZone]
  rfl

/-- R15: the tariff that an EPOCH_CUT leaves is that of the epoch it opens. -/
theorem epochCut_tariff {h : Header} {s u : State} (hr : s.ready) (hh : s.hears h .epochCut .purser)
    (idle : s.cutPos = none) (hu : exec (.epochCut h) s = .next u) :
    u.tariff = (openEpoch s.effectiveClass s).tariff := by
  have opened := openEpoch_eq s.effectiveClass s
  have answer := request_answers hr hh rfl (epochCutAnswer_opens _ idle) (by rw [opened]; exact hr.1)
    (by rw [opened]; exact hr.2) (by rw [opened])
  have taken : Host.Outcome.next u = _ := hu.symm.trans answer
  rw [answered, Host.Outcome.next.injEq] at taken
  rw [taken]
  rfl

/-! ### The orders of a crossing (R123, R154) -/

/-- R154 step 3: whether a crossing raises an order for a link. -/
def State.vacates (s : State) (l : LinkId) : Bool := !s.permitted l && decide (0 < (s.link l).bound)

/-- R154 step 3: a ZONE order for each of some links that the zone forbids and that carries a non-emergency session. -/
theorem zoneOrders_foldl (ls : List LinkId) (s : State) :
    ls.foldl (fun s l => zoneOrder l s) s = s.setQueue (ls.foldl (fun q l =>
      if s.vacates l then handedOrder s.silent (.link l) .nonEmergency .zone q else q) s.mig.queue) := by
  induction ls generalizing s with
  | nil => rfl
  | cons l ls ih =>
    have first : zoneOrder l s = s.setQueue
        (if s.vacates l then handedOrder s.silent (.link l) .nonEmergency .zone s.mig.queue else s.mig.queue) := by
      unfold zoneOrder State.vacates
      split
      · exact raiseOrder_eq _ _ _ s
      · rfl
    rw [List.foldl_cons, ih, first, List.foldl_cons]
    rfl

/-! ### The crossing (R154) -/

section
variable {target : Option ZoneId} {confirmed : Bool} {s : State}

/-- R154 step 1: what a crossing writes of the tracking record, but for what READ_ZONE returns of its notice. -/
def ZoneTracker.crossed (target : Option ZoneId) (confirmed : Bool) (now : Nat) (z : ZoneTracker) : ZoneTracker :=
  { z with
    effective := target, since := now, tracking := if confirmed then .placed else .stale
    candidate := if confirmed then none else z.candidate, deferred := if confirmed then false else z.deferred }

theorem crossZone_eq (target : Option ZoneId) (confirmed : Bool) (s : State) :
    crossZone target confirmed s = s.modZone (.crossed target confirmed s.time.clock) := by
  cases confirmed <;> rfl

/-- R154: a crossing while no cut pass runs. -/
theorem crossing_crosses (quiet : s.raised = []) (idle : s.cutPos = none) :
    ∃ t n, crossing target confirmed s = { t with raised := [n] } ∧ Crosses target confirmed s t n := by
  have opened := openEpoch_eq s.effectiveClass s
  refine ⟨{ crossing target confirmed s with raised := [] }, _, ?_, ?_, ?_, ?_, fun h u hr hh hu =>
    Eq.trans ?_ (epochCut_tariff hr hh idle hu).symm, rfl⟩
  all_goals
    unfold crossing zoneOrders
    rw [zoneOrders_foldl, crossZone_eq, openEpoch_modZone]
  · rw [opened]
    simp only [tellZone, State.raise, State.setQueue, State.modZone, quiet, List.nil_append]
    cases target <;> rfl
  · rw [opened, ← quiet]
    cases target <;> rfl
  · rw [opened]
    rfl
  · rw [opened]
    rfl
  · rfl

/-- R154: a crossing leaves the notices, the device time and the port. -/
theorem Crosses.frame {t : State} {n : Notice} (h : Crosses target confirmed s t n) :
    t.raised = s.raised ∧ t.time = s.time ∧ t.port = s.port := by
  rw [h.1]
  exact ⟨rfl, rfl, rfl⟩

theorem Crosses.toGateway {t : State} {n : Notice} (h : Crosses target confirmed s t n) : n.toGateway = false := by
  obtain ⟨-, -, -, -, rfl⟩ := h
  cases target <;> rfl

/-- R150: a re-placement in the effective zone. -/
theorem placeAgain_eq {z : ZoneId} (he : s.zone.effective = some z) :
    placeAgain s = { s.replaced with raised := s.raised ++ [s.zoneNews .placedAgain z (s.zoneAt z) .placed] } := by
  have told := zoneNotice_effective (s := s.modZone fun z => { z.clearCandidate with tracking := .placed }) he
    .placedAgain
  rw [placeAgain, tellZone, told]
  rfl

end

end Sys2Proof.Machine
end

section
/-! Chapter 8, third part: FIX, its candidate and the confirmation of it (R147 to R151). -/

namespace Sys2Proof.Machine

/-! ### The candidate (R148, R149) -/

section
variable {s : State} {z : ZoneId} {c : Candidate}

/-- R149: the state after a valid fix for a candidate, before its confirmation is judged. -/
def State.fixing (s : State) (c : Candidate) (deferred : Bool) : State :=
  { s with zone := { s.zone with lastFix := some s.time.clock, candidate := some c, deferred := deferred } }

/-- R148: a fix that names no defined zone. -/
theorem takeFix_unknown {n : Nat} (hn : 31 < n ∨ ∃ z : ZoneId, n = z.val ∧ (s.zoneAt z).defined = false) :
    takeFix n s = (.unknown, s.modZone ZoneTracker.clearCandidate) := by
  have unnamed : (zoneOf n).filter (fun z => (s.zoneAt z).defined) = none := by
    obtain far | ⟨z, rfl, undefined⟩ := hn
    · rw [zoneOf_eq_none far]; rfl
    · simp [undefined]
  simp only [takeFix, unnamed]

theorem takeFix_defined (hd : (s.zoneAt z).defined = true) : takeFix z.val s = validFix z s := by
  have found : (zoneOf z.val).filter (fun z => (s.zoneAt z).defined) = some z := by simp [Option.filter, hd]
  simp only [takeFix, found]

/-- R149 cases 2 and 3: the candidate a fix counts once more or makes. -/
theorem nextCandidate_eq {again : Bool}
    (hc : (∃ old, s.zone.candidate = some old ∧ old.zone = z ∧ c = { old with count := min (old.count + 1) 15 }
        ∧ again = true)
      ∨ ((∀ old, s.zone.candidate = some old → old.zone ≠ z) ∧ c = ⟨z, 1, s.time.clock⟩ ∧ again = false)) :
    c.zone = z ∧ s.nextCandidate z = (c, if again then .counted else .newCandidate) := by
  obtain ⟨old, here, rfl, rfl, rfl⟩ | ⟨other, rfl, rfl⟩ := hc
  · refine ⟨rfl, ?_⟩
    simp only [State.nextCandidate, here, if_true]
    rfl
  · refine ⟨rfl, ?_⟩
    unfold State.nextCandidate
    split
    · next old here => exact if_neg (other old here)
    · rfl

/-- R149: a fix that is not CURRENT has its candidate judged; the confirm-deferred flag stays only with a candidate that
is counted again. -/
theorem takeFix_judged {again : Bool} (hd : (s.zoneAt z).defined = true)
    (hn : ¬ (s.zone.tracking = .placed ∧ s.zone.effective = some z))
    (next : s.nextCandidate z = (c, if again then .counted else .newCandidate)) :
    takeFix z.val s =
      judgeCandidate c (if again then .counted else .newCandidate) (s.fixing c (s.zone.deferred && again)) := by
  rw [takeFix_defined hd]
  simp only [validFix, hn, if_false, next]
  cases again <;> rfl

/-! ### The confirmation (R150, R151) -/

theorem confirms_iff (s : State) (c : Candidate) : s.confirms c = true ↔
    s.settings.confirmCount ≤ c.count ∧ s.settings.confirmHold * 1000 ≤ s.time.clock - c.since := by
  rw [State.confirms, Bool.and_eq_true, decide_eq_true_iff, decide_eq_true_iff]
  rfl

theorem judgeCandidate_flagged {o : FixOutcome} (hf : s.zone.deferred = true) :
    judgeCandidate c o s = (.deferred, s) := by
  simp [judgeCandidate, hf]

theorem judgeCandidate_unconfirmed {o : FixOutcome} (hf : s.zone.deferred = false) (hc : s.confirms c = false) :
    judgeCandidate c o s = (o, s) := by
  simp [judgeCandidate, hf, hc]

theorem judgeCandidate_again {o : FixOutcome} (hf : s.zone.deferred = false) (hc : s.confirms c = true)
    (he : s.zone.effective = some c.zone) : judgeCandidate c o s = (.placedAgain, placeAgain s) := by
  simp [judgeCandidate, hf, hc, he]

theorem judgeCandidate_deferred {o : FixOutcome} (hf : s.zone.deferred = false) (hc : s.confirms c = true)
    (he : s.zone.effective ≠ some c.zone) (cut : s.cutPos.isSome = true) :
    judgeCandidate c o s = (.deferred, s.modZone fun z => { z with deferred := true }) := by
  simp [judgeCandidate, hf, hc, he, State.cutRunning, cut]

theorem judgeCandidate_crosses {o : FixOutcome} (hf : s.zone.deferred = false) (hc : s.confirms c = true)
    (he : s.zone.effective ≠ some c.zone) (idle : s.cutPos = none) :
    judgeCandidate c o s = (.crossed, crossing (some c.zone) true s) := by
  simp [judgeCandidate, hf, hc, he, State.cutRunning, idle]

/-! ### The answer (R148) -/

/-- R148: the answer to a FIX, from its outcome, the state after it and the notices it raised. -/
theorem exec_fix {h : Header} {n : Nat} {o : FixOutcome} {t : State} {ns : List Notice} (hr : s.ready)
    (hh : s.hears h .fix .nav) (taken : takeFix n s = (o, { t with raised := ns })) (quiet : t.raised = [])
    (time : t.time = s.time) (port : t.port = s.port) (hg : ∀ q ∈ ns, q.toGateway = false) :
    exec (.fix h n) s = answered h .fix .ok
      [.u8 o.code, .u8 t.zone.tracking.code, .u8 ((t.zone.effective.map Fin.val).getD 255),
        .u8 (if t.zone.candidate.isSome then 1 else 0), .u8 ((t.zone.candidate.map fun c => c.zone.val).getD 0),
        .u8 ((t.zone.candidate.map Candidate.count).getD 0), .u8 (if t.zone.deferred then 1 else 0),
        .u16 t.tariff.epoch.toNat] s t ns := by
  refine request_tells hr hh rfl ?_ quiet (port ▸ hr.2) (congrArg TimeBase.clock time) hg
  simp only [fixAnswer, taken, fCandidate, fFlag_eq, fZone]
  rfl

end

/-- Settles O52: the fix that names no zone, the one for where the part is, and the candidate's five ways. -/
theorem fixOutcomes : Obligations.FixOutcomes := by
  intro h s hr hh answers
  have silent {n : Nat} {o : FixOutcome} {t : State} (taken : takeFix n s = (o, t)) (quiet : t.raised = [])
      (time : t.time = s.time) (port : t.port = s.port) : answers n o.code t [] :=
    exec_fix hr hh (taken.trans (by rw [← quiet])) quiet time port (List.forall_mem_nil _)
  refine ⟨fun n hn => silent (takeFix_unknown hn) hr.1 rfl rfl, fun z hd => ?_⟩
  intro fixed
  refine ⟨fun placed here => ?_, ?_⟩
  · have current : validFix z s = (.current, fixed.modZone ZoneTracker.clearCandidate) := by
      simp only [validFix, placed, here, and_self, if_true]
      rfl
    exact silent ((takeFix_defined hd).trans current) hr.1 rfl rfl
  · intro hn c again hc confirmed waits flagged
    obtain ⟨named, next⟩ := nextCandidate_eq hc
    have judged := takeFix_judged hd hn next
    have confirms (d : Bool) : (s.fixing c d).confirms c = true ↔ confirmed := confirms_iff _ c
    have flag_iff : (s.zone.deferred && again) = true ↔ flagged := Bool.and_eq_true_iff
    have unflagged (hf : ¬ flagged) : (s.zone.deferred && again) = false := Bool.eq_false_iff.2 (mt flag_iff.1 hf)
    refine ⟨fun hf => ?_, fun hf hn => ?_, fun hf yes away cut => ?_, fun hf yes away idle => ?_,
      fun hf yes here stale => ?_⟩
    · rw [flag_iff.2 hf, judgeCandidate_flagged rfl] at judged
      exact silent judged hr.1 rfl rfl
    · rw [unflagged hf, judgeCandidate_unconfirmed rfl (Bool.eq_false_iff.2 (mt (confirms false).1 hn))] at judged
      have coded : (if again then 3 else 2) = FixOutcome.code (if again then .counted else .newCandidate) := by
        cases again <;> rfl
      rw [coded]
      exact silent judged hr.1 rfl rfl
    · rw [unflagged hf, judgeCandidate_deferred rfl ((confirms false).2 yes) (named ▸ away) cut] at judged
      exact silent judged hr.1 rfl rfl
    · rw [unflagged hf, judgeCandidate_crosses rfl ((confirms false).2 yes) (named ▸ away) idle, named] at judged
      obtain ⟨t, n, crossed, crosses⟩ := crossing_crosses (target := some z) (confirmed := true) (s := fixed) hr.1 idle
      obtain ⟨quiet, time, port⟩ := crosses.frame
      refine ⟨t, n, crosses, exec_fix hr hh (judged.trans (congrArg (Prod.mk _) (Eq.trans ?_ crossed)))
        (quiet.trans hr.1) time port fun q hq => ?_⟩
      · rfl
      · obtain rfl := List.mem_singleton.1 hq
        exact crosses.toGateway
    · rw [unflagged hf, judgeCandidate_again rfl ((confirms false).2 yes) (named ▸ here),
        placeAgain_eq (s := s.fixing c false) here] at judged
      refine exec_fix (o := .placedAgain) (t := fixed.replaced) hr hh (judged.trans ?_) hr.1 rfl rfl fun q hq => ?_
      · refine congrArg (Prod.mk _) ?_
        rw [show (s.fixing c false).raised = [] from hr.1]
        rfl
      · obtain rfl := List.mem_singleton.1 hq
        rfl

end Sys2Proof.Machine
end

section
/-! Chapter 8, fourth part: STALE_EXPIRY and DEFERRAL_RELEASE (R151 to R153). -/

namespace Sys2Proof.Machine

section
variable {s : State}

/-! ### The stale instant (R152, R153) -/

/-- R152: whether the stale instant of a PLACED tracking has passed. -/
theorem staleDue_iff (s : State) : s.staleDue = true ↔ s.zone.tracking = .placed ∧ ∃ f, s.zone.lastFix = some f
    ∧ min (f + 2 ^ s.settings.staleExponent * 1000) 1099511627775 ≤ s.time.clock := by
  rw [State.staleDue, staleInstant_eq]
  by_cases placed : s.zone.tracking = .placed
  · simp [placed, State.passed, Option.any_eq_true]
  · simp [placed]

/-- R153: the zone of a stale crossing is the fallback zone, if it is defined. -/
theorem fallbackZone_eq_some (s : State) (z : ZoneId) :
    s.fallbackZone = some z ↔ s.settings.fallback = some z ∧ (s.zoneAt z).defined = true :=
  Option.filter_eq_some_iff

theorem expiryWaits_iff (s : State) : (s.cutRunning || (s.zone.expiryHeld && s.zone.deferralPending)) = true ↔
    s.cutPos.isSome = true ∨ (s.zone.expiryHeld = true ∧ s.zone.releaseDue = true ∧ s.zone.deferred = true) := by
  simp only [Bool.or_eq_true, Bool.and_eq_true, ZoneTracker.deferralPending]
  rfl

/-! ### The effects (R151 to R153) -/

theorem exec_staleExpiry (s : State) : exec .staleExpiry s = .next (staleExpiryEffect s).flush := rfl

theorem exec_deferralRelease (s : State) : exec .deferralRelease s = .next (releaseEffect s).flush := rfl

/-- R178: an event that is a crossing. -/
theorem flush_crossing {target : Option ZoneId} {confirmed : Bool} (hr : s.ready) (idle : s.cutPos = none) :
    ∃ t n, Crosses target confirmed s t n
      ∧ Host.Outcome.next (crossing target confirmed s).flush = noticed t [n] := by
  obtain ⟨t, n, crossed, crosses⟩ := crossing_crosses (target := target) (confirmed := confirmed) hr.1 idle
  obtain ⟨quiet, -, port⟩ := crosses.frame
  exact ⟨t, n, crosses, crossed ▸ flush_raised (quiet.trans hr.1) (port ▸ hr.2)⟩

theorem confirm_crosses {z : ZoneId} (away : s.zone.effective ≠ some z) : confirm z s = crossing (some z) true s :=
  if_neg away

theorem confirm_placesAgain {z : ZoneId} (here : s.zone.effective = some z) : confirm z s = placeAgain s := if_pos here

/-- R151: a release that is due and finds a deferred candidate takes its confirmation. -/
theorem releaseEffect_confirms {c : Candidate} (due : s.zone.releaseDue = true) (deferred : s.zone.deferred = true)
    (idle : s.cutPos = none) (hc : s.zone.candidate = some c) :
    releaseEffect s = confirm c.zone { s with zone := { s.zone with releaseDue := false, deferred := false } } := by
  have goes_on : (!s.zone.deferred || s.cutRunning) = false := by simp [deferred, State.cutRunning, idle]
  simp only [releaseEffect, due, goes_on, Bool.not_true, Bool.false_eq_true, if_false]
  split
  · next none_left => cases hc.symm.trans none_left
  · next d hd =>
    obtain rfl := Option.some.inj (hc.symm.trans hd)
    rfl

/-- R151: a release that is due and finds nothing deferred, or another cut pass. -/
theorem releaseEffect_ends (due : s.zone.releaseDue = true)
    (none_taken : s.zone.deferred = false ∨ s.cutPos.isSome = true) :
    releaseEffect s = s.modZone fun z => { z with releaseDue := false } := by
  have ends : (!s.zone.deferred || s.cutRunning) = true := by
    rw [Bool.or_eq_true, Bool.not_eq_true']
    exact none_taken
  simp only [releaseEffect, due, ends]
  rfl

end

/-- Settles O53: an expiry that waits, is not due or crosses; a release that is not due, ends or confirms. -/
theorem staleExpiryAndRelease : Obligations.StaleExpiryAndRelease := by
  intro s hr due waits taken released cleared
  refine ⟨fun hw => ?_, fun hw hn => ?_, fun hw hd target ht => ?_, fun hn => ?_, fun hd => ⟨fun hn => ?_,
    fun hf idle c hc => ?_⟩⟩
  · rw [exec_staleExpiry, staleExpiryEffect, if_pos ((expiryWaits_iff s).2 hw), flush_quiet hr.1]
  · have early : taken.staleDue ≠ true := mt (staleDue_iff taken).1 hn
    rw [exec_staleExpiry, staleExpiryEffect, if_neg (mt (expiryWaits_iff s).1 hw)]
    exact congrArg Host.Outcome.next ((congrArg State.flush (if_neg early)).trans (flush_quiet hr.1))
  · have idle : s.cutPos = none := by
      cases hcut : s.cutPos with
      | none => rfl
      | some n => exact absurd (.inl (by rw [hcut]; rfl)) hw
    have late : taken.staleDue = true := (staleDue_iff taken).2 hd
    have fallback : s.fallbackZone = target := Option.ext fun z => (fallbackZone_eq_some s z).trans (ht z).symm
    obtain ⟨t, n, crosses, crossed⟩ := flush_crossing (target := target) (confirmed := false) (s := taken) hr idle
    refine ⟨t, n, crosses, ?_⟩
    rw [exec_staleExpiry, staleExpiryEffect, if_neg (mt (expiryWaits_iff s).1 hw), fallback]
    exact (congrArg (fun u => Host.Outcome.next (State.flush u)) (if_pos late)).trans crossed
  · rw [exec_deferralRelease, releaseEffect, hn]
    exact congrArg Host.Outcome.next (flush_quiet hr.1)
  · rw [exec_deferralRelease, releaseEffect_ends hd hn]
    exact congrArg Host.Outcome.next (flush_quiet hr.1)
  · have confirms : releaseEffect s = confirm c.zone cleared := releaseEffect_confirms hd hf idle hc
    rw [exec_deferralRelease, confirms]
    refine ⟨fun away => ?_, fun here stale => ?_⟩
    · obtain ⟨t, n, crosses, crossed⟩ :=
        flush_crossing (target := some c.zone) (confirmed := true) (s := cleared) hr idle
      exact ⟨t, n, crosses, (confirm_crosses (s := cleared) away) ▸ crossed⟩
    · rw [confirm_placesAgain (s := cleared) here]
      exact flush_told (s := cleared) (t := cleared.replaced) hr (placeAgain_eq here) hr.1 rfl

end Sys2Proof.Machine
end

section
/-! Chapter 8, fifth part: what a close with reason SILENCE leaves and tells, session by session (R50, R57, R159). -/

namespace Sys2Proof.Machine

/-! ### Who a session is -/

/-- The subscriber, the class and the reference of the session open at a handle. -/
def State.identityAt (s : State) (n : Nat) : Option (Nat × TrafficClass × BitVec 32) := (s.ses n).map Session.identity

theorem identityAt_of_ses {s : State} {n : Nat} {x : Session} (hx : s.ses n = some x) :
    s.identityAt n = some x.identity := by
  rw [State.identityAt, hx]; rfl

theorem owner_of_identityAt {s : State} {n : Nat} {i : Nat × TrafficClass × BitVec 32}
    (hi : s.identityAt n = some i) : s.owner n = some i.1 := by
  obtain ⟨x, hx, rfl⟩ := Option.map_eq_some_iff.1 hi
  exact (owner_eq_some_iff ..).2 ⟨x, hx, rfl⟩

/-- An operation on the session open at `n` that changes of the others at most the service state. -/
theorem identityAt_eq {n : Nat} {x y : Session} {s t : State} (hx : s.ses n = some x) (hy : t.ses n = some y)
    (same : y.identity = x.identity)
    (other : ∀ m w, m ≠ n → s.ses m = some w → ∃ v, t.ses m = some { w with service := v })
    (free : ∀ m, m ≠ n → s.ses m = none → t.ses m = none) (m : Nat) : t.identityAt m = s.identityAt m := by
  by_cases hm : m = n
  · rw [hm, identityAt_of_ses hx, identityAt_of_ses hy, same]
  · cases hw : s.ses m with
    | none => rw [State.identityAt, State.identityAt, free m hm hw, hw]
    | some w =>
      obtain ⟨v, hv⟩ := other m w hm hw
      rw [identityAt_of_ses hv, identityAt_of_ses hw]
      rfl

/-! ### The final rating (R73) -/

theorem Cuts.identityAt {n : Nat} {x : Session} {s t : State} (h : Cuts n x s t) (hx : s.ses n = some x) (m : Nat) :
    t.identityAt m = s.identityAt m := by
  obtain ⟨y, hy, cut⟩ := h.own
  refine identityAt_eq hx hy (by rw [cut]; rfl) h.other (fun m _ hm => ?_) m
  have seat := h.rates.seat m
  simpa [State.seat, hm] using seat

theorem Billed.identityAt {n : Nat} {x : Session} {c : Context} {p : Partner} {z : ZoneClass} {a b r : Nat}
    {s t : State} (h : Billed n x c p z a b r s t) (hx : s.ses n = some x) (m : Nat) :
    t.identityAt m = s.identityAt m := by
  obtain ⟨y, hy, same⟩ := h.own
  refine identityAt_eq hx hy (by rw [same]; rfl) (fun m w hm hw => ?_) h.free m
  obtain ⟨v, hv, -⟩ := h.other m w hm hw
  exact ⟨v, hv⟩

/-- R73: the final rating charges some amount once the session has had its epoch cut. -/
theorem finalRating_after_cut {n : Nat} {x : Session} {c : Context} {p : Partner} {s u : State}
    (cut : epochCutOf n s = u) (ho : Owned u n x c p) :
    ∃ z a b r, Billed n x c p z a b r u (finalRating n s) := by
  by_cases hx : x.cls = .emergency
  · have idle : finalRating n s = u := by simp only [finalRating, cut, ho.session, hx, if_true]
    rw [idle]
    exact ⟨_, _, _, _, Billed.refl u.effectiveClass ho⟩
  · have steps : finalRating n s = closeCarry n (u.currentPrice x p).zoneClass
        (closeMinimum n (u.currentPrice x p) (closeResidue n (u.currentPrice x p) u)) := by
      simp only [finalRating, cut, ho.session, hx, if_false, partnerOf_eq ho.context ho.partner]
    rw [steps]
    exact ⟨_, _, _, _, ((closeResidue_billed (u.currentPrice x p) ho).trans fun _ _ _ hb hr ho' =>
      closeMinimum_billed (u.currentPrice x p) ho' hb hr).trans fun _ _ _ hb hr ho' =>
        closeCarry_billed (u.currentPrice x p).zoneClass ho' hb hr⟩

theorem Books.owned {s : State} {n : Nat} {x : Session} {c : Context} (hb : Books s) (hx : s.ses n = some x)
    (hc : s.ctx x.subscriber = some c) : ∃ p, Owned s n x c p := by
  obtain ⟨-, -, contexts, -⟩ := (books_iff s).1 hb
  obtain ⟨p, hp⟩ := Option.isSome_iff_exists.1 (contexts _ c hc).2
  exact ⟨p, hx, hc, hp⟩

/-- R73: the final rating of a session leaves every session its subscriber, class and reference. -/
theorem finalRating_identityAt {s : State} {n : Nat} {x : Session} {c : Context} (hb : Books s)
    (hx : s.ses n = some x) (hc : s.ctx x.subscriber = some c) (m : Nat) :
    (finalRating n s).identityAt m = s.identityAt m := by
  obtain ⟨p, ho⟩ := hb.owned hx hc
  have cuts := epochCutOf_cuts ho
  have settles := settles_epochCutOf (within_self hx)
  obtain ⟨y, hy, cut⟩ := cuts.own
  obtain ⟨d, hd, -⟩ := settles.present c hc
  have subscriber : y.subscriber = x.subscriber := by rw [cut]
  obtain ⟨q, ho'⟩ := (settles.books hb).owned hy (subscriber ▸ hd)
  obtain ⟨_, _, _, _, bill⟩ := finalRating_after_cut rfl ho'
  exact (bill.identityAt hy m).trans (cuts.identityAt hx m)

/-! ### The relation -/

/-- A link as it is with no session counted on it and no slot reserved. -/
def Link.emptied (k : Link) : Link := { k with bound := 0, emergency := 0, reserved := 0 }

/-- `t` is `s` after closes with reason SILENCE, which tell of every session that `gone` admits, by its handle and its
subscriber: the others stay open, the links change in their counts alone, and GATEWAY is told nothing. -/
structure Hushes (gone : Nat → Nat → Prop) (s t : State) : Prop where
  frame : t.port = s.port ∧ t.zone = s.zone ∧ t.time = s.time ∧ t.cutPos = s.cutPos
  mig : t.mig = s.mig
  link : ∀ l, (t.link l).emptied = (s.link l).emptied
  kept : ∀ m i, s.identityAt m = some i → ¬ gone m i.1 → t.identityAt m = some i
  told : ∃ qs, t.raised = s.raised ++ qs ∧ (∀ q ∈ qs, q.toGateway = false)
    ∧ ∀ m i, s.identityAt m = some i → gone m i.1 → ∃ k b, .sessionClosed m i.1 i.2.1 .silence k b i.2.2 ∈ qs

section
variable {gone gone' : Nat → Nat → Prop} {s t u : State}

theorem Hushes.refl (hg : ∀ m k, ¬ gone m k) (s : State) : Hushes gone s s where
  frame := ⟨rfl, rfl, rfl, rfl⟩
  mig := rfl
  link _ := rfl
  kept _ _ hi _ := hi
  told := ⟨[], (List.append_nil _).symm, List.forall_mem_nil _, fun m i _ h => absurd h (hg m i.1)⟩

theorem Hushes.trans (h₁ : Hushes gone s t) (h₂ : Hushes gone' t u) :
    Hushes (fun m k => gone m k ∨ gone' m k) s u where
  frame := by
    obtain ⟨port, zone, time, cutPos⟩ := h₁.frame
    obtain ⟨port', zone', time', cutPos'⟩ := h₂.frame
    exact ⟨port'.trans port, zone'.trans zone, time'.trans time, cutPos'.trans cutPos⟩
  mig := h₂.mig.trans h₁.mig
  link l := (h₂.link l).trans (h₁.link l)
  kept m i hi hn := by
    rw [not_or] at hn
    exact h₂.kept m i (h₁.kept m i hi hn.1) hn.2
  told := by
    obtain ⟨ps, raised, quiet, first⟩ := h₁.told
    obtain ⟨qs, raised', quiet', second⟩ := h₂.told
    refine ⟨ps ++ qs, by rw [raised', raised, List.append_assoc], fun q hq => ?_, fun m i hi hg => ?_⟩
    · exact (List.mem_append.1 hq).elim (quiet q) (quiet' q)
    · by_cases earlier : gone m i.1
      · obtain ⟨k, b, hm⟩ := first m i hi earlier
        exact ⟨k, b, List.mem_append_left _ hm⟩
      · obtain ⟨k, b, hm⟩ := second m i (h₁.kept m i hi earlier) (hg.resolve_left earlier)
        exact ⟨k, b, List.mem_append_right _ hm⟩

/-- The same sessions, told apart by another test. -/
theorem Hushes.congr (h : Hushes gone s t) (hg : ∀ m i, s.identityAt m = some i → (gone m i.1 ↔ gone' m i.1)) :
    Hushes gone' s t where
  frame := h.frame
  mig := h.mig
  link := h.link
  kept m i hi hn := h.kept m i hi (mt (hg m i hi).1 hn)
  told := by
    obtain ⟨qs, raised, quiet, told⟩ := h.told
    exact ⟨qs, raised, quiet, fun m i hi hn => told m i hi ((hg m i hi).2 hn)⟩

end

/-! ### One session (R50) -/

/-- R50 step 5, R57: a close with reason SILENCE tells of the session it frees. -/
theorem closing_told {s : State} {n : Nat} {x : Session} (hx : s.ses n = some x) :
    ((notifyClose n .silence (uncount n s)).freeSession n).raised =
      s.raised ++ [.sessionClosed n x.subscriber x.cls .silence x.charge x.blocks x.ref] := by
  have counted : uncount n s = { loseCount x s with tariff := (uncount n s).tariff } := uncount_eq hx
  have raised : (uncount n s).raised = s.raised := by rw [counted, loseCount_frame]
  have here : (uncount n s).ses n = some x := by rw [counted, loseCount_frame]; exact hx
  simp only [notifyClose, here, ← raised]
  rfl

/-- R50 step 1: while no batch is in flight a close withdraws nothing. -/
theorem withdraw_idle {s : State} (hs : Counts s) (idle : s.mig.batch = none) {n : Nat} {x : Session}
    (hx : s.ses n = some x) : withdraw n s = s := by
  refine withdraw_still hx (Bool.eq_false_iff.2 fun hm => ?_)
  exact ((counts_iff s).1 hs).2.1 idle n ⟨x.seat, seat_of_ses hx, hm⟩

theorem closeSession_hushes {s : State} {n : Nat} {x : Session} {c : Context} (hb : Books s) (hs : Counts s)
    (idle : s.mig.batch = none) (hx : s.ses n = some x) (hc : s.ctx x.subscriber = some c)
    (dormant : c.presence = .dormant) : Hushes (fun m _ => m = n) s (closeSession n .silence s) := by
  have unlisted := unlist_eq hx hc
  have rated : closeRated n s = finalRating n (unlist n s) := by rw [closeRated, withdraw_idle hs idle hx]
  have books : Books (unlist n s) := by rw [unlisted]; exact books_setCtx hc rfl rfl id hb
  have listed : (unlist n s).ctx x.subscriber = some { c with sessions := c.sessions.filter (· ≠ n) } := by
    rw [unlisted, State.ctx_setCtx]
  have open_still : (unlist n s).ses n = some x := by rw [unlisted]; exact hx
  have identity (m : Nat) : (closeRated n s).identityAt m = s.identityAt m := by
    rw [rated, finalRating_identityAt books open_still listed, unlisted]
    rfl
  have rates : Rates s (closeRated n s) := rated ▸ (rates_unlist n s).trans (rates_finalRating n _)
  obtain ⟨y, hy, same⟩ := Option.map_eq_some_iff.1 ((identity n).trans (identityAt_of_ses hx))
  have frame := closing_frame .silence hy
  have told := closing_told hy
  obtain ⟨qs, raised, quiet⟩ := (settles_closeSession .silence (within_self hx) hx).told
  obtain ⟨ps, rating⟩ : ∃ ps, (closeRated n s).raised = s.raised ++ ps := by
    have settles := settles_finalRating (within_self open_still)
    obtain ⟨ps, hps, -⟩ := settles.told
    exact ⟨ps, by rw [rated, hps, unlisted]; rfl⟩
  change (closeSession n .silence s).raised = _ at told
  change closeSession n .silence s = _ at frame
  generalize closeSession n .silence s = t at *
  have news : qs = ps ++ [.sessionClosed n y.subscriber y.cls .silence y.charge y.blocks y.ref] := by
    rw [told, rating, List.append_assoc] at raised
    exact (List.append_cancel_left raised).symm
  refine ⟨?_, ?_, fun l => ?_, fun m i hi hm => ?_, qs, raised, quiet fun d hd => ?_, fun m i hi hm => ?_⟩
  · rw [frame, rates.frame]
    exact ⟨rfl, rfl, rfl, rfl⟩
  · rw [frame, rates.frame]
  · have link : t.link l = (loseCount y (closeRated n s)).link l := by rw [frame]; rfl
    rw [link, loseCount_link, rates.link]
    rfl
  · have here : t.ses m = (closeRated n s).ses m := by
      rw [frame]
      exact Table.get_erase_other _ hm
    rw [State.identityAt, here]
    exact (identity m).trans hi
  · obtain rfl : c = d := Option.some.inj (hc.symm.trans hd)
    exact dormant
  · subst hm
    obtain rfl : x.identity = i := Option.some.inj ((identityAt_of_ses hx).symm.trans hi)
    refine ⟨y.charge, y.blocks, ?_⟩
    rw [news, ← same]
    exact List.mem_append_right _ (List.mem_singleton_self _)

end Sys2Proof.Machine
end

section
/-! Chapter 8, sixth part: every ATTACHED context made DORMANT and its sessions closed (R32, R159 step 3). -/

namespace Sys2Proof.Machine

/-! ### The sessions of one context (R33, R159) -/

theorem closeList_hushes {ns : List Nat} {s : State} {k : Nat} {c : Context} (hb : Books s) (hs : Counts s)
    (idle : s.mig.batch = none) (hc : s.ctx k = some c) (dormant : c.presence = .dormant) (hd : ns.Nodup)
    (ho : ∀ n ∈ ns, s.owner n = some k) : Hushes (fun m _ => m ∈ ns) s (closeList ns .silence s) := by
  unfold closeList
  induction ns generalizing s c with
  | nil => exact .refl (by simp) s
  | cons n ns ih =>
    rw [List.nodup_cons] at hd
    rw [List.forall_mem_cons] at ho
    obtain ⟨x, hx, rfl⟩ := (owner_eq_some_iff ..).1 ho.1
    have head := closeSession_hushes hb hs idle hx hc dormant
    have settles := settles_closeSession .silence (within_self hx) hx
    obtain ⟨d, hd', settled⟩ := settles.present c hc
    have rest := ih (s := closeSession n .silence s) (settles.books hb) (counts_closeSession n .silence s hs)
      (settles.batch idle) hd' (settled.presence.trans dormant) hd.2 fun m hm => ?_
    · exact (head.trans rest).congr fun m i _ => by rw [List.mem_cons]
    · rw [settles.owner_eq, if_neg fun e => hd.1 (by rwa [← List.mem_singleton.1 e])]
      exact ho.2 m hm

/-- What the entry into silence keeps from one context to the next. -/
structure Calm (s : State) : Prop where
  sound : Sound s
  counts : Counts s
  idle : s.mig.batch = none

theorem calm_silenceContext {s : State} (hs : Calm s) (h : Nat) : Calm (silenceContext h s) := by
  obtain ⟨paired, -, -, batch⟩ := silenceContext_lists h hs.sound.2
  exact ⟨⟨(keeps_silenceContext h s).books hs.sound.1, paired⟩, counts_silenceContext h s hs.counts, batch hs.idle⟩

/-- R159 step 3: the close of the sessions of one context. -/
theorem silenceContext_hushes {s : State} (hs : Calm s) (h : Nat) :
    Hushes (fun _ k => k = h) s (silenceContext h s) := by
  obtain ⟨-, -, lists, opened⟩ := hs.sound.2
  unfold silenceContext
  split
  · next hc =>
    refine (Hushes.refl (gone := fun _ _ => False) (fun _ _ => id) s).congr fun m i hi => iff_of_false id ?_
    rintro rfl
    obtain ⟨pr, ns, hl, -⟩ := opened m i.1 (owner_of_identityAt hi)
    simp [State.listing, hc] at hl
  · next c hc =>
    obtain ⟨nodup, -, -, mine⟩ := lists h _ _ ((listing_eq_some_iff ..).2 ⟨c, hc, rfl, rfl⟩)
    have closes := closeList_hushes (s := s.setCtx h (c.goDormant s.dormancyDeadline))
      (books_setCtx hc rfl rfl id hs.sound.1) ((rates_setCtx _ _ s).seated.keeps hs.counts) hs.idle (State.ctx_setCtx ..)
      rfl nodup mine
    have from_before : Hushes (fun m _ => m ∈ c.sessions) s (dropContext h c .silence s) :=
      ⟨closes.frame, closes.mig, closes.link, closes.kept, closes.told⟩
    refine from_before.congr fun m i hi => ⟨fun hm => ?_, fun e => ?_⟩
    · exact Option.some.inj ((owner_of_identityAt hi).symm.trans (mine m hm))
    · obtain ⟨pr, ns, hl, hm⟩ := opened m h (e ▸ owner_of_identityAt hi)
      obtain ⟨d, hd, -, rfl⟩ := (listing_eq_some_iff ..).1 hl
      obtain rfl : c = d := Option.some.inj (hc.symm.trans hd)
      exact hm

/-! ### The context itself (R32) -/

/-- `d` is the context `c` after it was made DORMANT with a deadline and its sessions were closed. -/
def Context.dropped (deadline : Nat) (c d : Context) : Prop :=
  d = { c with
    presence := .dormant, dormancy := some deadline, sessions := [], folio := d.folio, sub := d.sub
    consumed := d.consumed, credit := d.credit }

/-- `t` is `s` after the contexts at `hs` were made DORMANT with a deadline. -/
structure Drops (deadline : Nat) (hs : List Nat) (s t : State) : Prop where
  absent : ∀ k, s.ctx k = none → t.ctx k = none
  kept : ∀ k, k ∉ hs → t.ctx k = s.ctx k
  dropped : ∀ k c, k ∈ hs → s.ctx k = some c → ∃ d, t.ctx k = some d ∧ c.dropped deadline d

theorem Drops.trans {deadline : Nat} {hs hs' : List Nat} {s t u : State} (h₁ : Drops deadline hs s t)
    (h₂ : Drops deadline hs' t u) : Drops deadline (hs ++ hs') s u where
  absent k hk := h₂.absent k (h₁.absent k hk)
  kept k hk := by
    rw [List.mem_append, not_or] at hk
    exact (h₂.kept k hk.2).trans (h₁.kept k hk.1)
  dropped k c hk hc := by
    by_cases earlier : k ∈ hs
    · obtain ⟨d, hd, drop⟩ := h₁.dropped k c earlier hc
      by_cases later : k ∈ hs'
      · obtain ⟨e, he, drop'⟩ := h₂.dropped k d later hd
        refine ⟨e, he, ?_⟩
        unfold Context.dropped at *
        rw [drop', drop]
      · exact ⟨d, (h₂.kept k later).trans hd, drop⟩
    · exact h₂.dropped k c ((List.mem_append.1 hk).resolve_left earlier) ((h₁.kept k earlier).trans hc)

theorem silenceContext_drops {s : State} (hs : Calm s) (h : Nat) :
    Drops s.dormancyDeadline [h] s (silenceContext h s) := by
  unfold silenceContext
  split
  · next hc =>
    refine ⟨fun _ => id, fun _ _ => rfl, fun k c hk hc' => ?_⟩
    rw [List.mem_singleton.1 hk, hc] at hc'
    cases hc'
  · next c hc =>
    have drop := settles_dropContext .silence hs.sound.2 hc
    have kept (k : Nat) (hk : k ≠ h) : (dropContext h c .silence s).ctx k = s.ctx k :=
      (drop.other k hk).trans (State.ctx_setCtx_other _ _ hk)
    refine ⟨fun k hk => (kept k ?_).trans hk, fun k hk => kept k (mt List.mem_singleton.2 hk), fun k c' hk hc' => ?_⟩
    · rintro rfl
      rw [hc] at hk
      cases hk
    · obtain rfl := List.mem_singleton.1 hk
      obtain rfl : c = c' := Option.some.inj (hc.symm.trans hc')
      obtain ⟨d, hd, settled⟩ := drop.present (c.goDormant s.dormancyDeadline) (by simp)
      exact ⟨d, hd, settled_goDormant settled⟩

/-! ### All of them (R159 step 3) -/

theorem silenceContexts_calm (hs : List Nat) {s : State} (calm : Calm s) :
    let t := hs.foldl (fun s h => silenceContext h s) s
    Hushes (fun _ k => k ∈ hs) s t ∧ Drops s.dormancyDeadline hs s t := by
  induction hs generalizing s with
  | nil => exact ⟨.refl (by simp) s, fun _ => id, fun _ _ => rfl, fun _ _ h => absurd h List.not_mem_nil⟩
  | cons h hs ih =>
    have hushes := silenceContext_hushes calm h
    obtain ⟨rest, drops⟩ := ih (calm_silenceContext calm h)
    have deadline : (silenceContext h s).dormancyDeadline = s.dormancyDeadline := by
      simp only [State.dormancyDeadline, State.now, State.settings, hushes.frame.2.2.1]
    rw [deadline] at drops
    exact ⟨(hushes.trans rest).congr fun m i _ => by rw [List.mem_cons], (silenceContext_drops calm h).trans drops⟩

/-! ### The counts that the notice carries (R160) -/

theorem mem_attachedHandles_iff {s : State} (hw : Table.wf s.subs.contexts = true) (h : Nat) :
    h ∈ s.attachedHandles ↔ ∃ c, s.ctx h = some c ∧ c.presence = .attached := by
  refine ⟨fun hm => ?_, fun ⟨c, hc, ha⟩ => mem_attachedHandles hc ha⟩
  obtain ⟨p, hp, rfl⟩ := List.mem_map.1 hm
  obtain ⟨hp, ha⟩ := List.mem_filter.1 hp
  exact ⟨p.2, Table.get_of_mem hw hp, by simpa using ha⟩

theorem attachedHandles_length (s : State) :
    s.attachedHandles.length = (s.contextsWith fun c => c.presence == .attached).length := by
  simp only [State.attachedHandles, State.contextsWith, List.length_map]

/-- R23, R33: the subscriber of an open session is ATTACHED. -/
theorem owner_attached {s : State} (hs : Paired s) {n k : Nat} (hn : s.owner n = some k) :
    ∃ c, s.ctx k = some c ∧ c.presence = .attached ∧ n ∈ c.sessions := by
  obtain ⟨-, -, lists, opened⟩ := hs
  obtain ⟨pr, ns, hl, hm⟩ := opened n k hn
  obtain ⟨-, -, empty, -⟩ := lists k pr ns hl
  obtain ⟨c, hc, rfl, rfl⟩ := (listing_eq_some_iff ..).1 hl
  refine ⟨c, hc, ?_, hm⟩
  cases hp : c.presence with
  | attached => rfl
  | dormant => rw [empty hp] at hm; cases hm

/-- The session list of the context at a handle; none for an absent slot. -/
def State.sessionsOf (s : State) (h : Nat) : List Nat := ((s.ctx h).map Context.sessions).getD []

theorem listedSessions_eq (s : State) (hs : List Nat) : s.listedSessions hs = (hs.flatMap s.sessionsOf).length := by
  rw [State.listedSessions, List.length_flatMap]
  congr 1
  refine List.map_congr_left fun h _ => ?_
  rw [State.sessionsOf]
  cases s.ctx h <;> rfl

/-- R23: only the sessions of its own subscriber stand on a session list. -/
theorem owner_of_mem_sessionsOf {s : State} (hs : Paired s) {h n : Nat} (hn : n ∈ s.sessionsOf h) :
    s.owner n = some h := by
  obtain ⟨-, -, lists, -⟩ := hs
  cases hc : s.ctx h with
  | none => simp [State.sessionsOf, hc] at hn
  | some c =>
    obtain ⟨-, -, -, mine⟩ := lists h _ _ ((listing_eq_some_iff ..).2 ⟨c, hc, rfl, rfl⟩)
    exact mine n (by simpa [State.sessionsOf, hc] using hn)

/-- R23: no session is listed twice. -/
theorem sessionsOf_nodup {s : State} (hs : Paired s) {hs' : List Nat} (hd : hs'.Nodup) :
    (hs'.flatMap s.sessionsOf).Nodup := by
  refine List.nodup_flatMap.2 ⟨fun h _ => ?_, hd.imp fun {a b} hab n ha hb => ?_⟩
  · cases hc : s.ctx h with
    | none => simp [State.sessionsOf, hc]
    | some c =>
      obtain ⟨nodup, -⟩ := hs.2.2.1 h _ _ ((listing_eq_some_iff ..).2 ⟨c, hc, rfl, rfl⟩)
      simpa [State.sessionsOf, hc] using nodup
  · exact hab (Option.some.inj ((owner_of_mem_sessionsOf hs ha).symm.trans (owner_of_mem_sessionsOf hs hb)))

/-- R23: the ATTACHED contexts list each open session once. -/
theorem listedSessions_attached {s : State} (hs : Paired s) :
    s.listedSessions s.attachedHandles = s.sess.records.length := by
  obtain ⟨wc, wr, -⟩ := id hs
  have handles : s.attachedHandles.Nodup := (Table.nodup_keys wc).sublist (List.filter_sublist.map Prod.fst)
  have same : (s.attachedHandles.flatMap s.sessionsOf).Perm (s.sess.records.map Prod.fst) := by
    refine (List.perm_ext_iff_of_nodup (sessionsOf_nodup hs handles) (Table.nodup_keys wr)).2 fun n => ?_
    rw [List.mem_flatMap, List.mem_map]
    constructor
    · rintro ⟨h, -, hn⟩
      obtain ⟨x, hx, -⟩ := (owner_eq_some_iff ..).1 (owner_of_mem_sessionsOf hs hn)
      exact ⟨(n, x), Table.mem_of_get hx, rfl⟩
    · rintro ⟨p, hp, rfl⟩
      obtain ⟨c, hc, attached, hm⟩ := owner_attached hs
        ((owner_eq_some_iff ..).2 ⟨p.2, Table.get_of_mem wr hp, rfl⟩)
      exact ⟨_, mem_attachedHandles hc attached, by simpa [State.sessionsOf, hc] using hm⟩
  rw [listedSessions_eq, same.length_eq, List.length_map]

end Sys2Proof.Machine
end

section
/-! Chapter 8, seventh part: the entry into silence, and SILENCE_SET and SILENCE_LINE_CHANGE (R141, R157 to R161). -/

namespace Sys2Proof.Machine

/-! ### The end of every migration (R141) -/

/-- R133, R141: `s` with the sessions of the in-flight batch, if any, back at the bindings they had. -/
def State.recalled (s : State) : State :=
  match s.mig.batch with
  | none => s
  | some b => s.returned b

/-- R141: what the end of every migration tells: the batch abandoned, and then every order discarded. -/
def State.migrationNews (s : State) : List Notice :=
  (match s.mig.batch with
    | none => []
    | some b => [.batchAbandoned b.number b.source b.dest .silence b.sessions.length])
    ++ s.mig.queue.map fun o => endOf o .discarded 0

theorem raiseAll_eq (os : List Order) (f : Order → Notice) (s : State) :
    os.foldl (fun s o => s.raise (f o)) s = { s with raised := s.raised ++ os.map f } := by
  induction os generalizing s with
  | nil => simp
  | cons o os ih => rw [List.foldl_cons, ih]; simp [State.raise]

theorem silenceMigration_eq {s : State} (hc : Counts s) : silenceMigration s = { s.recalled with
    mig := { queue := [], batch := none, counter := s.mig.counter }, raised := s.raised ++ s.migrationNews } := by
  unfold silenceMigration
  simp only [raiseAll_eq, State.setQueue]
  cases hb : s.mig.batch with
  | none =>
    simp only [State.recalled, State.migrationNews, hb]
    rfl
  | some b =>
    obtain ⟨nodup, openOnes⟩ := batch_open hc hb
    simp only [returnBatch_eq hc.1 nodup openOnes, State.recalled, State.migrationNews, hb]
    simp only [State.raise, State.returned, List.append_assoc]
    rfl

/-- What a table reads whose records were each rewritten. -/
theorem Table.get_map_keyed {α : Type} (f : Nat → α → α) (t : Table α) (k : Nat) :
    Table.get (t.map fun p => (p.1, f p.1 p.2)) k = (Table.get t k).map (f k) := by
  induction t with
  | nil => rfl
  | cons p t ih =>
    rw [List.map_cons, Table.get_cons, Table.get_cons, ih]
    split
    · next h => rw [h]; rfl
    · rfl

/-- R133: the session at a handle once the batch has been returned. -/
def Batch.home (b : Batch) (n : Nat) (x : Session) : Session :=
  if n ∈ b.sessions then { x with binding := homeBinding b.source } else x

theorem Batch.home_identity (b : Batch) (n : Nat) (x : Session) : (b.home n x).identity = x.identity := by
  unfold Batch.home
  split <;> rfl

theorem identityAt_returned (s : State) (b : Batch) (n : Nat) : (s.returned b).identityAt n = s.identityAt n := by
  have records : (s.returned b).sess.records = s.sess.records.map fun p => (p.1, b.home p.1 p.2) := by
    refine List.map_congr_left fun p _ => ?_
    unfold Batch.home
    split
    · cases b.source <;> rfl
    · rfl
  rw [State.identityAt, State.ses, records, Table.get_map_keyed, Option.map_map]
  exact congrArg (Option.map · (s.ses n)) (funext (b.home_identity n))

theorem recalled_identityAt (s : State) (n : Nat) : s.recalled.identityAt n = s.identityAt n := by
  unfold State.recalled
  split
  · rfl
  · exact identityAt_returned s _ n

theorem recalled_link (s : State) (l : LinkId) : (s.recalled.link l).emptied = (s.link l).emptied := by
  unfold State.recalled
  split
  · rfl
  · next b hb =>
    have read : (s.returned b).link l = if l = b.dest then _ else s.link l := s.link_set b.dest l _
    rw [read]
    split
    · next h => rw [h]; rfl
    · rfl

theorem recalled_frame (s : State) : s.recalled = { s with
    sess := s.recalled.sess, links := s.recalled.links, mig := s.recalled.mig } := by
  unfold State.recalled
  split <;> rfl

/-- R141: the end of every migration leaves the contexts, and of sessions and links all but bindings and counts. -/
theorem silenceMigration_leaves {s : State} (hc : Counts s) :
    (∀ k, (silenceMigration s).ctx k = s.ctx k) ∧ (∀ n, (silenceMigration s).identityAt n = s.identityAt n)
      ∧ (∀ l, ((silenceMigration s).link l).emptied = (s.link l).emptied)
      ∧ (silenceMigration s).port = s.port ∧ (silenceMigration s).zone = s.zone
      ∧ (silenceMigration s).time = s.time ∧ (silenceMigration s).cutPos = s.cutPos := by
  rw [silenceMigration_eq hc]
  refine ⟨fun k => ?_, recalled_identityAt s, recalled_link s, ?_⟩
  · rw [recalled_frame]; rfl
  · rw [recalled_frame]; exact ⟨rfl, rfl, rfl, rfl⟩

theorem toGateway_migrationNews (s : State) : ∀ n ∈ s.migrationNews, n.toGateway = false := by
  intro n hn
  obtain abandoned | discarded := List.mem_append.1 hn
  · split at abandoned
    · cases abandoned
    · obtain rfl := List.mem_singleton.1 abandoned
      rfl
  · obtain ⟨o, -, rfl⟩ := List.mem_map.1 discarded
    rfl

/-! ### A silent part (R159) -/

/-- R23, R159: a part that is silent has no open session. -/
theorem records_of_silent {s : State} (hs : Listed s) (silent : s.silent = true) : s.sess.records = [] := by
  obtain ⟨paired, quiet⟩ := (listed_iff s).1 hs
  obtain ⟨dormant, -⟩ := quiet silent
  refine List.eq_nil_iff_forall_not_mem.2 fun p hp => ?_
  obtain ⟨c, hc, attached, -⟩ := owner_attached paired
    ((owner_eq_some_iff ..).2 ⟨p.2, Table.get_of_mem paired.2.1 hp, rfl⟩)
  cases attached.symm.trans (dormant _ (Table.mem_of_get hc))

theorem Link.emptied_of_zero {k : Link} (bound : k.bound = 0) (emergency : k.emergency = 0) (reserved : k.reserved = 0) :
    k.emptied = k := by
  cases k
  simp_all [Link.emptied]

/-- R40, R115: without an open session every count is 0. -/
theorem counts_of_no_session {s : State} (hs : Counts s) (empty : s.sess.records = []) :
    s.sess = { records := [], stranded := 0 } ∧ ∀ l, s.link l = (s.link l).emptied := by
  obtain ⟨-, counted, -, stranded, -⟩ := hs
  have zero (f : Session → Bool) : s.countSessions f = 0 := by rw [State.countSessions, empty]; rfl
  refine ⟨?_, fun l => ?_⟩
  · rw [zero] at stranded
    rw [← empty, ← stranded]
  · obtain ⟨bound, emergency, reserved⟩ := counted l
    exact (Link.emptied_of_zero (bound.trans (zero _)) (emergency.trans (zero _)) (reserved.trans (zero _))).symm

/-! ### The entry (R159) -/

/-- R160: the notice of the entry, raised once the sessions are closed. -/
def State.entryNotice (s : State) : Notice :=
  .silence true s.zone.line s.zone.flag s.time.clock
    (some ((s.contextsWith fun c => c.presence == .attached).length, s.sess.records.length))

/-- R159: the entry, from the state `u` that the closes leave. -/
theorem enterSilence_eq {s u : State} (hs : Paired s) (silent : s.silent = true)
    (hu : s.attachedHandles.foldl (fun s h => silenceContext h s) (silenceMigration s) = u) (zone : u.zone = s.zone)
    (time : u.time = s.time) : enterSilence s = u.raise s.entryNotice := by
  have still : u.silent = true := (congrArg (fun z : ZoneTracker => z.line || z.flag) zone).trans silent
  unfold enterSilence
  dsimp only
  rw [hu, attachedHandles_length, listedSessions_attached hs]
  simp only [State.silenceNotice, still, zone, State.now, time]
  rfl

/-- R141, R159, R160: what the entry into silence does, once the part has become silent. -/
theorem enterSilence_silences {s : State} (quiet : s.raised = []) (hs : Sound s) (hc : Counts s)
    (silent : s.silent = true) :
    ∃ t ns, enterSilence s = { t with raised := ns } ∧ t.raised = [] ∧ Silences s t ns
      ∧ ∀ n ∈ ns, n.toGateway = false := by
  have migration := silenceMigration_eq hc
  obtain ⟨ctx, identity, link, port, zone, time, cutPos⟩ := silenceMigration_leaves hc
  have calm : Calm (silenceMigration s) :=
    ⟨(steady_silenceMigration s).sound hs, counts_silenceMigration s hc, (silenceMigration_mig s).2⟩
  obtain ⟨hushes, drops⟩ := silenceContexts_calm s.attachedHandles calm
  have entry := enterSilence_eq hs.2 silent rfl (hushes.frame.2.1.trans zone) (hushes.frame.2.2.1.trans time)
  have listed := listed_enterSilence hs.2
  have counts := counts_enterSilence s hc
  generalize s.attachedHandles.foldl (fun s h => silenceContext h s) (silenceMigration s) = u at *
  obtain ⟨port', zone', time', cutPos'⟩ := hushes.frame
  rw [entry] at listed counts ⊢
  have silent' : (u.raise s.entryNotice).silent = true :=
    (congrArg (fun z : ZoneTracker => z.line || z.flag) (zone'.trans zone)).trans silent
  obtain ⟨sess, links⟩ := counts_of_no_session counts (records_of_silent listed silent')
  have deadline : (silenceMigration s).dormancyDeadline = s.dormancyDeadline := by
    simp only [State.dormancyDeadline, State.now, State.settings, time]
  rw [deadline] at drops
  obtain ⟨closes, told, unasked, closed⟩ := hushes.told
  have before : (silenceMigration s).raised = s.migrationNews := by rw [migration, quiet]; rfl
  refine ⟨{ u with raised := [] }, u.raised ++ [_], rfl, rfl, ⟨sess, ?_, fun l => ?_, fun k hk =>
    drops.absent k ((ctx k).trans hk), fun k c hk hd => ?_, fun k c hk ha =>
    drops.dropped k c (mem_attachedHandles hk ha) ((ctx k).trans hk), zone'.trans zone, time'.trans time,
    cutPos'.trans cutPos, port'.trans port, closes, ?_, fun n x hx => ?_⟩, fun n hn => ?_⟩
  · exact hushes.mig.trans (by rw [migration])
  · exact (links l).trans ((hushes.link l).trans (link l))
  · refine (drops.kept k fun hm => ?_).trans ((ctx k).trans hk)
    obtain ⟨d, hd', attached⟩ := (mem_attachedHandles_iff hs.2.1 k).1 hm
    obtain rfl : c = d := Option.some.inj (hk.symm.trans hd')
    cases hd.symm.trans attached
  · rw [told, before]
    rfl
  · obtain ⟨c, hc', attached, -⟩ := owner_attached hs.2 ((owner_eq_some_iff ..).2 ⟨x, hx, rfl⟩)
    exact closed n x.identity ((identity n).trans (identityAt_of_ses hx)) (mem_attachedHandles hc' attached)
  · rw [told, before, List.mem_append, List.mem_append] at hn
    obtain (news | close) | last := hn
    · exact toGateway_migrationNews s n news
    · exact unasked n close
    · obtain rfl := List.mem_singleton.1 last
      rfl

/-! ### The line and the flag (R157, R158) -/

section
variable {line flag : Bool} {s : State}

/-- R157: the state with the line and the flag recorded. -/
def State.standing (s : State) (line flag : Bool) : State :=
  { s with zone := { s.zone with line := line, flag := flag } }

theorem setSilence_enters (before : s.silent = false) (after : (line || flag) = true) :
    setSilence line flag s = enterSilence (s.standing line flag) := by
  have entry : (!s.silent && (s.standing line flag).silent) = true := by rw [before]; exact after
  exact if_pos entry

theorem setSilence_leaves (quiet : s.raised = []) (before : s.silent = true) :
    setSilence false false s =
      { s.standing false false with raised := [.silence false false false s.time.clock none] } := by
  have left : setSilence false false s =
      (s.standing false false).raise (.silence false false false s.time.clock none) :=
    (if_neg (by rw [before]; exact Bool.false_ne_true)).trans (if_pos (by rw [before]; rfl))
  rw [left, State.raise, State.standing, quiet]
  rfl

theorem setSilence_stays (quiet : s.raised = []) (before : s.silent = true) (after : (line || flag) = true) :
    setSilence line flag s = { s.standing line flag with raised := [] } := by
  have still : (s.standing line flag).silent = true := after
  have stays : setSilence line flag s = s.standing line flag := by
    refine (if_neg (by rw [before]; exact Bool.false_ne_true)).trans (if_neg ?_)
    change ¬ (s.silent && !(s.standing line flag).silent) = true
    rw [still, before]
    exact Bool.false_ne_true
  rw [stays, State.standing, quiet]

theorem silenceSetAnswer_already (who : Sender) (s : State) :
    silenceSetAnswer (some s.zone.flag) who s = ⟨.already, fSilence s, s⟩ := if_pos rfl

theorem silenceSetAnswer_changes {v : Bool} (who : Sender) (hv : v ≠ s.zone.flag) :
    silenceSetAnswer (some v) who s = ⟨.ok, fSilence (setSilence s.zone.line v s), setSilence s.zone.line v s⟩ :=
  if_neg hv

theorem lineEffect_changes {level : Bool} (hl : level ≠ s.zone.line) :
    lineEffect level s = setSilence level s.zone.flag s := if_neg hl

theorem exec_silenceLineChange (level : Bool) (s : State) :
    exec (.silenceLineChange level) s = .next (lineEffect level s).flush := rfl

/-- R158: the answer to a SILENCE_SET that changes the flag, from the state after it and the notices it raised. -/
theorem exec_silenceSet {h : Header} {v : Bool} {t : State} {ns : List Notice} (hr : s.ready)
    (hh : s.hears h .silenceSet .radio) (hl : s.zone.line = line) (hf : s.zone.flag = !v)
    (taken : setSilence line v s = { t with raised := ns }) (quiet : t.raised = [])
    (zone : t.zone = (s.standing line v).zone) (time : t.time = s.time) (port : t.port = s.port)
    (hg : ∀ q ∈ ns, q.toGateway = false) :
    exec (.silenceSet h (some v)) s = answered h .silenceSet .ok
      [.u8 (if v then 1 else 0), .u8 (if line then 1 else 0), .u8 (if line || v then 1 else 0)] s t ns := by
  have changes : v ≠ s.zone.flag := by rw [hf]; exact (Bool.not_ne_self v).symm
  subst hl
  refine request_tells hr hh rfl ((silenceSetAnswer_changes _ changes).trans ?_) quiet (port ▸ hr.2)
    (congrArg TimeBase.clock time) hg
  rw [taken]
  simp only [fSilence, State.silent, zone, fFlag_eq]
  rfl

/-- R157, R178: a change of the line, from the state after it and the notices it raised. -/
theorem exec_lineChange {level : Bool} {t : State} {ns : List Notice} (hr : s.ready) (hl : s.zone.line = !level)
    (hf : s.zone.flag = flag) (taken : setSilence level flag s = { t with raised := ns }) (quiet : t.raised = [])
    (port : t.port = s.port) : exec (.silenceLineChange level) s = noticed t ns := by
  have changes : level ≠ s.zone.line := by rw [hl]; exact (Bool.not_ne_self level).symm
  subst hf
  rw [exec_silenceLineChange, lineEffect_changes changes, taken, flush_raised quiet (port ▸ hr.2)]

/-- R158: an event that tells nothing. -/
theorem noticed_nil (t : State) : noticed t [] = .next t := by simp [noticed]

/-- R159: the entry into silence of a part whose line or flag makes it silent. -/
theorem setSilence_silences (hr : s.ready) (hb : Books s) (hl : Listed s) (hc : Counts s) (before : s.silent = false)
    (after : (line || flag) = true) :
    ∃ t ns, setSilence line flag s = { t with raised := ns } ∧ t.raised = [] ∧ Silences (s.standing line flag) t ns
      ∧ ∀ n ∈ ns, n.toGateway = false := by
  have paired : Paired (s.standing line flag) := ((listed_iff s).1 hl).1
  have books : Books (s.standing line flag) := books_congr rfl rfl hb
  have counts : Counts (s.standing line flag) := (Seated.of_same (t := s.standing line flag)).keeps hc
  rw [setSilence_enters before after]
  exact enterSilence_silences hr.1 ⟨books, paired⟩ counts after

end

theorem Silences.frame {s t : State} {ns : List Notice} (h : Silences s t ns) :
    t.zone = s.zone ∧ t.time = s.time ∧ t.port = s.port := by
  obtain ⟨-, -, -, -, -, -, zone, time, -, port, -⟩ := h
  exact ⟨zone, time, port⟩

/-- Settles O54: the flag and the line as they stand, and each change of one of them. -/
theorem silenceEnteredAndLeft : Obligations.SilenceEnteredAndLeft := by
  intro h s hr hh flag stands left
  have quiet := hr.1
  have silent : (s.zone.line || s.zone.flag) = true → s.silent = true := id
  refine ⟨request_refuses hr hh rfl rfl, ?_, ?_, fun hf hl => ?_, fun hf hl => ?_, fun hf hl => ?_,
    fun hf hl books listed counts => ?_⟩
  · refine request_answers hr hh rfl ((silenceSetAnswer_already _ s).trans ?_) quiet hr.2 rfl
    simp only [fSilence, fFlag_eq]
    rfl
  · rw [exec_silenceLineChange, lineEffect, if_pos rfl, flush_quiet quiet]
  all_goals rw [hf, hl] at silent
  · exact ⟨exec_silenceSet hr hh hl hf (setSilence_stays quiet (silent rfl) rfl) quiet rfl rfl rfl
      (List.forall_mem_nil _),
      exec_lineChange hr hl hf (setSilence_leaves quiet (silent rfl)) quiet rfl⟩
  · exact ⟨exec_silenceSet hr hh hl hf (setSilence_stays quiet (silent rfl) rfl) quiet rfl rfl rfl
      (List.forall_mem_nil _),
      (exec_lineChange (level := false) hr hl hf (setSilence_stays quiet (silent rfl) rfl) quiet rfl).trans
        (noticed_nil _)⟩
  · refine ⟨exec_silenceSet hr hh hl hf (setSilence_leaves quiet (silent rfl)) quiet rfl rfl rfl ?_,
      (exec_lineChange (level := true) hr hl hf (setSilence_stays quiet (silent rfl) rfl) quiet rfl).trans
        (noticed_nil _)⟩
    rw [List.forall_mem_singleton]
    rfl
  · have awake : s.silent = false := by rw [State.silent, hl, hf]; rfl
    constructor
    · obtain ⟨t, ns, taken, untold, silences, unasked⟩ :=
        setSilence_silences (line := false) (flag := true) hr books listed counts awake rfl
      obtain ⟨zone, time, port⟩ := silences.frame
      exact ⟨t, ns, silences, exec_silenceSet hr hh hl hf taken untold zone time port unasked⟩
    · obtain ⟨t, ns, taken, untold, silences, -⟩ :=
        setSilence_silences (line := true) (flag := false) hr books listed counts awake rfl
      obtain ⟨-, -, port⟩ := silences.frame
      exact ⟨t, ns, silences, exec_lineChange hr hl hf taken untold port⟩

end Sys2Proof.Machine
end

section
/-! Chapter 9, first part: the millisecond that passes when nothing is due, the instants of the subscriber pass, and
GENERAL_SET (R164, R166, R170, R171). -/

namespace Sys2Proof.Machine

/-! ### An idle millisecond (R164) -/

/-- R152: nothing turns stale that is not PLACED. -/
theorem staleDue_eq_false {s : State} (h : s.zone.tracking ≠ .placed) : s.staleDue = false :=
  Bool.eq_false_iff.2 fun due => h ((staleDue_iff s).1 due).1

/-- R164: the clock advances by one millisecond and holds at its largest count. -/
theorem tick_eq (t : TimeBase) : t.tick = { t with
    clock := if t.clock < 1099511627775 then t.clock + 1 else 1099511627775, passElapsed := t.passElapsed + 1 } := by
  have held : min (t.clock + 1) clockMax = if t.clock < 1099511627775 then t.clock + 1 else 1099511627775 := by
    unfold clockMax
    split <;> omega
  rw [TimeBase.tick, held]

/-! ### The instants of the pass (R166) -/

theorem visitDue_iff (t : TimeBase) :
    t.visitDue = true ↔ t.passPos ≤ 4071 ∧ t.passPos * (t.passPeriod * 1000) / 4072 ≤ t.passElapsed := by
  rw [TimeBase.visitDue, Bool.and_eq_true, decide_eq_true_eq, decide_eq_true_eq]
  exact and_congr_left' Nat.lt_succ_iff

theorem startDue_iff (t : TimeBase) :
    t.startDue = true ↔ t.passPos = 4072 ∧ t.passPeriod * 1000 ≤ t.passElapsed := by
  rw [TimeBase.startDue, Bool.and_eq_true, decide_eq_true_eq, beq_iff_eq]
  rfl

/-- R164: nothing is due while no frame waits, no event of a zone or an order is to be taken, no cut pass runs, and the
next instant of the subscriber pass lies ahead. -/
theorem ownEvent_eq_none {s : State} (sent : s.port.transmit = []) (taken : s.port.inputQueue = [])
    (release : s.zone.releaseDue = false) (stale : s.staleDue = false) (queue : s.mig.queue = [])
    (batch : s.mig.batch = none) (cut : s.cutPos = none) (visit : s.time.visitDue = false)
    (start : s.time.startDue = false) : s.ownEvent = none := by
  simp [State.ownEvent, State.batchDue, State.stepDue, State.cutRunning, sent, taken, release, stale, queue, batch, cut,
    visit, start]

/-- Settles O3: no event of the part's own is due, so the clock ticks. -/
theorem idleMillisecond : Obligations.IdleMillisecond := by
  intro s hp hr sent taken release tracking queue batch cut visit start
  have noVisit : s.time.visitDue = false := Bool.eq_false_iff.2 fun due => by
    obtain ⟨pos, instant⟩ := (visitDue_iff _).1 due
    exact absurd instant (Nat.not_le.2 (visit (Nat.lt_succ_of_le pos)))
  have noStart : s.time.startDue = false := Bool.eq_false_iff.2 fun due => by
    obtain ⟨pos, instant⟩ := (startDue_iff _).1 due
    exact absurd instant (Nat.not_le.2 (start pos))
  have nothing := ownEvent_eq_none sent taken release (staleDue_eq_false tracking) queue batch cut noVisit noStart
  simp only [step, hp, nothing, State.idle, hr, State.modTime, tick_eq]
  rfl

theorem exec_passStart (s : State) : exec .passStart s = .next (passStartEffect s).flush := rfl

theorem exec_passVisit (s : State) : exec .passVisit s = .next (passVisitEffect s).flush := rfl

/-- R166: before its instant a visit has no effect. -/
theorem exec_passVisit_early {s : State} (quiet : s.raised = []) (early : s.time.visitDue = false) :
    exec .passVisit s = .next s := by
  have waits : passVisitEffect s = s := by rw [passVisitEffect, early]; rfl
  rw [exec_passVisit, waits, flush_quiet quiet]

/-- R166, R167, R178: a visit at its instant advances the position and tells what the visit to the handle raised. -/
theorem exec_passVisit_due {s t : State} {ns : List Notice} (hr : s.ready) (due : s.time.visitDue = true)
    (visits : visit s.time.passPos s = { t with raised := ns }) (quiet : t.raised = []) (port : t.port = s.port)
    (time : t.time = s.time) :
    exec .passVisit s = noticed { t with time := { s.time with passPos := s.time.passPos + 1 } } ns := by
  have effect : passVisitEffect s =
      { t with time := { s.time with passPos := s.time.passPos + 1 }, raised := ns } := by
    rw [passVisitEffect, due, if_pos rfl, visits, ← time]
    rfl
  rw [exec_passVisit, effect]
  exact flush_raised (t := { t with time := { s.time with passPos := s.time.passPos + 1 } }) quiet
    ((congrArg Port.inReset port).trans hr.2)

/-- R167: there is nothing to visit in an absent slot. -/
theorem visit_absent {s : State} {k : Nat} (hk : s.ctx k = none) : visit k s = s := by
  simp only [visit, lapseAsk, judgeAsk, visitSessions, visitRetire, hk]

/-- Settles O55: each event takes effect exactly when it is due. -/
theorem passInstants : Obligations.PassInstants := by
  intro s hr t
  refine ⟨fun pos elapsed => ?_, fun early => ?_, fun early => ?_, fun pos instant absent => ?_⟩
  · have effect : passStartEffect s = s.modTime TimeBase.start := if_pos ((startDue_iff s.time).2 ⟨pos, elapsed⟩)
    rw [exec_passStart, effect, flush_quiet (t := s.modTime TimeBase.start) hr.1]
    rfl
  · have waits : passStartEffect s = s := if_neg fun due => by
      obtain ⟨pos, elapsed⟩ := (startDue_iff s.time).1 due
      exact early.elim (· pos) fun before => Nat.not_le.2 before elapsed
    rw [exec_passStart, waits, flush_quiet hr.1]
  · refine exec_passVisit_early hr.1 (Bool.eq_false_iff.2 fun due => ?_)
    obtain ⟨pos, elapsed⟩ := (visitDue_iff s.time).1 due
    exact early.elim (Nat.not_lt.2 pos) fun before => Nat.not_le.2 before elapsed
  · have visits : visit s.time.passPos s = { s with raised := [] } := by rw [visit_absent absent, ← hr.1]
    exact (exec_passVisit_due hr ((visitDue_iff s.time).2 ⟨pos, instant⟩) visits hr.1 rfl rfl).trans (noticed_nil _)

/-! ### GENERAL_SET (R170, R171) -/

/-- R170: a setting without a lower bound. -/
theorem clampTo_zero (high v : Nat) : clampTo 0 high v = min v high := Nat.zero_max _

/-- R170: a batch timeout is brought into 100 to 25500 ms and down to a multiple of 100 ms. -/
theorem batchTimeoutOf_spec (v : Nat) :
    100 ≤ batchTimeoutOf v ∧ batchTimeoutOf v ≤ 25500 ∧ batchTimeoutOf v % 100 = 0
      ∧ (100 ≤ v → v ≤ 25500 → batchTimeoutOf v ≤ v ∧ v < batchTimeoutOf v + 100)
      ∧ (v < 100 → batchTimeoutOf v = 100) ∧ (25500 < v → batchTimeoutOf v = 25500) := by
  unfold batchTimeoutOf clampTo
  omega

/-- R170: a value is altered when it is selected and the setting written differs from it. -/
theorem altered_iff (flags : BitVec 16) (i brought old carried : Nat) :
    altered flags i brought carried = true ↔ flags.getLsbD i = true ∧ choose flags i brought old ≠ carried := by
  rw [altered, Bool.and_eq_true, bne_iff_ne]
  exact and_congr_right fun selected => by rw [choose, if_pos selected]

theorem zoneOf_isNone_iff (n : Nat) : (zoneOf n).isNone = true ↔ 32 ≤ n := by
  unfold zoneOf
  split <;> simp <;> omega

/-- R170: some selected value was clamped, by the settings written. -/
theorem anyClamped_iff (g : Settings) (flags : BitVec 16) (v : GeneralValues) :
    anyClamped flags v = true ↔
      (flags.getLsbD 0 = true ∧ (g.update flags v).passPeriod ≠ v.passPeriod)
        ∨ (flags.getLsbD 1 = true ∧ (g.update flags v).askTimeout ≠ v.askTimeout)
        ∨ (flags.getLsbD 2 = true ∧ (g.update flags v).dormancy ≠ v.dormancy)
        ∨ (flags.getLsbD 3 = true ∧ (g.update flags v).idle ≠ v.idle)
        ∨ (flags.getLsbD 4 = true ∧ (g.update flags v).staleExponent ≠ v.staleExponent)
        ∨ (flags.getLsbD 5 = true ∧ (g.update flags v).confirmCount ≠ v.confirmCount)
        ∨ (flags.getLsbD 6 = true ∧ (g.update flags v).confirmHold ≠ v.confirmHold)
        ∨ (flags.getLsbD 7 = true ∧ 32 ≤ v.fallback ∧ v.fallback ≠ 255)
        ∨ (flags.getLsbD 8 = true ∧ (g.update flags v).batchTimeout ≠ v.batchTimeout)
        ∨ (flags.getLsbD 9 = true ∧ (g.update flags v).reconcileFloor ≠ v.reconcileFloor)
        ∨ (flags.getLsbD 10 = true ∧ (g.update flags v).reconcileTolerance ≠ v.reconcileTolerance) := by
  simp only [anyClamped, Bool.or_eq_true, Bool.and_eq_true, bne_iff_ne, zoneOf_isNone_iff, or_assoc, and_assoc]
  rw [altered_iff flags 0 _ g.passPeriod, altered_iff flags 1 _ g.askTimeout, altered_iff flags 2 _ g.dormancy,
    altered_iff flags 3 _ g.idle, altered_iff flags 4 _ g.staleExponent, altered_iff flags 5 _ g.confirmCount,
    altered_iff flags 6 _ g.confirmHold, altered_iff flags 8 _ g.batchTimeout, altered_iff flags 9 _ g.reconcileFloor,
    altered_iff flags 10 _ g.reconcileTolerance]
  rfl

/-- R170: bits 0 to 11 select a setting. -/
theorem anySelected_of_lt {flags : BitVec 16} (some_set : flags ≠ 0) (listed : flags.toNat < 4096) :
    anySelected flags = true := by
  have low : flags &&& 0x0FFF = flags := by
    refine BitVec.eq_of_toNat_eq ?_
    rw [BitVec.toNat_and]
    exact (Nat.and_two_pow_sub_one_eq_mod flags.toNat 12).trans (Nat.mod_eq_of_lt listed)
  rw [anySelected, low, bne_iff_ne]
  exact some_set

/-- R170: with no flag set every setting is kept. -/
theorem update_zero (g : Settings) (v : GeneralValues) : g.update 0 v = g := rfl

/-- R170: the result tells whether a value was clamped, a setting changed, or nothing changed. -/
theorem generalResult_spec {flags : BitVec 16} {v : GeneralValues} {before after : Settings} {clamped : Prop}
    (hc : clamped ↔ anyClamped flags v = true) :
    (clamped → generalResult flags v before after = .okClamped)
      ∧ (¬ clamped → after ≠ before → generalResult flags v before after = .ok)
      ∧ (¬ clamped → after = before → flags ≠ 0 → flags.toNat < 4096 →
        generalResult flags v before after = .already) := by
  refine ⟨fun h => if_pos (hc.1 h), fun h changed => ?_, fun h same some_set listed => ?_⟩
  · rw [generalResult, if_neg (mt hc.2 h), if_pos changed.symm]
  · rw [generalResult, if_neg (mt hc.2 h), if_neg (not_not.2 same.symm), anySelected_of_lt some_set listed]
    rfl

theorem generalResult_none (v : GeneralValues) (g : Settings) : generalResult 0 v g g = .ok := by
  simp [generalResult, anyClamped, altered, anySelected]

/-- Settles O12: the settings written are those of the update, and the result is that of R170. -/
theorem generalSetWritesSettings : Obligations.GeneralSetWritesSettings := by
  intro h flags v s hr hh
  refine ⟨s.settings.update flags v, generalResult flags v s.settings (s.settings.update flags v), ?_, rfl, rfl, rfl,
    ?_, rfl, rfl, ?_, rfl, fun kept => if_neg (Bool.eq_false_iff.1 kept), fun selected => ?_, ?_, ?_, rfl,
    fun clamped hc => ?_⟩
  · exact request_answers hr hh rfl rfl hr.1 hr.2 rfl
  · rw [← clampTo_zero]; rfl
  · rw [← clampTo_zero]; rfl
  · have written : (s.settings.update flags v).batchTimeout = batchTimeoutOf v.batchTimeout := if_pos selected
    rw [written]
    exact batchTimeoutOf_spec v.batchTimeout
  · rw [← clampTo_zero]; rfl
  · rw [← clampTo_zero]; rfl
  · obtain ⟨some_clamped, changed, same⟩ := generalResult_spec (before := s.settings)
      (after := s.settings.update flags v) (hc.trans (anyClamped_iff s.settings flags v).symm)
    refine ⟨some_clamped, changed, same, fun none_set => ?_⟩
    subst none_set
    rw [update_zero]
    exact generalResult_none v s.settings

end Sys2Proof.Machine
end

section
/-! Chapter 9, second part: what the checks of a pass visit read, and what a session that they close leaves (R50, R52 to
R54, R57). -/

namespace Sys2Proof.Machine

/-! ### What the release check reads of a partner (R53, R54) -/

/-- R53, R54: a partner's status and condition deadline. -/
def Partner.barring (p : Partner) : PartnerStatus × Option Nat := (p.status, p.barDeadline)

/-- The same of the partner of the subscriber at a handle. -/
def State.barring (s : State) (k : Nat) : Option (PartnerStatus × Option Nat) :=
  (s.ctx k).bind fun c => (s.par c.partner).map Partner.barring

theorem barring_of_ctx {s : State} {k : Nat} {c : Context} {p : Partner} (hc : s.ctx k = some c)
    (hp : s.par c.partner = some p) : s.barring k = some p.barring := by
  simp [State.barring, hc, hp]

theorem barring_eq_some {s : State} {k : Nat} {b : PartnerStatus × Option Nat} (h : s.barring k = some b) :
    ∃ c p, s.ctx k = some c ∧ s.par c.partner = some p := by
  obtain ⟨c, hc, h⟩ := Option.bind_eq_some_iff.1 h
  obtain ⟨p, hp, -⟩ := Option.map_eq_some_iff.1 h
  exact ⟨c, p, hc, hp⟩

theorem barring_partnerOf (s : State) (x : Session) : s.barring x.subscriber = (s.partnerOf x).map Partner.barring :=
  (Option.map_bind ..).symm

theorem partnerCondition_barring (s : State) (x : Session) :
    s.partnerCondition x = (s.barring x.subscriber).any fun b => b.1 == .barred := by
  rw [barring_partnerOf, Option.any_map]
  rfl

/-- R53, R54: the release deadline, by the zone tracker and the partner's barring. -/
theorem releaseDeadline_barring (s : State) (x : Session) : s.releaseDeadline x =
    if x.cls != .emergency && (s.zoneCondition x || (s.barring x.subscriber).any fun b => b.1 == .barred) then
      earlier (if s.zoneCondition x then some s.windDown else none) ((s.barring x.subscriber).bind Prod.snd)
    else none := by
  have deadline : (s.barring x.subscriber).bind Prod.snd = (s.partnerOf x).bind Partner.barDeadline := by
    rw [barring_partnerOf, Option.bind_map]
    rfl
  rw [← partnerCondition_barring, deadline]
  rfl

/-! ### The two checks (R52, R54) -/

/-- R52, R54: whether a visit closes a session: it is idle, or its release deadline has passed. -/
def State.closeDue (s : State) (x : Session) : Bool := s.idleDue x || s.releaseCloseDue x

/-- R52, R54: the idle check comes first. -/
def State.closeReason (s : State) (x : Session) : CloseReason := if s.idleDue x then .idle else .released

/-- R52, R54: whether a visit closes the session open at a handle. -/
def State.endsAt (s : State) (n : Nat) : Bool := (s.ses n).any s.closeDue

theorem visitSession_eq {s : State} {n : Nat} {x : Session} (hx : s.ses n = some x) :
    visitSession n s = if s.closeDue x then closeSession n (s.closeReason x) s else s := by
  simp only [visitSession, hx, State.closeDue, State.closeReason]
  by_cases idle : s.idleDue x = true
  · simp [idle]
  · simp [idle]

theorem visitSession_stays {s : State} {n : Nat} (h : s.endsAt n = false) : visitSession n s = s := by
  cases hx : s.ses n with
  | none => simp only [visitSession, hx]
  | some x =>
    have stays : s.closeDue x = false := by simpa [State.endsAt, hx] using h
    rw [visitSession_eq hx, stays]
    rfl

theorem closeReason_notifies (s : State) (x : Session) : (s.closeReason x).notifies = true := by
  unfold State.closeReason
  split <;> rfl

theorem idleDue_congr {s t : State} (x : Session) (v : Service) (time : t.time = s.time) :
    t.idleDue { x with service := v } = s.idleDue x := by
  unfold State.idleDue State.settings State.now
  rw [time]

theorem closeReason_congr {s t : State} (x : Session) (v : Service) (time : t.time = s.time) :
    t.closeReason { x with service := v } = s.closeReason x := by
  rw [State.closeReason, idleDue_congr x v time, State.closeReason]

/-- R52, R54: the checks read the clock, the zone tracker and the partner's barring. -/
theorem closeDue_congr {s t : State} (x : Session) (v : Service) (time : t.time = s.time) (zone : t.zone = s.zone)
    (barring : t.barring x.subscriber = s.barring x.subscriber) :
    t.closeDue { x with service := v } = s.closeDue x := by
  have condition : t.zoneCondition { x with service := v } = s.zoneCondition x := by
    simp only [State.zoneCondition, State.effectiveLevel, State.zoneAt, zone]
  have windDown : t.windDown = s.windDown := by simp only [State.windDown, State.zoneAt, zone]
  have deadline : t.releaseDeadline { x with service := v } = s.releaseDeadline x := by
    rw [releaseDeadline_barring, releaseDeadline_barring, condition, windDown, barring]
  have passed : t.passed = s.passed := by funext d; simp only [State.passed, time]
  simp only [State.closeDue, State.releaseCloseDue, idleDue_congr x v time, deadline, passed]

/-! ### Charges to one session -/

/-- `t` is `s` after charges to the session `x` open at `n`, of the context `c` under partner `p`: it is the same session
under the same partner, and of the others at most the service state differs. -/
structure Leaves (n : Nat) (x : Session) (c : Context) (p : Partner) (s t : State) : Prop where
  own : ∃ y d q, Owned t n y d q ∧ y.identity = x.identity ∧ d.partner = c.partner ∧ q.barring = p.barring
  other : ∀ m w, m ≠ n → s.ses m = some w → ∃ v, t.ses m = some { w with service := v }

section
variable {n : Nat} {x : Session} {c : Context} {p : Partner} {s t u : State}

theorem Leaves.refl (ho : Owned s n x c p) : Leaves n x c p s s where
  own := ⟨x, c, p, ho, rfl, rfl, rfl⟩
  other _ w _ hw := ⟨w.service, hw⟩

theorem Leaves.trans (h₁ : Leaves n x c p s t) (h₂ : ∀ y d q, Owned t n y d q → Leaves n y d q t u) :
    Leaves n x c p s u := by
  obtain ⟨y, d, q, ho, identity, partner, barring⟩ := h₁.own
  have h₂ := h₂ y d q ho
  obtain ⟨z, e, r, ho', identity', partner', barring'⟩ := h₂.own
  refine ⟨⟨z, e, r, ho', identity'.trans identity, partner'.trans partner, barring'.trans barring⟩,
    fun m w hm hw => ?_⟩
  obtain ⟨v, hv⟩ := h₁.other m w hm hw
  obtain ⟨v', hv'⟩ := h₂.other m _ hm hv
  exact ⟨v', hv'⟩

/-- R70: a cut charges the partner's open total at most. -/
theorem cutAt_barring (q : Price) (ho : Owned s n x c p) :
    ∃ r, (cutAt n q s).par c.partner = some r ∧ r.barring = p.barring := by
  cases hr : x.hasResidue with
  | false =>
    rw [cutAt_no_residue q ho.session hr]
    exact ⟨p, ho.partner, rfl⟩
  | true =>
    obtain ⟨t, blocked, asked, charges, eq⟩ := cutAt_charges q ho.session hr ho.context ho.partner
    obtain ⟨-, -, -, par, -⟩ := charges c p ho.context ho.partner
    rw [eq]
    exact ⟨_, (par c.partner).trans (if_pos rfl), rfl⟩

theorem cutAt_leaves (q : Price) (ho : Owned s n x c p) : Leaves n x c p s (cutAt n q s) := by
  obtain ⟨cuts, -⟩ := cutAt_cuts q ho
  obtain ⟨y, hy, cut⟩ := cuts.own
  obtain ⟨d, hd, settled, -⟩ := (settles_cutAt q (within_self ho.session)).present c ho.context
  obtain ⟨r, hr, barring⟩ := cutAt_barring q ho
  have subscriber : y.subscriber = x.subscriber := by rw [cut]
  have partner : d.partner = c.partner := by rw [settled]
  exact ⟨⟨y, d, r, ⟨hy, subscriber ▸ hd, partner ▸ hr⟩, by rw [cut]; rfl, partner, barring⟩, cuts.other⟩

theorem epochCutOf_leaves (ho : Owned s n x c p) : Leaves n x c p s (epochCutOf n s) := by
  unfold epochCutOf
  split
  · next y prev hy _ =>
    obtain rfl : y = x := Option.some.inj (hy.symm.trans ho.session)
    split
    · rw [partnerEntry_eq ho.context ho.partner]
      exact cutAt_leaves _ ho
    · exact .refl ho
  · exact .refl ho

theorem Billed.leaves {z : ZoneClass} {a b r : Nat} (bill : Billed n x c p z a b r s t) : Leaves n x c p s t := by
  obtain ⟨y, hy, same⟩ := bill.own
  obtain ⟨d, hd, applied⟩ := bill.context
  have subscriber : y.subscriber = x.subscriber := by rw [same]
  have partner : d.partner = c.partner := by rw [applied]; rfl
  have charged := bill.partner
  rw [← partner] at charged
  refine ⟨⟨y, d, _, ⟨hy, subscriber ▸ hd, charged⟩, by rw [same]; rfl, partner, rfl⟩,
    fun m w hm hw => ?_⟩
  obtain ⟨v, hv, -⟩ := bill.other m w hm hw
  exact ⟨v, hv⟩

theorem finalRating_leaves (ho : Owned s n x c p) : Leaves n x c p s (finalRating n s) :=
  (epochCutOf_leaves ho).trans fun _ _ _ ho' => by
    obtain ⟨_, _, _, _, bill⟩ := finalRating_after_cut rfl ho'
    exact bill.leaves

/-! ### The close (R50, R57) -/

/-- R50 steps 1 and 2: the session withdrawn and unlisted is as it was but for its binding. -/
theorem unlist_withdraw_leaves (ho : Owned s n x c p) : Leaves n x c p s (unlist n (withdraw n s)) := by
  have withdrawn := withdraw_withdrawn ho.session
  obtain ⟨b, own, -, -⟩ := withdrawn.own
  rw [unlist_withdraw_eq ho.session ho.context]
  refine ⟨⟨{ x with binding := b }, _, p, ⟨own, State.ctx_setCtx .., ?_⟩, rfl, rfl, rfl⟩, fun m w hm hw =>
    ⟨w.service, (withdrawn.other m hm).trans hw⟩⟩
  rw [withdrawn.frame]
  exact ho.partner

/-- R50 steps 1 to 3. -/
theorem closeRated_leaves (ho : Owned s n x c p) : Leaves n x c p s (closeRated n s) :=
  (unlist_withdraw_leaves ho).trans fun _ _ _ ho' => finalRating_leaves ho'

/-- R50 steps 1 to 3: only the session's own subscriber is touched. -/
theorem settles_closeRated {k : Nat} {own : List Nat} (hw : Within k own n s) (hx : s.ses n = some x) :
    Settles k [n] [] own s (closeRated n s) := by
  have withdrawn : Settles k [] [] own s (withdraw n s) := settles_withdraw hw.1
  have here : (withdraw n s).owner n = some k := by
    rw [withdrawn.owner_eq, if_neg List.not_mem_nil, owner_eq_some_iff]
    exact ⟨x, hx, hw.2.1 x hx⟩
  obtain ⟨y, hy, hyk⟩ := (owner_eq_some_iff ..).1 here
  have unlisted := withdrawn.trans (settles_unlist (own := own) hy hyk)
  exact unlisted.trans (settles_finalRating (hw.after unlisted))

/-- R50 step 5, R57: a close for a reason that notifies tells of the session it frees. -/
theorem closing_tells {reason : CloseReason} (hn : reason.notifies = true) (hx : s.ses n = some x) :
    ((notifyClose n reason (uncount n s)).freeSession n).raised =
      s.raised ++ [.sessionClosed n x.subscriber x.cls reason x.charge x.blocks x.ref] := by
  have counted : uncount n s = { loseCount x s with tariff := (uncount n s).tariff } := uncount_eq hx
  have raised : (uncount n s).raised = s.raised := by rw [counted, loseCount_frame]
  have here : (uncount n s).ses n = some x := by rw [counted, loseCount_frame]; exact hx
  simp only [notifyClose, here, hn, ← raised]
  rfl

theorem closeWrites_notifyClose (n : Nat) (reason : CloseReason) (s : State) :
    CloseWrites s (notifyClose n reason s) := closeWrites_of_eq (notifyClose_frame n reason s)

theorem closeWrites_freeSession (n : Nat) (s : State) : CloseWrites s (s.freeSession n) := rfl

theorem closeSession_writes (reason : CloseReason) (hx : s.ses n = some x) :
    CloseWrites s (closeSession n reason s) :=
  (closeRated_writes hx).trans ((closeWrites_uncount ..).trans
    ((closeWrites_notifyClose n reason _).trans (closeWrites_freeSession n _)))

theorem CloseWrites.cutPos (h : CloseWrites s t) : t.cutPos = s.cutPos := by rw [show t = _ from h]

/-- R50: what a close leaves of the partner that the subscriber at the handle has. -/
theorem closeSession_barring (reason : CloseReason) (ho : Owned s n x c p) :
    (closeSession n reason s).barring x.subscriber = s.barring x.subscriber := by
  obtain ⟨y, d, q, ho', identity, -, barring⟩ := (closeRated_leaves ho).own
  have subscriber : y.subscriber = x.subscriber := congrArg Prod.fst identity
  have context : (closeSession n reason s).ctx x.subscriber = some d := by
    rw [State.ctx, closeSession, closing_frame reason ho'.session, ← subscriber]
    exact ho'.context
  have partner : (closeSession n reason s).par d.partner =
      some { q with sessions := q.sessions - if y.cls ≠ .emergency then 1 else 0 } := by
    rw [closeSession, notifyClose_frame]
    exact (uncount_use ho').1
  rw [barring_of_ctx context partner, barring_of_ctx ho.context ho.partner, ← barring]
  rfl

end

/-! ### The checks of listed sessions (R167 step 3) -/

/-- `t` is `s` after the checks of sessions of the subscriber at `k` have closed the sessions `gone`: each is told of with
its reason, and of the others at most the service state differs. -/
structure Checked (k : Nat) (gone own : List Nat) (s t : State) : Prop extends Settles k gone gone own s t where
  writes : CloseWrites s t
  barring : t.barring k = s.barring k
  kept : ∀ m x, m ∉ gone → s.ses m = some x → ∃ v, t.ses m = some { x with service := v }
  news : ∃ qs, t.raised = s.raised ++ qs ∧ ∀ m x, m ∈ gone → s.ses m = some x →
    ∃ a b, .sessionClosed m x.subscriber x.cls (s.closeReason x) a b x.ref ∈ qs

section
variable {k : Nat} {own gone : List Nat} {s t : State}

theorem Checked.refl (k : Nat) (own : List Nat) (s : State) : Checked k [] own s s where
  toSettles := .refl k own s
  writes := rfl
  barring := rfl
  kept _ x _ hx := ⟨x.service, hx⟩
  news := ⟨[], (List.append_nil _).symm, nofun⟩

theorem Checked.trans {gone' : List Nat} {u : State} (h₁ : Checked k gone own s t) (h₂ : Checked k gone' own t u) :
    Checked k (gone ++ gone') own s u where
  toSettles := h₁.toSettles.trans h₂.toSettles
  writes := h₁.writes.trans h₂.writes
  barring := h₂.barring.trans h₁.barring
  kept m x hm hx := by
    rw [List.mem_append, not_or] at hm
    obtain ⟨v, hv⟩ := h₁.kept m x hm.1 hx
    obtain ⟨v', hv'⟩ := h₂.kept m _ hm.2 hv
    exact ⟨v', hv'⟩
  news := by
    obtain ⟨ps, raised, first⟩ := h₁.news
    obtain ⟨qs, raised', second⟩ := h₂.news
    refine ⟨ps ++ qs, by rw [raised', raised, List.append_assoc], fun m x hm hx => ?_⟩
    by_cases earlier : m ∈ gone
    · obtain ⟨a, b, hq⟩ := first m x earlier hx
      exact ⟨a, b, List.mem_append_left _ hq⟩
    · obtain ⟨v, hv⟩ := h₁.kept m x earlier hx
      obtain ⟨a, b, hq⟩ := second m _ ((List.mem_append.1 hm).resolve_left earlier) hv
      rw [closeReason_congr x v h₁.time] at hq
      exact ⟨a, b, List.mem_append_right _ hq⟩

/-- The checks of the sessions that are left come out as before. -/
theorem Checked.endsAt_eq (h : Checked k gone own s t) {m : Nat} (hm : m ∉ gone) (ho : s.owner m = some k) :
    t.endsAt m = s.endsAt m := by
  obtain ⟨x, hx, rfl⟩ := (owner_eq_some_iff ..).1 ho
  obtain ⟨v, hv⟩ := h.kept m x hm hx
  rw [State.endsAt, State.endsAt, hv, hx]
  exact closeDue_congr x v h.time h.zone h.barring

theorem closeSession_checked {n : Nat} {x : Session} {c : Context} {p : Partner} (hw : Within k own n s)
    (ho : Owned s n x c p) : Checked k [n] own s (closeSession n (s.closeReason x) s) where
  toSettles := settles_closeSession _ hw ho.session
  writes := closeSession_writes _ ho.session
  barring := by
    rw [← hw.2.1 x ho.session]
    exact closeSession_barring _ ho
  kept m w hm hx := by
    have hm : m ≠ n := by simpa using hm
    obtain ⟨y, d, q, ho', -⟩ := (closeRated_leaves ho).own
    obtain ⟨v, hv⟩ := (closeRated_leaves ho).other m w hm hx
    refine ⟨v, ?_⟩
    rw [State.ses, closeSession, closing_frame _ ho'.session]
    exact (Table.get_erase_other _ hm).trans hv
  news := by
    obtain ⟨y, d, q, ho', identity, -, -⟩ := (closeRated_leaves ho).own
    obtain ⟨ps, raised, -⟩ := (settles_closeRated hw ho.session).told
    refine ⟨ps ++ [.sessionClosed n y.subscriber y.cls (s.closeReason x) y.charge y.blocks y.ref], ?_,
      fun m w hm hx => ⟨y.charge, y.blocks, List.mem_append_right _ ?_⟩⟩
    · rw [← List.append_assoc, ← raised]
      exact closing_tells (closeReason_notifies s x) ho'.session
    · obtain rfl := List.mem_singleton.1 hm
      obtain rfl : x = w := Option.some.inj (ho.session.symm.trans hx)
      obtain ⟨subscriber, cls, ref⟩ : y.subscriber = x.subscriber ∧ y.cls = x.cls ∧ y.ref = x.ref := by
        simpa [Session.identity] using identity
      rw [subscriber, cls, ref]
      exact List.mem_singleton_self _

theorem visitSession_checked {n : Nat} {x : Session} {c : Context} {p : Partner} (hw : Within k own n s)
    (ho : Owned s n x c p) : Checked k ([n].filter s.endsAt) own s (visitSession n s) := by
  have ends : s.endsAt n = s.closeDue x := by rw [State.endsAt, ho.session]; rfl
  rw [visitSession_eq ho.session, List.filter_singleton, ends]
  cases s.closeDue x with
  | false => exact .refl k own s
  | true => exact closeSession_checked hw ho

/-- R167 step 3: the listed sessions are checked one after another, each as it would be on its own. -/
theorem visitList_checked {ns : List Nat} (hd : ns.Nodup) (ho : ∀ n ∈ ns, s.owner n = some k)
    (hns : ∀ n ∈ ns, n ∈ own) (hl : ∀ c, s.ctx k = some c → ∀ m ∈ c.sessions, m ∈ own)
    (partner : (s.barring k).isSome = true) :
    Checked k (ns.filter s.endsAt) own s (ns.foldl (fun s n => visitSession n s) s) := by
  induction ns generalizing s with
  | nil => exact .refl k own s
  | cons n ns ih =>
    rw [List.nodup_cons] at hd
    rw [List.forall_mem_cons] at ho hns
    obtain ⟨x, hx, hxk⟩ := (owner_eq_some_iff ..).1 ho.1
    obtain ⟨b, hb⟩ := Option.isSome_iff_exists.1 partner
    obtain ⟨c, p, hc, hp⟩ := barring_eq_some hb
    have within : Within k own n s :=
      ⟨hns.1, fun y hy => Option.some.inj (hy.symm.trans hx) ▸ hxk, hl⟩
    have head := visitSession_checked within ⟨hx, hxk ▸ hc, hp⟩
    have left {m : Nat} (hm : m ∈ ns) : m ∉ [n].filter s.endsAt := fun e =>
      hd.1 (List.mem_singleton.1 (List.mem_of_mem_filter e) ▸ hm)
    have rest := ih (s := visitSession n s) hd.2
      (fun m hm => (head.opened m (left hm)).trans (ho.2 m hm)) hns.2 (within.after head.toSettles).2.2
      (head.barring ▸ partner)
    have same : ns.filter (visitSession n s).endsAt = ns.filter s.endsAt :=
      List.filter_congr fun m hm => head.endsAt_eq (left hm) (ho.2 m hm)
    rw [same] at rest
    rw [← List.singleton_append, List.filter_append]
    exact head.trans rest

/-- R167 step 3: where no check is due, nothing is closed. -/
theorem visitList_stays {ns : List Nat} (h : ∀ n ∈ ns, s.endsAt n = false) :
    ns.foldl (fun s n => visitSession n s) s = s := by
  induction ns with
  | nil => rfl
  | cons n ns ih =>
    rw [List.forall_mem_cons] at h
    rw [List.foldl_cons, visitSession_stays h.1]
    exact ih h.2

end

end Sys2Proof.Machine
end

section
/-! Chapter 9, third part: the visit to a handle, step by step (R34, R36, R86, R87, R167). -/

namespace Sys2Proof.Machine

/-! ### Records written as they are, and written before they are erased -/

theorem Table.set_self {α : Type} {t : Table α} {k : Nat} {a : α} (ht : t.wf = true) (ha : Table.get t k = some a) :
    Table.set t k a = t := by
  have same : Table.mapAt t k (fun _ => a) = Table.mapAt t k id := Table.mapAt_congr ht ha rfl
  rw [Table.set_eq_mapAt a ht ha, same, Table.mapAt_id]

theorem State.setCtx_self {s : State} {k : Nat} {c : Context} (hw : Table.wf s.subs.contexts = true)
    (hc : s.ctx k = some c) : s.setCtx k c = s := by
  rw [State.setCtx, Table.set_self hw hc]

theorem Table.erase_set {α : Type} (t : Table α) (k : Nat) (a : α) :
    Table.erase (Table.set t k a) k = Table.erase t k := by
  induction t with
  | nil => simp [Table.set, Table.erase]
  | cons p t ih =>
    obtain ⟨j, b⟩ := p
    unfold Table.erase at ih ⊢
    unfold Table.set
    split
    · simp
    · split
      · next h => simp [h]
      · rw [List.filter_cons, List.filter_cons, ih]

/-! ### The ask that lapses (R87) -/

/-- R87: a context whose ask, if its deadline has passed, lapses. -/
def Context.lapsedAt (c : Context) (now : Nat) : Context :=
  if c.ask.any fun a => decide (a.deadline ≤ now) then { c with ask := none, lapsed := min (c.lapsed + 1) 255 } else c

/-- R87: a lapse writes the ask and the count of lapsed asks. -/
theorem lapsedAt_eq (c : Context) (now : Nat) :
    c.lapsedAt now = { c with ask := (c.lapsedAt now).ask, lapsed := (c.lapsedAt now).lapsed } := by
  unfold Context.lapsedAt
  split <;> rfl

@[simp] theorem lapsedAt_presence (c : Context) (now : Nat) : (c.lapsedAt now).presence = c.presence := by
  rw [lapsedAt_eq]

@[simp] theorem lapsedAt_partner (c : Context) (now : Nat) : (c.lapsedAt now).partner = c.partner := by
  rw [lapsedAt_eq]

theorem lapseAsk_eq {s : State} {k : Nat} {c : Context} (hw : Table.wf s.subs.contexts = true)
    (hc : s.ctx k = some c) : lapseAsk k s = s.setCtx k (c.lapsedAt s.time.clock) := by
  unfold Context.lapsedAt
  cases ha : c.ask with
  | none => simp [lapseAsk, hc, ha, State.setCtx_self hw hc]
  | some a =>
    simp only [lapseAsk, hc, ha, Option.any_some]
    by_cases passed : a.deadline ≤ s.time.clock
    · have due : s.passed a.deadline = true := decide_eq_true passed
      rw [if_pos due, if_pos (decide_eq_true passed)]
      rfl
    · have waits : ¬ s.passed a.deadline = true := by simpa [State.passed] using passed
      rw [if_neg waits, if_neg (by simpa using passed), State.setCtx_self hw hc]

/-! ### The top-up ask (R85, R86) -/

/-- R86: the ask condition of an ATTACHED context. -/
abbrev Context.asksUnder (c : Context) (p : Partner) : Prop :=
  p.kind = .homeRoaming ∧ c.granted - c.consumed < p.lowWater ∧ c.ask = none ∧ c.denied = false ∧ 0 < p.topUpStep

/-- R85: the number that follows the last ask's. -/
abbrev Context.askNumber (c : Context) : Nat := if c.lastAsk < 255 then c.lastAsk + 1 else 1

/-- R85, R86: a context after its top-up ask, if it asks. -/
def Context.askedAt (c : Context) (p : Partner) (deadline : Nat) : Context :=
  if c.asksUnder p then { c with ask := some ⟨c.askNumber, deadline⟩, lastAsk := c.askNumber } else c

/-- R85: what an ask tells GATEWAY. -/
def Context.askNews (c : Context) (k : Nat) (p : Partner) (deadline : Nat) : List Notice :=
  if c.asksUnder p then [.creditAsk k c.identity p.code c.askNumber p.topUpStep deadline] else []

/-- R85: an ask writes the ask and its number. -/
theorem askedAt_eq (c : Context) (p : Partner) (deadline : Nat) :
    c.askedAt p deadline =
      { c with ask := (c.askedAt p deadline).ask, lastAsk := (c.askedAt p deadline).lastAsk } := by
  unfold Context.askedAt
  split <;> rfl

theorem judgeAsk_attached {s : State} {k : Nat} {c : Context} {p : Partner} {deadline : Nat}
    (hw : Table.wf s.subs.contexts = true) (hc : s.ctx k = some c) (hp : s.par c.partner = some p)
    (attached : c.presence = .attached)
    (hd : deadline = min (s.time.clock + s.settings.askTimeout * 1000) 1099511627775) :
    judgeAsk k s = { s.setCtx k (c.askedAt p deadline) with raised := s.raised ++ c.askNews k p deadline } := by
  have asks_iff : askCondition c p = true ↔ c.asksUnder p :=
    (askCondition_iff c p).trans (and_iff_right attached)
  rw [judgeAsk_eq hc hp, Context.askedAt, Context.askNews]
  by_cases asks : c.asksUnder p
  · rw [if_pos (asks_iff.2 asks), if_pos asks, if_pos asks, nextAsk_eq, hd]
    rfl
  · rw [if_neg (mt asks_iff.1 asks), if_neg asks, if_neg asks, State.setCtx_self hw hc, List.append_nil]

theorem judgeAsk_dormant {s : State} {k : Nat} {c : Context} {p : Partner} (hc : s.ctx k = some c)
    (hp : s.par c.partner = some p) (dormant : c.presence = .dormant) : judgeAsk k s = s := by
  rw [judgeAsk_eq hc hp, if_neg fun asks => ?_]
  have attached := ((askCondition_iff c p).1 asks).1
  rw [dormant] at attached
  cases attached

/-! ### The visit to a DORMANT context (R34, R36) -/

theorem retireDue_iff {s : State} {c : Context} (dormant : c.presence = .dormant) : s.retireDue c = true ↔
    c.pinned = false ∧ ∃ d, c.dormancy = some d ∧ d ≤ s.time.clock := by
  simp [State.retireDue, dormant, Option.any_eq_true, State.passed]

section
variable {s : State} {k : Nat} {c : Context} {p : Partner}

/-- R167: a DORMANT context's ask may lapse, and the context may retire. -/
theorem visit_dormant (hw : Table.wf s.subs.contexts = true) (hc : s.ctx k = some c) (hp : s.par c.partner = some p)
    (dormant : c.presence = .dormant) :
    visit k s = visitRetire k (s.setCtx k (c.lapsedAt s.time.clock)) := by
  have still : (c.lapsedAt s.time.clock).presence = .dormant := (lapsedAt_presence ..).trans dormant
  have judged : judgeAsk k (s.setCtx k (c.lapsedAt s.time.clock)) = s.setCtx k (c.lapsedAt s.time.clock) :=
    judgeAsk_dormant (p := p) (State.ctx_setCtx ..) ((lapsedAt_partner ..).symm ▸ hp) still
  rw [visit, lapseAsk_eq hw hc, judged]
  simp only [visitSessions, State.ctx_setCtx, still]

theorem visit_dormant_stays (hw : Table.wf s.subs.contexts = true) (hc : s.ctx k = some c)
    (hp : s.par c.partner = some p) (dormant : c.presence = .dormant)
    (early : ¬ (c.pinned = false ∧ ∃ d, c.dormancy = some d ∧ d ≤ s.time.clock)) :
    visit k s = s.setCtx k (c.lapsedAt s.time.clock) := by
  have waits : (s.setCtx k (c.lapsedAt s.time.clock)).retireDue (c.lapsedAt s.time.clock) = false :=
    Bool.eq_false_iff.2 fun due => early ((retireDue_iff (s := s) dormant).1 (by rw [lapsedAt_eq] at due; exact due))
  rw [visit_dormant hw hc hp dormant]
  simp only [visitRetire, State.ctx_setCtx, waits]
  rfl

/-- R36: a retirement folds the folio and frees the slot, whatever became of the ask. -/
theorem retired_lapsed (s : State) (k : Nat) (c : Context) (p : Partner) (now : Nat) :
    (s.setCtx k (c.lapsedAt now)).retired k (c.lapsedAt now) p = s.retired k c p := by
  rw [lapsedAt_eq]
  simp only [State.retired, State.setCtx, Table.erase_set]

theorem visit_dormant_retires (hw : Table.wf s.subs.contexts = true) (hc : s.ctx k = some c)
    (hp : s.par c.partner = some p) (dormant : c.presence = .dormant)
    (late : c.pinned = false ∧ ∃ d, c.dormancy = some d ∧ d ≤ s.time.clock) :
    visit k s = { s.retired k c p with raised := s.raised ++ farewell k (c.lapsedAt s.time.clock) p } := by
  have due : (s.setCtx k (c.lapsedAt s.time.clock)).retireDue (c.lapsedAt s.time.clock) = true := by
    rw [lapsedAt_eq]
    exact (retireDue_iff (s := s) dormant).2 late
  rw [visit_dormant hw hc hp dormant]
  simp only [visitRetire, State.ctx_setCtx, due, if_true]
  rw [retireContext_eq (p := p) (State.ctx_setCtx ..) ((lapsedAt_partner ..).symm ▸ hp), retired_lapsed]
  rfl

end

/-! ### The visit to an ATTACHED context (R86, R167) -/

section
variable {s : State} {k : Nat} {c : Context} {p : Partner} {deadline : Nat}

/-- R86, R87: a context at its visit, after its ask has lapsed and its top-up ask has gone out. -/
def Context.visitedAt (c : Context) (p : Partner) (now deadline : Nat) : Context :=
  (c.lapsedAt now).askedAt p deadline

/-- R85, R87: the first two steps of a visit write the ask, its number and the count of lapsed asks. -/
theorem visitedAt_eq (c : Context) (p : Partner) (now deadline : Nat) :
    c.visitedAt p now deadline = { c with
      ask := (c.visitedAt p now deadline).ask, lastAsk := (c.visitedAt p now deadline).lastAsk
      lapsed := (c.visitedAt p now deadline).lapsed } := by
  unfold Context.visitedAt
  rw [askedAt_eq, lapsedAt_eq]

@[simp] theorem visitedAt_presence (c : Context) (p : Partner) (now deadline : Nat) :
    (c.visitedAt p now deadline).presence = c.presence := by rw [visitedAt_eq]

@[simp] theorem visitedAt_sessions (c : Context) (p : Partner) (now deadline : Nat) :
    (c.visitedAt p now deadline).sessions = c.sessions := by rw [visitedAt_eq]

/-- `s` after the first two steps of the visit to the context `c` at `k`, of partner `p`. -/
def State.asked (s : State) (k : Nat) (c : Context) (p : Partner) (deadline : Nat) : State :=
  { s.setCtx k (c.visitedAt p s.time.clock deadline) with
    raised := s.raised ++ (c.lapsedAt s.time.clock).askNews k p deadline }

theorem ctx_asked (s : State) (k : Nat) (c : Context) (p : Partner) (deadline : Nat) :
    (s.asked k c p deadline).ctx k = some (c.visitedAt p s.time.clock deadline) := State.ctx_setCtx ..

theorem judgeAsk_lapseAsk (hw : Table.wf s.subs.contexts = true) (hc : s.ctx k = some c)
    (hp : s.par c.partner = some p) (attached : c.presence = .attached)
    (hd : deadline = min (s.time.clock + s.settings.askTimeout * 1000) 1099511627775) :
    judgeAsk k (lapseAsk k s) = s.asked k c p deadline := by
  have still : (c.lapsedAt s.time.clock).presence = .attached := (lapsedAt_presence ..).trans attached
  have wf : Table.wf (s.setCtx k (c.lapsedAt s.time.clock)).subs.contexts = true := Table.wf_set _ _ _ hw
  rw [lapseAsk_eq hw hc, judgeAsk_attached (p := p) (deadline := deadline) wf (State.ctx_setCtx ..)
    ((lapsedAt_partner ..).symm ▸ hp) still hd, State.setCtx_setCtx]
  rfl

/-- R53: an ask changes no subscriber's partner. -/
theorem barring_asked (hc : s.ctx k = some c) (j : Nat) : (s.asked k c p deadline).barring j = s.barring j := by
  by_cases hj : j = k
  · subst hj
    rw [State.barring, ctx_asked, State.barring, hc, visitedAt_eq]
    rfl
  · have other : (s.asked k c p deadline).ctx j = s.ctx j := State.ctx_setCtx_other _ _ hj
    rw [State.barring, other]
    rfl

theorem endsAt_asked (hc : s.ctx k = some c) (n : Nat) : (s.asked k c p deadline).endsAt n = s.endsAt n := by
  cases hx : s.ses n with
  | none =>
    have free : (s.asked k c p deadline).ses n = none := hx
    rw [State.endsAt, free, State.endsAt, hx]
    rfl
  | some x =>
    have same : (s.asked k c p deadline).ses n = some x := hx
    rw [State.endsAt, same, State.endsAt, hx]
    exact closeDue_congr x x.service rfl rfl (barring_asked hc _)

/-- R34: an ATTACHED context is not retired. -/
theorem visitRetire_attached (hc : s.ctx k = some c) (attached : c.presence = .attached) : visitRetire k s = s := by
  have stays : s.retireDue c = false := by rw [State.retireDue, attached]; rfl
  simp only [visitRetire, hc, stays]
  rfl

theorem visitSessions_attached (hc : s.ctx k = some c) (attached : c.presence = .attached) :
    visitSessions k s = c.sessions.foldl (fun s n => visitSession n s) s := by
  simp only [visitSessions, hc, attached]

/-- R167: where no session is idle or released, the visit ends with the ask. -/
theorem visit_attached_stays (hw : Table.wf s.subs.contexts = true) (hc : s.ctx k = some c)
    (hp : s.par c.partner = some p) (attached : c.presence = .attached)
    (hd : deadline = min (s.time.clock + s.settings.askTimeout * 1000) 1099511627775)
    (stays : ∀ n ∈ c.sessions, s.endsAt n = false) : visit k s = s.asked k c p deadline := by
  have still : (c.visitedAt p s.time.clock deadline).presence = .attached := (visitedAt_presence ..).trans attached
  have context := ctx_asked s k c p deadline
  rw [visit, judgeAsk_lapseAsk hw hc hp attached hd, visitSessions_attached context still, visitedAt_sessions,
    visitList_stays fun n hn => (endsAt_asked hc n).trans (stays n hn), visitRetire_attached context still]

/-- R167: the ask, and then the close of each session that is idle or released. -/
theorem visit_attached_checked (hl : Listed s) (hc : s.ctx k = some c) (hp : s.par c.partner = some p)
    (attached : c.presence = .attached)
    (hd : deadline = min (s.time.clock + s.settings.askTimeout * 1000) 1099511627775) :
    Checked k (c.sessions.filter s.endsAt) c.sessions (s.asked k c p deadline) (visit k s) := by
  obtain ⟨paired, -⟩ := (listed_iff s).1 hl
  obtain ⟨nodup, -, -, mine⟩ := paired.2.2.1 k _ _ ((listing_eq_some_iff ..).2 ⟨c, hc, rfl, rfl⟩)
  have still : (c.visitedAt p s.time.clock deadline).presence = .attached := (visitedAt_presence ..).trans attached
  have context := ctx_asked s k c p deadline
  have checked : Checked k (c.sessions.filter (s.asked k c p deadline).endsAt) c.sessions (s.asked k c p deadline)
      (c.sessions.foldl (fun s n => visitSession n s) (s.asked k c p deadline)) := by
    refine visitList_checked nodup mine (fun _ => id) (fun d hd m hm => ?_) ?_
    · rw [← visitedAt_sessions c p s.time.clock deadline, Option.some.inj (context.symm.trans hd)]
      exact hm
    · rw [barring_asked hc, barring_of_ctx hc hp]
      rfl
  have ends : (s.asked k c p deadline).endsAt = s.endsAt := funext (endsAt_asked hc)
  rw [ends] at checked
  obtain ⟨d, hd', settled⟩ := checked.present _ context
  rw [visit, judgeAsk_lapseAsk paired.1 hc hp attached hd, visitSessions_attached context still, visitedAt_sessions,
    visitRetire_attached hd' (settled.presence.trans still)]
  exact checked

/-- R50, R75, R85, R87: a visit leaves an ATTACHED context the sessions that are neither idle nor released; of the rest
only money, credit state and ask may differ. -/
theorem Checked.context {t : State}
    (h : Checked k (c.sessions.filter s.endsAt) c.sessions (s.asked k c p deadline) t) :
    ∃ d, t.ctx k = some d ∧ d = { c with
      sessions := c.sessions.filter fun n => !s.endsAt n, folio := d.folio, sub := d.sub, consumed := d.consumed
      credit := d.credit, ask := d.ask, lastAsk := d.lastAsk, lapsed := d.lapsed } := by
  obtain ⟨d, hd, settled, -⟩ := h.present _ (ctx_asked ..)
  have left : c.sessions.filter (fun n => decide (n ∉ c.sessions.filter s.endsAt)) =
      c.sessions.filter fun n => !s.endsAt n := List.filter_congr fun n hn => by simp [hn]
  rw [visitedAt_eq] at settled
  refine ⟨d, hd, settled.trans ?_⟩
  rw [left, settled]

end

end Sys2Proof.Machine
end

section
/-! Chapter 9, fourth part: PASS_VISIT at the instant of a present context (R167). -/

namespace Sys2Proof.Machine

/-- R52, R54: the reason of a close, as the manual words the idle check. -/
theorem closeReason_eq (s : State) (x : Session) : s.closeReason x =
    if s.settings.idle ≠ 0 ∧ s.settings.idle * 1000 ≤ s.time.clock - x.lastUsage then .idle else .released := by
  have idle_iff : s.idleDue x = true ↔
      s.settings.idle ≠ 0 ∧ s.settings.idle * 1000 ≤ s.time.clock - x.lastUsage := by
    rw [State.idleDue, Bool.and_eq_true, bne_iff_ne, decide_eq_true_eq]
    rfl
  exact if_congr idle_iff rfl rfl

/-- R85: the ask of a context is worded by its values before the lapse. -/
theorem visitedAt_asks (c : Context) (k : Nat) (p : Partner) (now deadline : Nat) :
    let asks : Prop := p.kind = .homeRoaming ∧ c.granted - c.consumed < p.lowWater ∧ (c.lapsedAt now).ask = none
      ∧ c.denied = false ∧ 0 < p.topUpStep
    let number := if c.lastAsk < 255 then c.lastAsk + 1 else 1
    c.visitedAt p now deadline =
        (if asks then { c.lapsedAt now with ask := some ⟨number, deadline⟩, lastAsk := number } else c.lapsedAt now)
      ∧ (c.lapsedAt now).askNews k p deadline =
        if asks then [.creditAsk k c.identity p.code number p.topUpStep deadline] else [] := by
  intro asks number
  have same := lapsedAt_eq c now
  have asks_iff : (c.lapsedAt now).asksUnder p ↔ asks := by rw [same]
  have numbered : (c.lapsedAt now).askNumber = number := by rw [same]
  have named : (c.lapsedAt now).identity = c.identity := by rw [same]
  constructor
  · rw [Context.visitedAt, Context.askedAt, numbered]
    exact if_congr asks_iff rfl rfl
  · rw [Context.askNews, numbered, named]
    exact if_congr asks_iff rfl rfl

/-- Settles O56: a DORMANT context may retire; an ATTACHED one asks, and its sessions are checked. -/
theorem passVisitTakesDeadlines : Obligations.PassVisitTakesDeadlines := by
  intro k c p s hr pos hk instant hc hp hw lapses lapsed advanced writes
  subst pos
  have due : s.time.visitDue = true := (visitDue_iff _).2 ⟨hk, instant⟩
  refine ⟨fun dormant => ⟨fun early => ?_, fun late => ?_⟩, fun attached => ?_⟩
  · have visits := visit_dormant_stays hw hc hp dormant early
    refine (exec_passVisit_due (t := s.setCtx s.time.passPos lapsed) (ns := []) hr due ?_ hr.1 rfl rfl).trans
      (noticed_nil _)
    rw [visits, ← hr.1]
    rfl
  · have visits := visit_dormant_retires hw hc hp dormant late
    rw [hr.1] at visits
    exact exec_passVisit_due (t := s.retired s.time.passPos c p) hr due visits hr.1 rfl rfl
  · intro asks number deadline news asked ends
    obtain ⟨visited, asking⟩ : c.visitedAt p s.time.clock deadline = asked
        ∧ (c.lapsedAt s.time.clock).askNews s.time.passPos p deadline = news := visitedAt_asks ..
    have state : s.asked s.time.passPos c p deadline = { s.setCtx s.time.passPos asked with raised := news } := by
      rw [State.asked, visited, asking, hr.1]
      rfl
    refine ⟨fun stays => ?_, fun hl => ?_⟩
    · have visits := visit_attached_stays hw hc hp attached rfl stays
      exact exec_passVisit_due (t := s.setCtx s.time.passPos asked) hr due (visits.trans state) hr.1 rfl rfl
    · have checked := visit_attached_checked hl hc hp attached (deadline := deadline) rfl
      obtain ⟨d, hd, same⟩ := checked.context
      obtain ⟨qs, raised, told⟩ := checked.news
      rw [state] at raised
      refine ⟨{ visit s.time.passPos s with raised := [] }, d, qs,
        exec_passVisit_due (t := { visit s.time.passPos s with raised := [] }) hr due (by rw [← raised]) rfl
          checked.port checked.time,
        hd, by rw [same, attached], by rw [same]; rfl, by rw [same], by rw [same], by rw [same],
        fun j hj => (checked.other j hj).trans (State.ctx_setCtx_other _ _ hj), fun n x hn hx => ?_, checked.untouched,
        checked.zone, checked.time, checked.port, checked.writes.cutPos, checked.queue⟩
      by_cases he : ends n = true
      · have gone : n ∈ c.sessions.filter s.endsAt := List.mem_filter.2 ⟨hn, he⟩
        obtain ⟨a, b, hq⟩ := told n x gone hx
        rw [if_pos he]
        exact ⟨checked.closed n gone, s.closeReason x, a, b, hq, closeReason_eq s x⟩
      · have stays : n ∉ c.sessions.filter s.endsAt := fun hm => he (List.mem_filter.1 hm).2
        obtain ⟨v, hv⟩ := checked.kept n x stays hx
        rw [if_neg he]
        exact ⟨_, hv, rfl⟩

end Sys2Proof.Machine
end

section
/-! Chapter 10, first part: a request command is its frame, handed to the owner of its kind; the frames taken from the
input queue (R173 to R176), and Table 10-1. -/

namespace Sys2Proof.Machine

/-! ### Request commands (R174 to R176) -/

/-- R174 to R176: a command with a header is a request: it has a kind and an owner, and does what that owner answers. -/
theorem exec_of_header {i : Instr} {h : Header} (hi : i.header? = some h) :
    ∃ k handle, i.kind? = some k ∧ handlerOf i = some handle ∧ ∀ s, exec i s = .next (request h k handle s) := by
  cases i <;> cases hi <;> exact ⟨_, _, rfl, rfl, fun _ => rfl⟩

/-- R175: only the kind and the header of a request decide its checks. -/
theorem exec_of_kind {i : Instr} {h : Header} {k : Kind} (hi : i.header? = some h) (hk : i.kind? = some k) :
    ∃ handle, ∀ s, exec i s = .next (request h k handle s) := by
  obtain ⟨k', handle, hk', -, he⟩ := exec_of_header hi
  cases hk.symm.trans hk'
  exact ⟨handle, he⟩

/-- R183: while nRESET is asserted no request is taken. -/
theorem request_inReset {s : State} (hr : s.port.inReset = true) (h : Header) (k : Kind) (handle : Handler) :
    request h k handle s = s := by simp [request, hr]

/-! ### The request a frame spells (R185) -/

/-- R98 to R100: the form and the settle option of a READ_PARTNER choose among three commands of its kind. -/
theorem ofFields_readPartner (h : Header) (form code settle : Nat) :
    ∃ i, Instr.ofFields h .readPartner [form, code, settle] = some i ∧ i.header? = some h
      ∧ i.kind? = some .readPartner := by
  match form with
  | 0 => cases hs : flagOf settle with
    | true => exact ⟨_, if_pos hs, rfl, rfl⟩
    | false => exact ⟨_, if_neg (by simp [hs]), rfl, rfl⟩
  | 1 => exact ⟨_, rfl, rfl, rfl⟩
  | _ + 2 => exact ⟨_, rfl, rfl, rfl⟩

/-- R186: the fields of a body, read by the layout of a kind, spell a request of that kind. A USAGE body has its own
reading. -/
theorem ofFields_spells (h : Header) {k : Kind} (hk : k ≠ .usage) (body : List Byte) :
    ∃ i, Instr.ofFields h k (readFields k.layout body) = some i ∧ i.header? = some h ∧ i.kind? = some k := by
  cases k with
  | usage => exact absurd rfl hk
  | readPartner => exact ofFields_readPartner h ..
  | _ => exact ⟨_, rfl, rfl, rfl⟩

/-- Table 11-2: a number that reads as a kind is that kind's number. -/
theorem code_of_ofCode {n : Nat} {k : Kind} (hk : Kind.ofCode n = some k) : k.code = n := by
  unfold Kind.ofCode at hk
  split at hk <;> cases hk <;> rfl

/-- R185: the request a frame spells carries the frame's header and the kind of its number. -/
theorem requestOf_spells {f : Frame} {i : Instr} (hi : requestOf f = some i) :
    i.header? = some (headerOf f).1 ∧ ∃ k : Kind, i.kind? = some k ∧ k.code = (headerOf f).2 := by
  simp only [requestOf] at hi
  split at hi
  · cases hi
  · next hk => cases hi; exact ⟨rfl, .usage, rfl, code_of_ofCode hk⟩
  · next k other hk =>
    obtain ⟨j, spelt, header, kind⟩ := ofFields_spells (headerOf f).1 other (f.payload.drop headerLength)
    cases hi.symm.trans spelt
    exact ⟨header, k, kind, code_of_ofCode hk⟩

/-- R185: a frame whose number is no request kind spells no request. -/
theorem requestOf_unlisted {f : Frame} (hn : ∀ k : Kind, k.code ≠ (headerOf f).2) : requestOf f = none := by
  cases hi : requestOf f with
  | none => rfl
  | some i =>
    obtain ⟨-, k, -, hk⟩ := requestOf_spells hi
    exact absurd hk (hn k)

/-! ### Frames taken (R174 to R176) -/

/-- A taken frame that spells a request does what the request does. -/
theorem takeFrame_request {f : Frame} {i : Instr} (hi : requestOf f = some i) (s : State) :
    exec i s = .next (takeFrame f s) := by
  obtain ⟨k, handle, hk, hh, he⟩ := exec_of_header (requestOf_spells hi).1
  simp only [he, takeFrame, hi, (requestOf_spells hi).1, hk, hh]

theorem takeFrame_unlisted {f : Frame} (hi : requestOf f = none) (s : State) :
    takeFrame f s = unlisted (headerOf f).1 (headerOf f).2 s := by simp only [takeFrame, hi]

/-- Whatever the command is that the part gives a frame it takes, it does what the taken frame does. -/
theorem exec_commandOf (s t : State) (f : Frame) : exec (s.commandOf f) t = exec (.notClient f) t := by
  unfold State.commandOf
  split
  · next hi => exact takeFrame_request hi t
  · rfl
  · rfl

/-- Settles O7: a frame's request carries the frame's header and kind, so that its owner answers both alike. -/
theorem framesTakenInOrder : Obligations.FramesTakenInOrder := by
  refine ⟨fun f i s hi => ?_, fun f rest s hp hr ht hq => ?_⟩
  · rw [takeFrame_request hi]; exact ⟨rfl, rfl⟩
  · have own : s.ownEvent = some (s.commandOf f, { s with port := { s.port with inputQueue := rest } }) := by
      simp [State.ownEvent, hr.2, ht, hq]
    simp only [step, hp, own, exec_commandOf]

/-- R174: what the check of a frame makes of it, for a frame that is not taken as a client's. -/
theorem takeFrame_refused {f : Frame} {s : State} (hr : s.ready) :
    (s.admission (headerOf f).1 = .ignored → takeFrame f s = s)
      ∧ (s.admission (headerOf f).1 = .notClient →
          takeFrame f s = respond (headerOf f).1 (headerOf f).2 s (refuse .notClient s)) := by
  cases hi : requestOf f with
  | none =>
    rw [takeFrame_unlisted hi]
    exact ⟨fun ha => by simp [unlisted, ha], fun ha => by simp [unlisted, hr.2, ha]⟩
  | some i =>
    obtain ⟨header, k, kind, code⟩ := requestOf_spells hi
    obtain ⟨handle, he⟩ := exec_of_kind header kind
    have same : takeFrame f s = request (headerOf f).1 k handle s :=
      Host.Outcome.next.inj ((takeFrame_request hi s).symm.trans (he s))
    rw [same, ← code]
    exact ⟨fun ha => by simp [request, ha], fun ha => by simp [request, hr.2, ha]⟩

/-- R174: a frame of another EtherType or version is ignored. -/
theorem admission_ignored {s : State} {h : Header} (hx : h.etherType ≠ s.settings.etherType ∨ h.version ≠ 1) :
    s.admission h = .ignored := if_pos hx

/-- R174: a frame that names no client in use, or one bound to another address, is no client's. -/
theorem admission_notClient {s : State} {h : Header} (he : h.etherType = s.settings.etherType) (hv : h.version = 1)
    (hc : 7 < h.client ∨ Table.get s.port.clients h.client = none
      ∨ ∃ r a, Table.get s.port.clients h.client = some ⟨r, some a⟩ ∧ a ≠ h.src) : s.admission h = .notClient := by
  unfold State.admission
  rw [if_neg (by simp [he, hv])]
  split
  · rfl
  · next within =>
    rcases hc with beyond | unused | ⟨r, a, bound, other⟩
    · exact absurd beyond within
    · rw [unused]
    · simp only [bound, if_neg other]

/-- R176: the response of a refusal that changes nothing, to a frame of any number. -/
theorem respond_refuse_code {s : State} {r : Result} (hr : s.ready) (h : Header) (n : Nat) :
    respond h n s (refuse r s) = s.sent [{
      dst := h.src, etherType := s.settings.etherType, client := h.client, kind := responseKind n, tag := h.tag
      result := r, seconds := s.time.clock / 1000, body := [] }] := by
  obtain ⟨p, ta, su, se, cu, li, mi, zo, ti, ra, pe⟩ := s
  obtain ⟨rfl, hn⟩ := hr
  simp only at hn
  simp only [respond, refuse, State.flushWith, State.join, State.sent, responseTo, hn]
  rfl

theorem responseKind_of_lt {n : Nat} (hn : n < 0x8000) : responseKind n = BitVec.ofNat 16 (n + 0x8000) := if_pos hn

/-- Settles O8: what the check of R174 decides depends on the header alone, whether or not the frame spells a request. -/
theorem strayFramesAnswered : Obligations.StrayFramesAnswered := by
  intro f h n s hf hr
  have taken := takeFrame_refused (f := f) hr
  rw [hf] at taken
  refine ⟨fun hx => ?_, fun he hv hn hc => ?_, fun r hk hn => ⟨responseKind n, responseKind_of_lt, ?_⟩⟩
  · exact congrArg Host.Outcome.next (taken.1 (admission_ignored hx))
  · refine congrArg Host.Outcome.next ((taken.2 (admission_notClient he hv hc)).trans ?_)
    rw [respond_refuse_code hr, responseKind_of_lt hn, ← he]
  · have no : requestOf f = none := requestOf_unlisted (by rw [hf]; exact hn)
    have answered : unlisted h n s = respond h n s (refuse .unknownKind s) := by
      simp [unlisted, hr.2, admission_of_knows hk]
    refine congrArg Host.Outcome.next ((takeFrame_unlisted no s).trans ?_)
    rw [hf, answered, respond_refuse_code hr]

/-! ### The first frame of a client (R174 step 4) -/

/-- R174 step 4: the check of an unbound client's first frame decides what it decides once the client is bound. -/
theorem admission_binds {s : State} {h : Header} {r : Role} (he : h.etherType = s.settings.etherType)
    (hv : h.version = 1) (hc : h.client ≤ 7) (hg : Table.get s.port.clients h.client = some ⟨r, none⟩) :
    s.admission h = (s.setClient h.client ⟨r, some h.src⟩).admission h := by
  have knows : (s.setClient h.client ⟨r, some h.src⟩).knows h r := ⟨he, hv, hc, Table.get_set_same ..⟩
  rw [admission_of_knows knows]
  simp [State.admission, he, hv, Nat.not_lt.2 (show h.client ≤ clientMax from hc), hg]

/-- Settles O9: the frame is checked alike before and after the binding, and its handling starts from the bound state. -/
theorem firstFrameBindsClient : Obligations.FirstFrameBindsClient := by
  intro i h r s hi hn he hv hc hg
  obtain ⟨k, handle, -, -, same⟩ := exec_of_header hi
  have knows : (s.setClient h.client ⟨r, some h.src⟩).knows h r := ⟨he, hv, hc, Table.get_set_same ..⟩
  have admitted := admission_of_knows knows
  have both : request h k handle s = request h k handle (s.setClient h.client ⟨r, some h.src⟩) := by
    have bound : (s.setClient h.client ⟨r, some h.src⟩).port.inReset = false := hn
    simp only [request, hn, bound, admission_binds he hv hc hg, admitted]
    rfl
  exact (same s).trans ((congrArg Host.Outcome.next both).trans (same _).symm)

/-! ### Roles and lengths (R175, Table 10-1) -/

/-- Table 10-1: the one role that may send a kind, by the kind's number. -/
theorem onlyRole_eq (k : Kind) : onlyRole k =
    if k.code ≤ 0x000F then some .purser else if k.code ≤ 0x0016 then some .radio
    else if k.code = 0x0021 then some .meter else if k.code ≤ 0x0034 then some .router
    else if k.code = 0x0041 then some .nav else none := by
  cases k <;> rfl

/-- Table 11-2: the numbers of USAGE and FIX are theirs alone, and between the blocks of numbers there are none. -/
theorem kind_code_gaps (k : Kind) :
    (k.code = 0x0021 ↔ k = .usage) ∧ (k.code = 0x0041 ↔ k = .fix) ∧ (k = .grant → k.code ≤ 0x000F)
      ∧ (k.code ≤ 0x000F ∨ 0x0011 ≤ k.code) ∧ (k.code ≤ 0x0016 ∨ 0x0021 ≤ k.code)
      ∧ (k.code ≤ 0x0021 ∨ 0x0031 ≤ k.code) := by
  cases k <;> decide

/-- Table 10-1: the kinds that a role may not send. -/
theorem permits_eq_false_iff (k : Kind) (r : Role) : permits k r = false ↔
    (k.code ≤ 0x000F ∧ r ≠ .purser ∧ ¬ (k = .grant ∧ r = .gateway))
      ∨ (0x0011 ≤ k.code ∧ k.code ≤ 0x0016 ∧ r ≠ .radio) ∨ (k = .usage ∧ r ≠ .meter)
      ∨ (0x0031 ≤ k.code ∧ k.code ≤ 0x0034 ∧ r ≠ .router) ∨ (k = .fix ∧ r ≠ .nav) := by
  obtain ⟨usage, fix, grant, gap1, gap2, gap3⟩ := kind_code_gaps k
  simp only [permits, onlyRole_eq, Bool.or_eq_false_iff, Bool.and_eq_false_iff, beq_eq_false_iff_ne, ← usage, ← fix]
  split_ifs <;> simp only [Option.all_some, Option.all_none, beq_eq_false_iff_ne] <;> grind

/-- R175 step 3: a body length that does not fit is refused. -/
theorem badLength_iff (k : Kind) (h : Header) :
    badLength k h = true ↔ 1440 < h.length ∨ h.carried < h.length ∨ ∃ n, k.bodyLength = some n ∧ h.length ≠ n := by
  simp only [badLength, Bool.or_eq_true, decide_eq_true_eq, Option.any_eq_true, bne_iff_ne, or_assoc, ne_comm]
  rfl

/-- R175 step 3: a request that its sender may send, and whose body length does not fit, is refused. -/
theorem request_badLength {s : State} {h : Header} {k : Kind} {who : Role} {handle : Handler} (hr : s.ready)
    (hh : s.knows h who) (hp : permits k who = true) (hb : badLength k h = true) :
    Host.Outcome.next (request h k handle s) = refused h k .badLength s := by
  rw [← respond_refuse hr]
  simp [request, hr.2, admission_of_knows hh, hp, hb]

/-- Settles O10: roles are judged before lengths, and both before the owner of the kind. -/
theorem rolesAndLengthsEnforced : Obligations.RolesAndLengthsEnforced := by
  intro i h k r s hi hk hr hh
  obtain ⟨handle, same⟩ := exec_of_kind hi hk
  simp only [same, ← permits_eq_false_iff, Bool.not_eq_false, ← badLength_iff]
  exact ⟨request_notPermitted hr hh, request_badLength hr hh⟩

end Sys2Proof.Machine
end

section
/-! Chapter 10, second part: CLIENT_SET, frames that arrive and leave, power-on and nRESET, and the reads of the port and
of the orders (R142, R173, R178, R180, R181, R183). -/

namespace Sys2Proof.Machine

/-! ### CLIENT_SET (R180) -/

section
variable {k : Nat} {role : Role} {a : Option Mac} {s : State}

theorem fClient_unused (hc : Table.get s.port.clients k = none) :
    fClient k s = [.u8 k, .u8 0, .u8 (Config.missingRole k).toNat, .u8 0, .mac 0] := by
  simp [fClient, hc, fFlag_eq]

theorem fClient_used {c : Client} (hc : Table.get s.port.clients k = some c) :
    fClient k s = [.u8 k, .u8 1, .u8 c.role.code, .u8 (if c.address.isSome then 1 else 0), .mac (c.address.getD 0)] := by
  simp [fClient, hc, fFlag_eq]

/-- R180: the client numbers that are judged by action: 0 to 7, and client 0 only to be rebound. -/
theorem clientNumber_fits {action : ClientAction} (hk : k ≤ 7) (h0 : 1 ≤ k ∨ action = .rebind) :
    (decide (clientMax < k) || (k == 0 && action != .rebind)) = false := by
  have within : ¬ clientMax < k := Nat.not_lt.2 hk
  rcases h0 with h1 | rfl
  · simp [within, Nat.ne_of_gt h1]
  · simp [within]

/-- R180: an action on a client that is not in use. -/
theorem clientSetAnswer_unused (who : Sender) (hk : k ≤ 7) (hc : Table.get s.port.clients k = none) :
    (1 ≤ k → clientSetAnswer k (some .define) (some role) a who s = clientGive k .ok (s.setClient k ⟨role, a⟩))
      ∧ clientSetAnswer k (some .rebind) (some role) a who s = refuse .unknownHandle s
      ∧ (1 ≤ k → clientSetAnswer k (some .free) (some role) a who s = clientGive k .already s) := by
  refine ⟨fun h1 => ?_, ?_, fun h1 => ?_⟩
  · simp only [clientSetAnswer, clientNumber_fits hk (.inl h1), hc]; rfl
  · simp only [clientSetAnswer, clientNumber_fits hk (.inr rfl), hc]; rfl
  · simp only [clientSetAnswer, clientNumber_fits hk (.inl h1), hc]; rfl

/-- R180: an action on a client in use. -/
theorem clientSetAnswer_used {c : Client} (who : Sender) (hk : k ≤ 7) (hc : Table.get s.port.clients k = some c) :
    (1 ≤ k → clientSetAnswer k (some .define) (some role) a who s = refuse .inUse s)
      ∧ clientSetAnswer k (some .rebind) (some role) a who s = clientGive k .ok (s.setClient k ⟨c.role, a⟩)
      ∧ (1 ≤ k → clientSetAnswer k (some .free) (some role) a who s = clientGive k .ok (s.freeClient k)) := by
  refine ⟨fun h1 => ?_, ?_, fun h1 => ?_⟩
  · simp only [clientSetAnswer, clientNumber_fits hk (.inl h1), hc]; rfl
  · simp only [clientSetAnswer, clientNumber_fits hk (.inr rfl), hc]; rfl
  · simp only [clientSetAnswer, clientNumber_fits hk (.inl h1), hc]; rfl

theorem clientSetAnswer_badValue {action : Option ClientAction} {ro : Option Role} (who : Sender)
    (hb : 7 < k ∨ action = none ∨ ro = none ∨ (k = 0 ∧ action ≠ some .rebind)) :
    clientSetAnswer k action ro a who s = refuse .badValue s := by
  unfold clientSetAnswer
  split
  · refine if_pos ?_
    rcases hb with beyond | absent | absent | ⟨rfl, other⟩
    · simp [show clientMax < k from beyond]
    · cases absent
    · cases absent
    · simpa using other
  · rfl

end

/-- R180: a CLIENT_SET that was taken gives the client's record as it then is. -/
theorem exec_clientSet_gives {h : Header} {k : Nat} {action : ClientAction} {role : Role} {a : Option Mac} {r : Result}
    {body : List Field} {s t : State} (hr : s.ready) (hh : s.hears h .clientSet .purser)
    (ha : clientSetAnswer k (some action) (some role) a ⟨h.client, .purser⟩ s = clientGive k r t)
    (hb : fClient k t = body) (ht : t = { s with port := { s.port with clients := t.port.clients } }) :
    exec (.clientSet h k (some action) (some role) a) s = answered h .clientSet r body s t := by
  subst hb
  exact request_answers hr hh rfl ha (by rw [ht]; exact hr.1) (by rw [ht]; exact hr.2) (by rw [ht])

theorem exec_clientSet_refuses {h : Header} {k : Nat} {action : Option ClientAction} {ro : Option Role} {a : Option Mac}
    {r : Result} {s : State} (hr : s.ready) (hh : s.hears h .clientSet .purser)
    (ha : clientSetAnswer k action ro a ⟨h.client, .purser⟩ s = refuse r s) :
    exec (.clientSet h k action ro a) s = refused h .clientSet r s :=
  request_refuses hr hh rfl ha

/-- Settles O11: the action and the presence of the record decide, and the response is read from the record written. -/
theorem clientSetActions : Obligations.ClientSetActions := by
  intro h k role a s hr hh
  refine ⟨fun h1 h7 hc => ?_, fun c hc h7 => ?_, fun action ro hb => ?_⟩
  · obtain ⟨define, rebind, free⟩ := clientSetAnswer_unused (role := role) (a := a) ⟨h.client, .purser⟩ h7 hc
    exact ⟨exec_clientSet_gives hr hh (define h1) (fClient_used (c := ⟨role, a⟩) (Table.get_set_same ..)) rfl,
      exec_clientSet_refuses hr hh rebind, exec_clientSet_gives hr hh (free h1) (fClient_unused hc) rfl⟩
  · obtain ⟨define, rebind, free⟩ := clientSetAnswer_used (role := role) (a := a) ⟨h.client, .purser⟩ h7 hc
    exact ⟨exec_clientSet_gives hr hh rebind (fClient_used (c := ⟨c.role, a⟩) (Table.get_set_same ..)) rfl,
      fun h1 => ⟨exec_clientSet_refuses hr hh (define h1),
        exec_clientSet_gives hr hh (free h1) (fClient_unused (Table.get_erase_same ..)) rfl⟩⟩
  · exact exec_clientSet_refuses hr hh (clientSetAnswer_badValue _ hb)

/-! ### Frames that arrive and leave (R173, R178) -/

theorem exec_frameArrival (f : Frame) (s : State) : exec (.frameArrival f) s = .next (arrive f s).flush := rfl

theorem exec_frameTransmit (s : State) : exec .frameTransmit s = .next (transmitNext s).flush := rfl

/-- R173: the address of all is the one whose 48 bits are set. -/
theorem broadcast_eq : broadcast = 0xFFFFFFFFFFFF := by decide

theorem admits_iff (s : State) (f : Frame) : s.admits f = true ↔
    (f.dst = s.port.station ∨ f.dst = 0xFFFFFFFFFFFF) ∧ f.etherType = s.settings.etherType ∧ 16 ≤ f.payload.length := by
  simp only [State.admits, Bool.and_eq_true, Bool.or_eq_true, beq_iff_eq, decide_eq_true_eq, broadcast_eq, and_assoc]
  rfl

/-- R173: what a frame that reaches the MAC leaves. -/
theorem arrive_eq {s : State} (hr : s.port.inReset = false) (f : Frame) :
    arrive f s = if frameGood f = true ∧ s.admits f = true ∧ s.port.inputQueue.length < 64 then
      { s with port := { s.port with inputQueue := s.port.inputQueue ++ [f] } } else s := by
  have lost : (s.port.inReset || !frameGood f || !s.admits f || decide (inputMax ≤ s.port.inputQueue.length)) = true
      ↔ ¬ (frameGood f = true ∧ s.admits f = true ∧ s.port.inputQueue.length < 64) := by
    simp only [hr, inputMax, ← Nat.not_lt]
    cases frameGood f <;> cases s.admits f <;> simp
  simp only [arrive, lost, ite_not]

/-- Settles O4: admission is the conjunction of the conditions R173 lists. -/
theorem frameArrivalAdmission : Obligations.FrameArrivalAdmission := by
  intro f s hr
  have good : frameGood f = true ↔ fcsOf (beBytes 6 f.dst.toNat ++ beBytes 6 f.src.toNat
      ++ beBytes 2 f.etherType.toNat ++ f.payload) = f.fcs := beq_iff_eq
  rw [exec_frameArrival, arrive_eq hr.2, flush_quiet (by split <;> exact hr.1)]
  simp only [good, admits_iff, and_assoc]

/-- Table 11-1: the payload of a frame sent, field by field. -/
theorem OutFrame.payload_eq (f : OutFrame) :
    let body := f.body.flatMap Field.bytes
    let bare := [1, BitVec.ofNat 8 f.client] ++ beBytes 2 f.kind.toNat ++ beBytes 4 f.tag.toNat
      ++ beBytes 2 body.length ++ beBytes 2 f.result.code ++ beBytes 4 f.seconds ++ body
    f.payload = bare ++ List.replicate (46 - bare.length) 0 := by
  have header (a b c d e g : Nat) : writeFields headerLayout [1, a, b, c, d, e, g] =
      [1, BitVec.ofNat 8 a] ++ beBytes 2 b ++ beBytes 4 c ++ beBytes 2 d ++ beBytes 2 e ++ beBytes 4 g := by
    simp [writeFields, headerLayout, beBytes]
  simp only [OutFrame.payload, OutFrame.bodyBytes, header]

/-- Settles O5: the bytes on the line are those of Table 11-1, padded, and their check sequence. -/
theorem frameTransmitSendsFirst : Obligations.FrameTransmitSendsFirst := by
  refine fun s hr => ⟨fun ht => ?_, fun f rest ht => ?_⟩
  · rw [exec_frameTransmit, transmitNext, ht, flush_quiet hr.1]
  · have sent : transmitNext s = { s with port := { s.port with
        transmit := rest, wire := some (f.lineBytes s.port.station) } } := by simp only [transmitNext, ht]
    have quiet : (transmitNext s).raised = [] := by rw [sent]; exact hr.1
    rw [exec_frameTransmit, flush_quiet quiet, sent]
    simp only [OutFrame.lineBytes, coveredBytes, OutFrame.payload_eq, List.append_assoc]

/-! ### Power-on and nRESET (R183) -/

theorem zoneAt_powerOn (station : Mac) (line : Bool) (pending : List Instr) (z : ZoneId) :
    (State.powerOn station line pending).zoneAt z = Zone.powerOn := by
  simp [State.zoneAt, State.powerOn, ZoneTracker.powerOn]

/-- Settles O13: power-on replaces the whole state but the station address by the values of each chapter. -/
theorem powerOnValues : Obligations.PowerOnValues := by
  intro line s
  refine ⟨State.powerOn s.port.station line s.pending, rfl, rfl, rfl, rfl, rfl, rfl, link_powerOn _ _ _,
    zoneAt_powerOn _ _ _, rfl, rfl, rfl, rfl, rfl, rfl, rfl, rfl, Bool.or_false line, rfl, rfl, rfl, rfl, rfl, rfl⟩

theorem arrive_inReset {s : State} (hr : s.port.inReset = true) (f : Frame) : arrive f s = s := by simp [arrive, hr]

/-- Settles O14: the port is emptied, and every way in and out of it asks whether nRESET is asserted. -/
theorem nresetSilencesPort : Obligations.NresetSilencesPort := by
  intro s hr
  have quiet : (assertReset s).raised = [] := hr.1
  refine ⟨assertReset s, congrArg Host.Outcome.next (flush_quiet quiet), rfl, fun f => ?_, ?_, fun i h hi => ?_⟩
  · rw [exec_frameArrival, arrive_inReset rfl, flush_quiet quiet]
  · rw [exec_frameTransmit, show transmitNext (assertReset s) = assertReset s from rfl, flush_quiet quiet]
  · obtain ⟨k, handle, -, -, same⟩ := exec_of_header hi
    rw [same, request_inReset rfl]

/-! ### STATUS and READ_ORDERS (R142, R181) -/

/-- Table 10-1: any role may send a request that reads. -/
theorem permits_of_onlyRole {k : Kind} (hk : onlyRole k = none) (r : Role) : permits k r = true := by simp [permits, hk]

/-- R174 to R178: a request whose owner only reads. -/
theorem request_reads {s : State} {h : Header} {k : Kind} {who : Role} {handle : Handler} {body : List Field}
    (hr : s.ready) (hh : s.hears h k who) (hk : onlyRole k = none) (ha : handle ⟨h.client, who⟩ s = ⟨.ok, body, s⟩) :
    Host.Outcome.next (request h k handle s) = answered h k .ok body s s :=
  request_answers hr hh (permits_of_onlyRole hk who) ha hr.1 hr.2 rfl

theorem lastReset_code_eq (r : ResetKind) : r.code = if r = .service then 1 else 0 := by cases r <;> rfl

theorem gate_code_eq (g : Gate) : g.code = if g = .held then 1 else 0 := by cases g <;> rfl

theorem scope_code_eq (c : Scope) : c.code = if c = .nonEmergency then 1 else 0 := by cases c <;> rfl

theorem fZone_eq (z : Option ZoneId) : fZone z = .u8 (match z with | none => 255 | some z => z.val) := by
  cases z <;> rfl

/-- Settles O41: both answers list what their rules list, and neither writes. -/
theorem statusAndOrdersRead : Obligations.StatusAndOrdersRead := by
  intro h h' r s hr hs ho
  refine ⟨request_reads hr hs rfl ?_, request_reads hr ho rfl ?_⟩
  · simp only [statusAnswer, lastReset_code_eq, gate_code_eq, fZone_eq, fFlag_of_iff (silent_iff s), fFlag_eq]
    rfl
  · simp only [readOrdersAnswer, fOrder, scope_code_eq, orderState]
    cases s.mig.batch with
    | none => rfl
    | some b => simp only [fBatch, fFlag_eq]; rfl

end Sys2Proof.Machine
end

section
/-! Chapter 10, third part: SERVICE_RESET, the contexts it retires and keeps, and the accounts it folds them into (R36,
R39, R95, R182). -/

namespace Sys2Proof.Machine

/-! ### Folios folded one after the other (R36, R95) -/

/-- R36 steps 1 and 4: a partner's record after a context of its was folded into it and uncounted. -/
def Partner.retire (p : Partner) (c : Context) : Partner := { p.fold c with present := p.present - 1 }

/-- A partner's record after some contexts of its were retired, one after the other. -/
def Partner.retireAll (p : Partner) (cs : List Context) : Partner := cs.foldl Partner.retire p

/-- R95: a fold adds the whole folio, or what the headroom leaves of it. -/
theorem foldAmounts_sum (room : Nat) (b : Subtotals) : (foldAmounts room b).sum = min b.sum room := by
  simp only [foldAmounts, Subtotals.sum]; omega

/-- R95: amounts that fit the headroom are folded whole. -/
theorem foldAmounts_of_le {room : Nat} {b : Subtotals} (hb : b.sum ≤ room) : foldAmounts room b = b := by
  obtain ⟨port, coastal, openSea, restricted⟩ := b
  simp only [Subtotals.sum] at hb
  simp only [foldAmounts, Subtotals.mk.injEq]
  omega

theorem retire_closedSub (p : Partner) (c : Context) (closed : p.closedTotal = p.closedSub.sum) :
    (p.retire c).closedTotal = (p.retire c).closedSub.sum := by
  simp only [Partner.retire, Partner.fold, Subtotals.sum] at closed ⊢
  omega

theorem retire_closedTotal {p : Partner} {c : Context} (balanced : c.balanced) (within : p.closedTotal ≤ closedMax) :
    (p.retire c).closedTotal = min (p.closedTotal + c.folio) closedMax := by
  obtain ⟨folio, -⟩ := balanced
  simp only [Partner.retire, Partner.fold, foldAmounts_sum, ← folio]
  omega

theorem retire_closedSub_at {p : Partner} {c : Context} (balanced : c.balanced)
    (room : p.closedTotal + c.folio ≤ closedMax) (z : ZoneClass) :
    (p.retire c).closedSub.at z = p.closedSub.at z + c.sub.at z := by
  obtain ⟨folio, -⟩ := balanced
  have whole : foldAmounts (closedMax - p.closedTotal) c.sub = c.sub := foldAmounts_of_le (by omega)
  simp only [Partner.retire, Partner.fold, whole]
  cases z <;> rfl

/-- R95: what retiring some contexts of a partner leaves of its record: their folios leave the open total and join the
closed total up to its ceiling, class by class while they fit. -/
theorem retireAll_accounts {cs : List Context} {p : Partner} (balanced : ∀ c ∈ cs, c.balanced)
    (closed : p.closedTotal = p.closedSub.sum) (within : p.closedTotal ≤ closedMax) :
    let q := p.retireAll cs
    let total := p.closedTotal + (cs.map Context.folio).sum
    q = { p with
      openTotal := p.openTotal - (cs.map Context.folio).sum, present := p.present - cs.length
      closedTotal := min total closedMax, closedSub := q.closedSub }
    ∧ q.closedTotal = q.closedSub.sum
    ∧ (total ≤ closedMax → ∀ z, q.closedSub.at z = p.closedSub.at z + (cs.map (·.sub.at z)).sum) := by
  induction cs generalizing p with
  | nil =>
    have same : min p.closedTotal closedMax = p.closedTotal := Nat.min_eq_left within
    exact ⟨by simp [Partner.retireAll, same], closed, fun _ _ => rfl⟩
  | cons c cs ih =>
    have here := balanced c List.mem_cons_self
    have first := retire_closedTotal here within
    obtain ⟨record, split, classes⟩ := ih (p := p.retire c) (fun d hd => balanced d (List.mem_cons_of_mem c hd))
      (retire_closedSub p c closed) (by omega)
    have step : p.retireAll (c :: cs) = (p.retire c).retireAll cs := rfl
    simp only [step, List.map_cons, List.sum_cons, List.length_cons]
    refine ⟨?_, split, fun fits z => ?_⟩
    · rw [record, first]
      simp only [Partner.retire, Partner.fold, Partner.mk.injEq, true_and, and_true]
      omega
    · rw [classes (by omega) z, retire_closedSub_at here (by omega) z, Nat.add_assoc]

/-! ### One context reset (R39) -/

theorem Table.keys_nil {α : Type} : Table.keys ([] : Table α) = [] := rfl

theorem Table.keys_cons {α : Type} (p : Nat × α) (t : Table α) : Table.keys (p :: t) = p.1 :: Table.keys t := rfl

/-- R39: what a service reset leaves of a context. -/
def Context.afterReset (deadline : Nat) (c : Context) : Option Context :=
  if c.pinned then some (c.serviceReset deadline) else none

/-- The unpinned contexts of the partner at an index, among some contexts. -/
def goneOf (i : Nat) (cs : Table Context) : List Context :=
  (cs.filter fun p => !p.2.pinned && p.2.partner == i).map Prod.snd

/-- R39: `t` is `s` after the contexts `cs` were reset: each is kept DORMANT or gone, and the partners have folded those
that are gone. -/
structure Resets (cs : Table Context) (s t : State) : Prop where
  frame : t = { s with
    subs := { s.subs with contexts := t.subs.contexts }
    tariff := { s.tariff with partners := t.tariff.partners } }
  ctx : ∀ k, t.ctx k = if k ∈ Table.keys cs then (s.ctx k).bind (Context.afterReset s.dormancyDeadline) else s.ctx k
  par : ∀ i, t.par i = (s.par i).map fun p => p.retireAll (goneOf i cs)

theorem State.par_modPar (s : State) (i : Nat) (f : Partner → Partner) (j : Nat) :
    (s.modPar i f).par j = if j = i then (s.par j).map f else s.par j := by
  unfold State.modPar
  split
  · next hp => split <;> simp_all
  · next p hp =>
    split
    · next hj => subst hj; simp [hp]
    · next hj => exact State.par_setPar_other s _ hj

theorem State.modPar_frame (s : State) (i : Nat) (f : Partner → Partner) :
    s.modPar i f = { s with tariff := { s.tariff with partners := (s.modPar i f).tariff.partners } } := by
  unfold State.modPar
  split <;> rfl

/-- R39: the reset of one context. -/
theorem resets_one {s : State} {h : Nat} {c : Context} (hc : s.ctx h = some c) :
    Resets [(h, c)] s (resetContext h s) := by
  by_cases pinned : c.pinned = true
  · have kept : resetContext h s = s.setCtx h (c.serviceReset s.dormancyDeadline) := by
      simp only [resetContext, hc, pinned, if_true]
    rw [kept]
    refine ⟨rfl, fun k => ?_, fun i => ?_⟩
    · by_cases hk : k = h
      · subst hk; simp [Table.keys, hc, Context.afterReset, pinned]
      · simp [Table.keys, hk, State.ctx_setCtx_other]
    · simp [goneOf, pinned, Partner.retireAll]
  · have gone : resetContext h s = (s.modPar c.partner (·.retire c)).freeSlot h := by
      simp only [resetContext, hc, pinned, foldAndFree]; rfl
    rw [gone]
    refine ⟨?_, fun k => ?_, fun i => ?_⟩
    · rw [State.modPar_frame]; rfl
    · have freed : ((s.modPar c.partner (·.retire c)).freeSlot h).ctx k = if k = h then none else s.ctx k := by
        rw [State.modPar_frame]; exact Table.get_erase ..
      by_cases hk : k = h
      · subst hk; simp [freed, Table.keys, hc, Context.afterReset, pinned]
      · simp [freed, Table.keys, hk]
    · have par : ((s.modPar c.partner (·.retire c)).freeSlot h).par i = (s.modPar c.partner (·.retire c)).par i := rfl
      rw [par, State.par_modPar]
      by_cases hi : c.partner = i
      · simp [goneOf, pinned, hi, Partner.retireAll]
      · simp [goneOf, pinned, hi, Ne.symm hi, Partner.retireAll]

theorem goneOf_cons (i : Nat) (p : Nat × Context) (cs : Table Context) :
    goneOf i (p :: cs) = goneOf i [p] ++ goneOf i cs := by
  unfold goneOf
  rw [← List.map_append, ← List.filter_append]
  rfl

theorem Resets.dormancyDeadline {cs : Table Context} {s t : State} (h : Resets cs s t) :
    t.dormancyDeadline = s.dormancyDeadline := by rw [h.frame]; rfl

/-- Contexts reset before others at other handles. -/
theorem Resets.cons {p : Nat × Context} {cs : Table Context} {s t u : State} (h₁ : Resets [p] s t) (h₂ : Resets cs t u)
    (apart : p.1 ∉ Table.keys cs) : Resets (p :: cs) s u where
  frame := by rw [h₂.frame, h₁.frame]
  ctx k := by
    rw [h₂.ctx, h₁.ctx, h₁.dormancyDeadline]
    simp only [Table.keys_cons, Table.keys_nil, List.mem_cons, List.not_mem_nil, or_false]
    by_cases hk : k = p.1
    · subst hk; rw [if_neg apart, if_pos rfl, if_pos (.inl rfl)]
    · simp only [hk, if_false, false_or]
  par i := by
    rw [h₂.par, h₁.par, Option.map_map, goneOf_cons i p cs]
    simp only [Function.comp_def, Partner.retireAll, List.foldl_append]

/-- R182 step 5: contexts at different handles, reset one after the other. -/
theorem resets_all {cs : Table Context} {s : State} (apart : (Table.keys cs).Nodup)
    (there : ∀ p ∈ cs, s.ctx p.1 = some p.2) :
    Resets cs s ((Table.keys cs).foldl (fun s h => resetContext h s) s) := by
  induction cs generalizing s with
  | nil => exact ⟨rfl, fun k => (if_neg List.not_mem_nil).symm, fun i => Option.map_id'.symm⟩
  | cons p cs ih =>
    obtain ⟨fresh, apart⟩ := List.nodup_cons.1 apart
    have first := resets_one (there p List.mem_cons_self)
    refine first.cons (ih apart fun q hq => ?_) fresh
    have other : q.1 ≠ p.1 := fun e => fresh (List.mem_map.2 ⟨q, hq, e⟩)
    rw [first.ctx, if_neg (by simpa [Table.keys] using other)]
    exact there q (List.mem_cons_of_mem p hq)

/-! ### The service reset (R182) -/

/-- R182 steps 1 to 4. -/
def State.dropped (s : State) : State := dropRevisions (dropSessions s)

/-- R182: every context of a state in canonical form is reset. -/
theorem resets_resetContexts {s : State} (hw : Table.wf s.subs.contexts = true) :
    Resets s.subs.contexts s.dropped (resetContexts s.dropped) :=
  resets_all (s := s.dropped) (Table.nodup_keys hw) fun _ hp => Table.get_of_mem hw hp

/-- R182: what a service reset keeps, and what it writes beside the contexts and the partners. -/
theorem serviceReset_frame {s : State} (hw : Table.wf s.subs.contexts = true) :
    ∃ held, serviceReset s = { s.dropped with
      port := { s.port with lastReset := .service }
      subs := { s.subs with contexts := (resetContexts s.dropped).subs.contexts }
      tariff := { s.dropped.tariff with partners := (resetContexts s.dropped).tariff.partners }
      zone := { s.zone with deferred := false, releaseDue := false, expiryHeld := held } } := by
  have unfolded : serviceReset s = { resetZone s.cutRunning (resetContexts s.dropped) with
      port := { (resetContexts s.dropped).port with lastReset := .service } } := rfl
  refine ⟨(serviceReset s).zone.expiryHeld, ?_⟩
  rw [unfolded, (resets_resetContexts hw).frame]
  rfl

theorem serviceReset_ctx {s : State} (hw : Table.wf s.subs.contexts = true) (k : Nat) :
    (serviceReset s).ctx k = (s.ctx k).bind (Context.afterReset s.dormancyDeadline) := by
  have reset : (serviceReset s).ctx k = if k ∈ Table.keys s.subs.contexts
      then (s.ctx k).bind (Context.afterReset s.dormancyDeadline) else s.ctx k := (resets_resetContexts hw).ctx k
  rw [reset]
  split
  · rfl
  · next out =>
    cases hc : s.ctx k with
    | none => rfl
    | some c => exact absurd (mem_keys_of_ctx hc) out

theorem serviceReset_par {s : State} {i : Nat} {p : Partner} (hw : Table.wf s.subs.contexts = true)
    (hp : s.par i = some p) : (serviceReset s).par i =
      some (({ p with sessions := 0 } : Partner).retireAll (s.contextsWith fun c => !c.pinned && c.partner == i)) := by
  have dropped : s.dropped.par i = some { p with sessions := 0 } :=
    (Table.get_map s.tariff.partners (fun p => { p with sessions := 0 }) i).trans (congrArg (Option.map _) hp)
  exact ((resets_resetContexts hw).par i).trans (congrArg (Option.map _) dropped)

/-- R39: a context of a partner either stays, pinned, or goes. -/
theorem kept_append_gone_perm (s : State) (i : Nat) :
    (((s.contextsWith fun c => c.pinned && c.partner == i) ++ s.contextsWith fun c => !c.pinned && c.partner == i).map
      Context.folio).Perm (s.foliosOf i) := by
  have split := List.filter_append_perm (fun p : Nat × Context => p.2.pinned)
    (s.subs.contexts.filter fun p => p.2.partner == i)
  have mapped := split.map fun p => p.2.folio
  simpa [List.filter_filter, State.contextsWith, State.foliosOf, Function.comp_def] using mapped

/-- R182, R36, R95: a partner's accounts after a service reset hold the folios of the contexts that stay and have folded
those of the contexts that went. -/
theorem serviceReset_accounts {s : State} {i : Nat} {p : Partner} (hs : Books s) (hp : s.par i = some p) :
    let kept := s.contextsWith fun c => c.pinned && c.partner == i
    let gone := s.contextsWith fun c => !c.pinned && c.partner == i
    let total := p.closedTotal + (gone.map Context.folio).sum
    ∃ q, (serviceReset s).par i = some q
      ∧ q = { p with sessions := 0, openTotal := q.openTotal, present := q.present, closedTotal := q.closedTotal,
                     closedSub := q.closedSub }
      ∧ q.openTotal = (kept.map Context.folio).sum ∧ q.present = kept.length
      ∧ q.closedTotal = min total closedMax ∧ q.closedTotal = q.closedSub.sum
      ∧ (total ≤ closedMax → ∀ z, q.closedSub.at z = p.closedSub.at z + (gone.map (·.sub.at z)).sum) := by
  intro kept gone total
  obtain ⟨wc, -, contexts, partners⟩ := (books_iff s).1 hs
  obtain ⟨opened, present, closed, within⟩ := partners i p hp
  have balanced : ∀ c ∈ gone, c.balanced := fun c hc => by
    obtain ⟨e, he, rfl⟩ := List.mem_map.1 hc
    exact (contexts e.1 e.2 (Table.get_of_mem wc (List.mem_filter.1 he).1)).1
  obtain ⟨record, split, classes⟩ := retireAll_accounts (p := { p with sessions := 0 }) balanced closed within
  have both : (kept.map Context.folio ++ gone.map Context.folio).Perm (s.foliosOf i) := by
    simpa only [List.map_append] using kept_append_gone_perm s i
  have sums := both.sum_eq
  have lengths := both.length_eq
  simp only [List.sum_append, List.length_append, List.length_map] at sums lengths
  refine ⟨_, serviceReset_par wc hp, ?_, ?_, ?_, ?_, split, classes⟩
  · rw [record]
  · rw [record]; simp only; omega
  · rw [record]; simp only; omega
  · rw [record]

/-- Settles O15: the contexts are reset one after the other, each folding into its own partner alone, and a partner's
accounts are what the folds add up to. -/
theorem serviceResetEmptiesVoyage : Obligations.ServiceResetEmptiesVoyage := by
  intro h s hr hh hs
  obtain ⟨held, frame⟩ := serviceReset_frame hs.1
  have answer : serviceResetAnswer ⟨h.client, .purser⟩ s = ⟨.ok, [.u16 s.sess.records.length,
      .u16 (s.contextsWith fun c => !c.pinned).length, .u8 (s.contextsWith Context.pinned).length,
      .u16 s.tariff.epoch.toNat], serviceReset s⟩ := by
    have epoch : (serviceReset s).tariff.epoch = s.tariff.epoch := by rw [frame]; rfl
    simp only [serviceResetAnswer, State.contextsWith, List.length_map, epoch]
  have counts (l : LinkId) : (serviceReset s).link l =
      { s.link l with bound := 0, emergency := 0, reserved := 0, accumulator := 0, discrepancy := 0 } := by
    simp [frame, State.link, State.dropped, dropRevisions, dropSessions, Link.serviceReset]
  have quiet : (serviceReset s).raised = [] := by rw [frame]; exact hr.1
  have time : (serviceReset s).time = s.time := by rw [frame]; rfl
  have pending : (serviceReset s).pending = s.pending := by rw [frame]; rfl
  have awake : (serviceReset s).port.inReset = false := by rw [frame]; exact hr.2
  exact ⟨serviceReset s, request_answers hr hh rfl answer quiet awake (congrArg TimeBase.clock time),
    congrArg State.mig frame, congrArg State.cutPos frame, congrArg State.sess frame, counts,
    congrArg (·.tariff.planUse) frame, congrArg (·.tariff.revisions) frame, congrArg (·.tariff.previous) frame,
    congrArg (·.tariff.epoch) frame, congrArg (·.tariff.cells) frame, congrArg (·.tariff.codes) frame,
    serviceReset_ctx hs.1, fun i p hp => serviceReset_accounts hs hp, congrArg (·.subs.pinned) frame,
    congrArg (·.subs.gate) frame, time, by rw [frame], congrArg State.port frame, quiet, pending⟩

end Sys2Proof.Machine
end

section
/-! Chapter 11: the frame of a request is written field by field and reads back field by field (R185, R186, Tables
11-1 to 11-3). -/

namespace Sys2Proof

/-! ### Numbers and fields in bytes -/

theorem fits_iff (n v : Nat) : fits n v = true ↔ v < 256 ^ n := decide_eq_true_iff

@[simp] theorem fits_zero (n : Nat) : fits n 0 = true := (fits_iff ..).2 (Nat.pow_pos (by decide))

@[simp] theorem fits_one : fits 1 1 = true := rfl

@[simp] theorem fits_noValue : fits 1 noValue = true := rfl

@[simp] theorem length_beBytes (w v : Nat) : (beBytes w v).length = w := by
  induction w with
  | zero => rfl
  | succ w ih => simp [beBytes, ih]

/-- The bytes of a number spell what of it fits them. -/
theorem be_beBytes (w v : Nat) : be (beBytes w v) = v % 256 ^ w := by
  induction w with
  | zero => simp [beBytes, be, Nat.mod_one]
  | succ w ih =>
    have byte : (BitVec.ofNat 8 (v / 256 ^ w)).toNat = v / 256 ^ w % 256 := BitVec.toNat_ofNat ..
    rw [beBytes, be, length_beBytes, ih, byte, Nat.pow_succ, Nat.mod_mul, Nat.mul_comm, Nat.add_comm]

theorem be_beBytes_of_fits {w v : Nat} (hv : fits w v = true) : be (beBytes w v) = v := by
  rw [be_beBytes, Nat.mod_eq_of_lt ((fits_iff w v).1 hv)]

/-- R186: the values fit the fields of the given widths, one by one. -/
def FieldsFit (ws vs : List Nat) : Prop := List.Forall₂ (fun w v => fits w v = true) ws vs

@[simp] theorem fieldsFit_nil : FieldsFit [] [] := .nil

@[simp] theorem fieldsFit_cons (w v : Nat) (ws vs : List Nat) :
    FieldsFit (w :: ws) (v :: vs) ↔ fits w v = true ∧ FieldsFit ws vs := List.forall₂_cons

theorem fieldsFit_one (w v : Nat) : FieldsFit [w] [v] ↔ fits w v = true := by simp

theorem length_writeFields {ws vs : List Nat} (hf : FieldsFit ws vs) : (writeFields ws vs).length = ws.sum := by
  induction hf with
  | nil => rfl
  | cons _ _ ih => simp [writeFields, ih]

/-- R185, R186: fields written one after the other read back, whatever bytes follow them. -/
theorem readFields_writeFields {ws vs : List Nat} (hf : FieldsFit ws vs) (rest : List Byte) :
    readFields ws (writeFields ws vs ++ rest) = vs := by
  induction hf with
  | nil => rfl
  | cons hv _ ih =>
    rw [writeFields, List.append_assoc, readFields, List.take_left' (length_beBytes ..),
      List.drop_left' (length_beBytes ..), be_beBytes_of_fits hv, ih]

/-! ### The bytes of single operands (R186) -/

/-- A word of bits fits the field of its width. -/
theorem fits_toNat {n w : Nat} (x : BitVec n) (hn : n ≤ 8 * w) : fits w x.toNat = true := by
  have bytes : 256 ^ w = 2 ^ (8 * w) := by rw [Nat.pow_mul]
  rw [fits_iff, bytes]
  exact x.isLt.trans_le (Nat.pow_le_pow_right (by decide) hn)

@[simp] theorem flagOf_flagByte (b : Bool) : flagOf (flagByte b) = b := by cases b <;> rfl

@[simp] theorem fits_flagByte (b : Bool) : fits 1 (flagByte b) = true := by cases b <;> rfl

/-- An enumerated operand fits its byte and reads back, named or not, where every position of the list does and the byte
that names nothing lies beyond the last. -/
theorem enumByte_spells {α : Type} {code : α → Nat} {ofCode : Nat → Option α}
    (listed : ∀ a, ofCode (code a) = some a ∧ fits 1 (code a) = true) (beyond : ofCode noValue = none)
    (o : Option α) :
    ofCode (enumByte code o) = o ∧ fits 1 (enumByte code o) = true := by
  cases o with
  | none => exact ⟨beyond, rfl⟩
  | some a => exact listed a

@[simp] theorem Role.byte_spells (o : Option Role) :
    ofCode (enumByte code o) = o ∧ fits 1 (enumByte code o) = true :=
  enumByte_spells (fun a => by cases a <;> exact ⟨rfl, rfl⟩) rfl o

@[simp] theorem ClientAction.byte_spells (o : Option ClientAction) :
    ofCode (enumByte code o) = o ∧ fits 1 (enumByte code o) = true :=
  enumByte_spells (fun a => by cases a <;> exact ⟨rfl, rfl⟩) rfl o

@[simp] theorem PartnerKind.byte_spells (o : Option PartnerKind) :
    ofCode (enumByte code o) = o ∧ fits 1 (enumByte code o) = true :=
  enumByte_spells (fun a => by cases a <;> exact ⟨rfl, rfl⟩) rfl o

@[simp] theorem PartnerStatus.byte_spells (o : Option PartnerStatus) :
    ofCode (enumByte code o) = o ∧ fits 1 (enumByte code o) = true :=
  enumByte_spells (fun a => by cases a <;> exact ⟨rfl, rfl⟩) rfl o

@[simp] theorem ZoneClass.byte_spells (o : Option ZoneClass) :
    ofCode (enumByte code o) = o ∧ fits 1 (enumByte code o) = true :=
  enumByte_spells (fun a => by cases a <;> exact ⟨rfl, rfl⟩) rfl o

@[simp] theorem TrafficClass.byte_spells (o : Option TrafficClass) :
    ofCode (enumByte code o) = o ∧ fits 1 (enumByte code o) = true :=
  enumByte_spells (fun a => by cases a <;> exact ⟨rfl, rfl⟩) rfl o

@[simp] theorem Rounding.byte_spells (o : Option Rounding) :
    ofCode (enumByte code o) = o ∧ fits 1 (enumByte code o) = true :=
  enumByte_spells (fun a => by cases a <;> exact ⟨rfl, rfl⟩) rfl o

@[simp] theorem ServiceLevel.byte_spells (o : Option ServiceLevel) :
    ofCode (enumByte code o) = o ∧ fits 1 (enumByte code o) = true :=
  enumByte_spells (fun a => by cases a <;> exact ⟨rfl, rfl⟩) rfl o

@[simp] theorem LinkAction.byte_spells (o : Option LinkAction) :
    ofCode (enumByte code o) = o ∧ fits 1 (enumByte code o) = true :=
  enumByte_spells (fun a => by cases a <;> exact ⟨rfl, rfl⟩) rfl o

@[simp] theorem LinkKind.byte_spells (o : Option LinkKind) :
    ofCode (enumByte code o) = o ∧ fits 1 (enumByte code o) = true :=
  enumByte_spells (fun a => by cases a <;> exact ⟨rfl, rfl⟩) rfl o

@[simp] theorem Gate.byte_spells (o : Option Gate) :
    ofCode (enumByte code o) = o ∧ fits 1 (enumByte code o) = true :=
  enumByte_spells (fun a => by cases a <;> exact ⟨rfl, rfl⟩) rfl o

@[simp] theorem Indication.byte_spells (o : Option Indication) :
    ofCode (enumByte code o) = o ∧ fits 1 (enumByte code o) = true :=
  enumByte_spells (fun a => by cases a <;> exact ⟨rfl, rfl⟩) rfl o

@[simp] theorem Scope.byte_spells (o : Option Scope) :
    ofCode (enumByte code o) = o ∧ fits 1 (enumByte code o) = true :=
  enumByte_spells (fun a => by cases a <;> exact ⟨rfl, rfl⟩) rfl o

@[simp] theorem Verdict.byte_spells (o : Option Verdict) :
    ofCode (enumByte code o) = o ∧ fits 1 (enumByte code o) = true :=
  enumByte_spells (fun a => by cases a <;> exact ⟨rfl, rfl⟩) rfl o

/-- R158: the value of a SILENCE_SET, CLEAR 0 and SET 1. -/
theorem silenceByte_spells (o : Option Bool) :
    (let n := enumByte flagByte o
     (if n = 0 then some false else if n = 1 then some true else none) = o) ∧ fits 1 (enumByte flagByte o) = true :=
  enumByte_spells (ofCode := fun n => if n = 0 then some false else if n = 1 then some true else none)
    (fun b => by cases b <;> exact ⟨rfl, rfl⟩) rfl o

/-- R124, R186: a source reads back from its byte; 254 names none. -/
@[simp] theorem sourceByte_spells (o : Option Source) :
    sourceOf ((o.map Source.code).getD 254) = o ∧ fits 1 ((o.map Source.code).getD 254) = true := by
  match o with
  | none => exact ⟨rfl, rfl⟩
  | some .rescue => exact ⟨rfl, rfl⟩
  | some (.link l) => exact ⟨dif_pos l.isLt, (fits_iff ..).2 (l.isLt.trans (by decide))⟩

/-- R124, R186: a destination reads back from its byte; 254 names none. -/
@[simp] theorem destByte_spells (o : Option Dest) :
    destOf ((o.map Dest.code).getD 254) = o ∧ fits 1 ((o.map Dest.code).getD 254) = true := by
  match o with
  | none => exact ⟨rfl, rfl⟩
  | some .auto => exact ⟨rfl, rfl⟩
  | some (.fixed l) => exact ⟨dif_pos l.isLt, (fits_iff ..).2 (l.isLt.trans (by decide))⟩

/-- R120, R162, R186: a record number below the byte of ALL, or ALL itself, reads back. -/
theorem numberOrAll_spells {n : NumberOrAll} (hn : n.wellFormed = true) :
    numberOrAll n.code = n ∧ fits 1 n.code = true := by
  cases n with
  | all => exact ⟨rfl, rfl⟩
  | one n =>
    have below : n < 255 := of_decide_eq_true hn
    exact ⟨if_neg below.ne, (fits_iff ..).2 (below.trans (by decide))⟩

/-- R4, R186: an adjustment of 16 bits reads back from its two's complement. -/
theorem adjustment_spells {i : Int} (low : -32768 ≤ i) (high : i ≤ 32767) :
    signed16 (unsigned16 i) = i ∧ fits 2 (unsigned16 i) = true := by
  have fit : fits 2 (unsigned16 i) = true := (fits_iff ..).2 (by unfold unsigned16; omega)
  refine ⟨?_, fit⟩
  rcases Int.lt_or_le i 0 with below | above
  · have field : (unsigned16 i : Int) = i + 65536 := by unfold unsigned16; omega
    rw [signed16, if_neg (by omega), field]
    omega
  · have field : (unsigned16 i : Int) = i := by unfold unsigned16; omega
    rw [signed16, if_pos (by omega), field]

/-- R180, R186: the address of a CLIENT_SET, which its presence byte tells. -/
@[simp] theorem address_spells (o : Option Mac) :
    (if o.isSome = true then some (BitVec.ofNat 48 ((o.map BitVec.toNat).getD 0)) else none) = o
      ∧ fits 6 ((o.map BitVec.toNat).getD 0) = true := by
  cases o with
  | none => exact ⟨rfl, rfl⟩
  | some a => exact ⟨by simp, fits_toNat a (by decide)⟩

/-! ### The fields of a request body (R186) -/

/-- R31, R97: a context reference fits its three fields and reads back. -/
theorem contextRef_spells {o : Option ContextRef} (ho : o.all ContextRef.wellFormed = true) :
    ∃ s n i, contextRefFields o = [s, n, i] ∧ FieldsFit [1, 2, 8] [s, n, i] ∧ contextRefOf s n i = o := by
  match o with
  | none => exact ⟨_, _, _, rfl, by simp, rfl⟩
  | some (.byHandle n) => exact ⟨_, _, _, rfl, by simpa using (show fits 2 n = true from ho), rfl⟩
  | some (.byIdentity i) => exact ⟨_, _, _, rfl, by simpa using (show fits 8 i = true from ho), rfl⟩

/-- R98 to R100: the form, the code and the settle option of a READ_PARTNER. -/
theorem readPartnerFields_fit {form code settle : Nat} (hf : fits 1 form = true) (hc : fits 4 code = true)
    (hs : fits 1 settle = true) : FieldsFit [1, 4, 1] [form, code, settle] := by simp [hf, hc, hs]

/-- R186: the fields of a request whose operands fit fill the layout of its kind, and spell the request. -/
theorem fields_spell {i : Instr} {h : Header} {k : Kind} (hh : i.header? = some h) (hk : i.kind? = some k)
    (hu : k ≠ .usage) (fit : i.operandsFit = true) :
    FieldsFit k.layout i.fields ∧ Instr.ofFields h k i.fields = some i := by
  cases i with
  | usage => cases hk; exact absurd rfl hu
  | partnerSet _ d =>
    cases hh; cases hk
    unfold Instr.operandsFit at fit
    simp only [Bool.and_eq_true, decide_eq_true_eq] at fit
    obtain ⟨⟨⟨⟨⟨⟨⟨⟨code, window⟩, plan⟩, low⟩, high⟩, exposure⟩, initial⟩, topUp⟩, lowWater⟩ := fit
    obtain ⟨reads, fits⟩ := adjustment_spells low high
    refine ⟨by unfold Instr.fields Kind.layout; simp_all, ?_⟩
    change some _ = some _
    simp [reads]
  | silenceSet _ v =>
    cases hh; cases hk
    obtain ⟨reads, fits⟩ := silenceByte_spells v
    exact ⟨(fieldsFit_one ..).2 fits, congrArg (some ∘ Instr.silenceSet h) reads⟩
  | readContext _ o =>
    cases hh; cases hk
    obtain ⟨s, n, i, fields, fits, reads⟩ := contextRef_spells fit
    change FieldsFit [1, 2, 8] (contextRefFields o) ∧ Instr.ofFields h .readContext (contextRefFields o) = _
    rw [fields]
    exact ⟨fits, congrArg (some ∘ Instr.readContext h) reads⟩
  | readFolio _ o =>
    cases hh; cases hk
    obtain ⟨s, n, i, fields, fits, reads⟩ := contextRef_spells fit
    change FieldsFit [1, 2, 8] (contextRefFields o) ∧ Instr.ofFields h .readFolio (contextRefFields o) = _
    rw [fields]
    exact ⟨fits, congrArg (some ∘ Instr.readFolio h) reads⟩
  | readPartner _ c =>
    cases hh; cases hk
    cases c with
    | none => exact ⟨readPartnerFields_fit fits_noValue (fits_zero 4) (fits_zero 1), rfl⟩
    | some c => exact ⟨readPartnerFields_fit (fits_zero 1) fit (fits_zero 1), rfl⟩
  | readPartnerList _ c o =>
    cases hh; cases hk
    exact ⟨readPartnerFields_fit fits_one fit (fits_flagByte o),
      congrArg (some ∘ Instr.readPartnerList h c) (flagOf_flagByte o)⟩
  | settlement _ c =>
    cases hh; cases hk
    exact ⟨readPartnerFields_fit (fits_zero 1) fit fits_one, rfl⟩
  | readLink _ n =>
    cases hh; cases hk
    obtain ⟨reads, fits⟩ := numberOrAll_spells fit
    exact ⟨(fieldsFit_one ..).2 fits, congrArg (some ∘ Instr.readLink h) reads⟩
  | readZone _ n =>
    cases hh; cases hk
    obtain ⟨reads, fits⟩ := numberOrAll_spells fit
    exact ⟨(fieldsFit_one ..).2 fits, congrArg (some ∘ Instr.readZone h) reads⟩
  | _ =>
    cases hh <;> cases hk
    all_goals
      refine ⟨?_, ?_⟩
      · unfold Instr.operandsFit at fit
        unfold Instr.fields Kind.layout
        simp_all [fits_toNat]
      · change some _ = some _
        simp

/-- R186, Table 11-3: the named fields of a body take as many bytes as the layout of its kind says. -/
theorem fieldBytes_eq_layout {i : Instr} {k : Kind} (hk : i.kind? = some k) (hu : k ≠ .usage) :
    i.fieldBytes = k.layout.sum := by
  cases i with
  | usage => cases hk; exact absurd rfl hu
  | _ => cases hk <;> rfl

theorem body_eq_writeFields {i : Instr} {k : Kind} (hk : i.kind? = some k) (hu : k ≠ .usage) :
    i.body = writeFields k.layout i.fields := by
  cases i with
  | usage => cases hk; exact absurd rfl hu
  | _ => cases hk <;> rfl

/-! ### The entries of a USAGE (Table 11-3) -/

theorem entryFields_fit {e : UsageEntry} (he : e.wellFormed = true) :
    FieldsFit [2, 1, 1, 4, 4] [e.session, flagByte e.uncertain, 0, e.a, e.b] := by
  simp only [UsageEntry.wellFormed, Bool.and_eq_true] at he
  obtain ⟨⟨session, a⟩, b⟩ := he
  simp [session, a, b]

theorem length_entryBytes {e : UsageEntry} (he : e.wellFormed = true) : e.bytes.length = 12 :=
  length_writeFields (entryFields_fit he)

/-- R60, Table 11-3: a usage entry reads back from its bytes. -/
theorem entryOf_bytes {e : UsageEntry} (he : e.wellFormed = true) (rest : List Byte) :
    entryOf (e.bytes ++ rest) = e := by
  have fields : readFields [2, 1, 1, 4, 4] (e.bytes ++ rest) = [e.session, flagByte e.uncertain, 0, e.a, e.b] :=
    readFields_writeFields (entryFields_fit he) rest
  have flag : decide (flagByte e.uncertain % 2 = 1) = e.uncertain := by cases e.uncertain <;> rfl
  simp only [entryOf, fields, flag]

theorem length_entriesBytes {es : List UsageEntry} (hes : ∀ e ∈ es, e.wellFormed = true) :
    (es.flatMap UsageEntry.bytes).length = 12 * es.length := by
  induction es with
  | nil => rfl
  | cons e es ih =>
    obtain ⟨he, hes⟩ := List.forall_mem_cons.1 hes
    simp only [List.flatMap_cons, List.length_append, length_entryBytes he, ih hes, List.length_cons]
    omega

theorem entriesOf_succ {bs : List Byte} (n : Nat) (hb : bs ≠ []) :
    entriesOf (n + 1) bs = entryOf bs :: entriesOf n (bs.drop 12) := by
  cases bs with
  | nil => exact absurd rfl hb
  | cons => rfl

/-- Table 11-3: as many entries as were written read back, whatever bytes follow them. -/
theorem entriesOf_bytes {es : List UsageEntry} (hes : ∀ e ∈ es, e.wellFormed = true) (rest : List Byte) :
    entriesOf es.length (es.flatMap UsageEntry.bytes ++ rest) = es := by
  induction es with
  | nil => rfl
  | cons e es ih =>
    obtain ⟨he, hes⟩ := List.forall_mem_cons.1 hes
    have nonempty : e.bytes ++ (es.flatMap UsageEntry.bytes ++ rest) ≠ [] := by
      intro empty
      have := length_entryBytes he
      simp_all
    rw [List.flatMap_cons, List.append_assoc, List.length_cons, entriesOf_succ _ nonempty, entryOf_bytes he,
      List.drop_left' (length_entryBytes he), ih hes]

/-! ### The header (R185, Tables 11-1 and 11-2) -/

@[simp] theorem Kind.ofCode_code (k : Kind) : ofCode k.code = some k := by cases k <;> rfl

theorem Kind.code_fits (k : Kind) : fits 2 k.code = true := by cases k <;> rfl

/-- R185: the bytes of a request's header, as its frame writes them. -/
def Header.bytes (h : Header) (k : Kind) : List Byte :=
  writeFields headerLayout [h.version, h.client, k.code, h.tag.toNat, h.length, 0, 0]

theorem headerFields_fit {h : Header} (hw : h.wellFormed = true) (k : Kind) :
    FieldsFit headerLayout [h.version, h.client, k.code, h.tag.toNat, h.length, 0, 0] := by
  simp only [Header.wellFormed, Bool.and_eq_true] at hw
  obtain ⟨⟨version, client⟩, length⟩ := hw
  simp [headerLayout, version, client, length, Kind.code_fits, fits_toNat]

theorem length_headerBytes {h : Header} (hw : h.wellFormed = true) (k : Kind) : (h.bytes k).length = headerLength :=
  length_writeFields (headerFields_fit hw k)

/-- R185: the header of a frame and its kind number read back; the bytes behind the header are those it carries. -/
theorem headerOf_headerBytes {f : Frame} {h : Header} {k : Kind} {behind : List Byte} (hw : h.wellFormed = true)
    (src : f.src = h.src) (etherType : f.etherType = h.etherType) (payload : f.payload = h.bytes k ++ behind)
    (carried : behind.length = h.carried) : headerOf f = (h, k.code) := by
  have fields : readFields headerLayout f.payload = [h.version, h.client, k.code, h.tag.toNat, h.length, 0, 0] := by
    rw [payload]
    exact readFields_writeFields (headerFields_fit hw k) behind
  have length : f.payload.length - headerLength = h.carried := by
    rw [payload, List.length_append, length_headerBytes hw, carried, Nat.add_sub_cancel_left]
  simp only [headerOf, fields, length, src, etherType, BitVec.ofNat_toNat, BitVec.setWidth_eq]

/-! ### The request a frame spells (R185, R186) -/

/-- R185: a frame with the header of a kind other than USAGE spells what the fields of its body spell. -/
theorem requestOf_of_header {f : Frame} {h : Header} {k : Kind} (hf : headerOf f = (h, k.code)) (hu : k ≠ .usage) :
    requestOf f = Instr.ofFields h k (readFields k.layout (f.payload.drop headerLength)) := by
  cases k with
  | usage => exact absurd rfl hu
  | _ => simp only [requestOf, hf, Kind.ofCode_code]

/-- Table 11-3: a frame with the header of a USAGE spells the entries of its body. -/
theorem requestOf_usage {f : Frame} {h : Header} (hf : headerOf f = (h, Kind.usage.code)) :
    let body := f.payload.drop headerLength
    requestOf f = some (.usage h (be (body.take 2)) (entriesOf (be (body.take 2)) (body.drop 2))) := by
  simp only [requestOf, hf, Kind.ofCode_code]

/-- What a well-formed request says of its header and its operands. -/
theorem wellFormed_iff {i : Instr} {h : Header} (hh : i.header? = some h) :
    i.wellFormed = true ↔ i.operandsFit = true ∧ h.wellFormed = true ∧ i.fieldBytes ≤ h.carried := by
  have unfolded : i.wellFormed =
      (i.operandsFit && i.header?.all fun h => h.wellFormed && i.fieldBytes ≤ h.carried) := by
    cases i <;> cases hh <;> rfl
  simp [unfolded, hh]

/-- R60: what a USAGE whose operands fit says of its count and its entries. -/
theorem usage_operandsFit {h : Header} {c : Nat} {es : List UsageEntry}
    (fit : (Instr.usage h c es).operandsFit = true) :
    fits 2 c = true ∧ c = es.length ∧ ∀ e ∈ es, e.wellFormed = true := by
  unfold Instr.operandsFit at fit
  simp only [Bool.and_eq_true, beq_iff_eq, List.all_eq_true] at fit
  obtain ⟨⟨count, number⟩, entries⟩ := fit
  exact ⟨count, number, entries⟩

/-- A request is a USAGE with its header, or of another kind. -/
theorem usage_or_other {i : Instr} {h : Header} {k : Kind} (hh : i.header? = some h) (hk : i.kind? = some k) :
    (k = .usage ∧ ∃ c es, i = .usage h c es) ∨ k ≠ .usage := by
  cases i with
  | usage => cases hh; cases hk; exact .inl ⟨rfl, _, _, rfl⟩
  | _ => cases hk <;> exact .inr nofun

/-- R186, Table 11-3: the body of a request whose operands fit takes as many bytes as its named fields and entries. -/
theorem length_body {i : Instr} {h : Header} {k : Kind} (hh : i.header? = some h) (hk : i.kind? = some k)
    (fit : i.operandsFit = true) : i.body.length = i.fieldBytes := by
  obtain ⟨rfl, c, es, rfl⟩ | other := usage_or_other hh hk
  · obtain ⟨-, -, entries⟩ := usage_operandsFit fit
    exact (List.length_append).trans (congrArg₂ (· + ·) (length_beBytes ..) (length_entriesBytes entries))
  · rw [body_eq_writeFields hk other, length_writeFields (fields_spell hh hk other fit).1,
      fieldBytes_eq_layout hk other]

/-- The frame of a command is a request's: its header, its body and bytes of 0 up to those it carries. -/
theorem frame_eq_some {i : Instr} {dst : Mac} {fcs : BitVec 32} {f : Frame} (hf : i.frame dst fcs = some f) :
    ∃ h k, i.header? = some h ∧ i.kind? = some k ∧ f.src = h.src ∧ f.etherType = h.etherType
      ∧ f.payload = h.bytes k ++ (i.body ++ List.replicate (h.carried - i.body.length) 0) := by
  unfold Instr.frame at hf
  split at hf
  · next h k hh hk => cases hf; exact ⟨h, k, hh, hk, rfl, rfl, List.append_assoc ..⟩
  · cases hf

/-- R186: a frame with a request's header and body reads back as the request, whatever bytes follow the body. -/
theorem requestOf_body {i : Instr} {h : Header} {k : Kind} {f : Frame} {rest : List Byte} (hh : i.header? = some h)
    (hk : i.kind? = some k) (fit : i.operandsFit = true) (header : headerOf f = (h, k.code))
    (body : f.payload.drop headerLength = i.body ++ rest) : requestOf f = some i := by
  obtain ⟨rfl, c, es, rfl⟩ | other := usage_or_other hh hk
  · obtain ⟨count, rfl, entries⟩ := usage_operandsFit fit
    have parts : f.payload.drop headerLength = beBytes 2 es.length ++ (es.flatMap UsageEntry.bytes ++ rest) := by
      rw [body, Instr.body, List.append_assoc]
    simp only [requestOf_usage header, parts, List.take_left' (length_beBytes ..), List.drop_left' (length_beBytes ..),
      be_beBytes_of_fits count, entriesOf_bytes entries]
  · obtain ⟨fields, spelt⟩ := fields_spell hh hk other fit
    rw [requestOf_of_header header other, body, body_eq_writeFields hk other, readFields_writeFields fields, spelt]

/-- Settles O6: the header, the body's fields and, for USAGE, its entries read back one after the other, and the bytes
of 0 behind them are not read. -/
theorem frameOfRequestReadsBack : Obligations.FrameOfRequestReadsBack := by
  intro i dst fcs f hw hf
  obtain ⟨h, k, hh, hk, src, etherType, payload⟩ := frame_eq_some hf
  obtain ⟨fit, header, room⟩ := (wellFormed_iff hh).1 hw
  have carried : (i.body ++ List.replicate (h.carried - i.body.length) 0).length = h.carried := by
    rw [List.length_append, List.length_replicate, length_body hh hk fit]
    omega
  have body : f.payload.drop headerLength = i.body ++ List.replicate (h.carried - i.body.length) 0 := by
    rw [payload, List.drop_left' (length_headerBytes header k)]
  exact requestOf_body hh hk fit (headerOf_headerBytes header src etherType payload carried) body

end Sys2Proof
end

section
/-! Chapter 10, fourth part: the queue of the commands that wait is written from outside alone (log entry 8), and a step
takes the command at its front. -/

namespace Sys2Proof.Machine

/-! ### Charges and closes (Chapters 3 to 5) -/

theorem CloseWrites.pending {s t : State} (h : CloseWrites s t) : t.pending = s.pending := by rw [show t = _ from h]

theorem Rates.pending {s t : State} (h : Rates s t) : t.pending = s.pending := h.writes.pending

/-- Operations that each leave the queue leave it one after another. -/
theorem foldl_pending {α : Type} {f : State → α → State} (hf : ∀ s a, (f s a).pending = s.pending) (l : List α)
    (s : State) : (l.foldl f s).pending = s.pending := by
  induction l generalizing s with
  | nil => rfl
  | cons a l ih => exact (ih _).trans (hf s a)

theorem withdraw_pending (n : Nat) (s : State) : (withdraw n s).pending = s.pending := by
  cases hx : s.ses n with
  | none => simp only [withdraw, hx]
  | some x => rw [(withdraw_withdrawn hx).frame]

theorem closeSession_pending (n : Nat) (reason : CloseReason) (s : State) :
    (closeSession n reason s).pending = s.pending := calc
  (closeSession n reason s).pending
  _ = (uncount n (closeRated n s)).pending := (closeWrites_notifyClose n reason _).pending
  _ = (closeRated n s).pending := (closeWrites_uncount n _).pending
  _ = (withdraw n s).pending := ((rates_unlist n _).trans (rates_finalRating n _)).pending
  _ = s.pending := withdraw_pending n s

theorem closeList_pending (ns : List Nat) (reason : CloseReason) (s : State) :
    (closeList ns reason s).pending = s.pending :=
  foldl_pending (fun s n => closeSession_pending n reason s) ns s

theorem visitSession_pending (n : Nat) (s : State) : (visitSession n s).pending = s.pending := by
  unfold visitSession
  split
  · rfl
  · split
    · exact closeSession_pending n _ s
    · split
      · exact closeSession_pending n _ s
      · rfl

theorem resolveEntries_pending (es : List UsageEntry) (s : State) : (resolveEntries es s).1.pending = s.pending := by
  induction es generalizing s with
  | nil => rfl
  | cons e es ih => exact (ih _).trans (closeWrites_resolveEntry e s).pending

theorem openRecord_pending (n : Nat) (x : Session) (s : State) : (openRecord n x s).pending = s.pending := by
  unfold openRecord
  dsimp only
  split <;> rfl

theorem gainUse_pending (x : Session) (s : State) : (gainUse x s).pending = s.pending := by
  unfold gainUse
  split <;> rfl

theorem enlist_pending (s : State) (h n : Nat) : (s.enlist h n).pending = s.pending := (rates_enlist h n s).pending

theorem raiseRetirement_pending (h : Nat) (c : Context) (p : Partner) (s : State) :
    (raiseRetirement h c p s).pending = s.pending := by
  simp only [raiseRetirement]
  split <;> split <;> rfl

theorem foldAndFree_pending (h : Nat) (s : State) : (foldAndFree h s).pending = s.pending := by
  unfold foldAndFree
  split
  · rfl
  · exact (rates_modPar _ _ s).pending

theorem retireContext_pending (h : Nat) (s : State) : (retireContext h s).pending = s.pending := by
  unfold retireContext
  split
  · rfl
  · split
    · rfl
    · exact (foldAndFree_pending h _).trans (raiseRetirement_pending ..)

theorem dropContext_pending (h : Nat) (c : Context) (reason : CloseReason) (s : State) :
    (dropContext h c reason s).pending = s.pending := closeList_pending _ reason _

/-! ### Orders, batches and links (Chapters 6 and 7) -/

theorem raiseOrder_pending (src : Source) (sc : Scope) (ca : OrderCause) (s : State) :
    (raiseOrder src sc ca s).pending = s.pending := by rw [raiseOrder_eq]

theorem returnOne_pending (b : Batch) (n : Nat) (s : State) : (returnOne b n s).pending = s.pending := by
  unfold returnOne
  split
  · rfl
  · rw [releaseSlot_frame]; rfl

theorem returnBatch_pending (b : Batch) (s : State) : (returnBatch b s).pending = s.pending :=
  foldl_pending (fun s n => returnOne_pending b n s) b.sessions s

theorem strandOne_pending (l : LinkId) (n : Nat) (s : State) : (strandOne l n s).pending = s.pending := by
  refine Eq.trans ?_ (rates_bindingCutOf n s).pending
  unfold strandOne
  dsimp only
  split <;> rfl

theorem strandAll_pending (o : Order) (ns : List Nat) (s : State) : (strandAll o ns s).pending = s.pending := by
  unfold strandAll
  split
  · rfl
  · exact foldl_pending (fun s n => strandOne_pending _ n s) ns s

theorem endOrder_pending (outcome : OrderOutcome) (s : State) : (endOrder outcome s).pending = s.pending := by
  unfold endOrder
  split
  · rfl
  · exact strandAll_pending ..

theorem batchFailed_pending (d : LinkId) (s : State) : (batchFailed d s).pending = s.pending := by
  unfold batchFailed
  split
  · rfl
  · split
    · exact endOrder_pending _ s
    · rfl

theorem refuseBatch_pending (b : Batch) (s : State) : (refuseBatch b s).pending = s.pending :=
  (batchFailed_pending ..).trans (returnBatch_pending b s)

theorem abandonBatch_pending (b : Batch) (cause : AbandonCause) (s : State) :
    (abandonBatch b cause s).pending = s.pending :=
  (batchFailed_pending ..).trans (returnBatch_pending b s)

theorem batchTimeoutEffect_pending (s : State) : (batchTimeoutEffect s).pending = s.pending := by
  unfold batchTimeoutEffect
  split
  · rfl
  · split
    · exact abandonBatch_pending _ _ s
    · rfl

theorem formBatch_pending (o : Order) (rest : List Order) (d : LinkId) (taken : List (Nat × Session)) (s : State) :
    (formBatch o rest d taken s).pending = s.pending := by
  have rebound := rebind_frame taken (.moving o.source d (nextBatch s.mig.counter)) s
  simp only [formBatch, State.raise_pending, State.modLink_pending]
  rw [rebound]

theorem batchStepEffect_pending (s : State) : (batchStepEffect s).pending = s.pending := by
  unfold batchStepEffect
  split
  · split
    · exact endOrder_pending _ s
    · exact formBatch_pending ..
  · rfl

theorem silenceMigration_pending (s : State) : (silenceMigration s).pending = s.pending := by
  simp only [silenceMigration]
  refine (foldl_pending (f := fun s o => s.raise (endNotice o .discarded 0)) (fun _ _ => rfl) _ _).trans ?_
  split
  · rfl
  · exact returnBatch_pending _ s

theorem loseDestination_pending (l : LinkId) (before after : LinkState) (s : State) :
    (loseDestination l before after s).pending = s.pending := by
  unfold loseDestination
  split
  · rfl
  · split
    · exact abandonBatch_pending _ _ s
    · rfl

theorem raiseForState_pending (l : LinkId) (before after : LinkState) (s : State) :
    (raiseForState l before after s).pending = s.pending := by
  have rescue : (if 0 < s.sess.stranded then raiseOrder .rescue .all .rescue s else s).pending = s.pending := by
    split
    · exact raiseOrder_pending _ _ _ s
    · rfl
  unfold raiseForState
  split
  iterate 7 exact raiseOrder_pending _ _ _ s
  iterate 2 exact rescue
  rfl

theorem changeState_pending (l : LinkId) (after : LinkState) (cause : LinkCause) (s : State) :
    (changeState l after cause s).pending = s.pending :=
  (raiseForState_pending ..).trans (loseDestination_pending ..)

theorem takeAction_pending (l : LinkId) (a : LinkAction) (s : State) : (takeAction l a s).pending = s.pending := by
  unfold takeAction
  split
  · exact changeState_pending ..
  · rfl
  · exact changeState_pending ..
  · exact changeState_pending ..
  · rfl

theorem takeReport_pending (l : LinkId) (i : Indication) (quality : Nat) (s : State) :
    (takeReport l i quality s).pending = s.pending := by
  simp only [takeReport]
  split
  · exact changeState_pending ..
  · rfl

theorem reconcile_pending (l : LinkId) (outside : Bool) (s : State) : (reconcile l outside s).pending = s.pending := by
  simp only [reconcile]
  split
  · rfl
  · split
    · rfl
    · split
      · exact changeState_pending ..
      · rfl

/-! ### Epochs, zones and silence (Chapters 1 and 8) -/

theorem openEpoch_pending (z : ZoneClass) (s : State) : (openEpoch z s).pending = s.pending := by
  rw [openEpoch_eq]

theorem zoneOrder_pending (l : LinkId) (s : State) : (zoneOrder l s).pending = s.pending := by
  unfold zoneOrder
  split
  · exact raiseOrder_pending _ _ _ s
  · rfl

theorem crossing_pending (target : Option ZoneId) (confirmed : Bool) (s : State) :
    (crossing target confirmed s).pending = s.pending :=
  (foldl_pending (fun s l => zoneOrder_pending l s) allLinks _).trans (openEpoch_pending ..)

theorem judgeCandidate_pending (c : Candidate) (o : FixOutcome) (s : State) :
    (judgeCandidate c o s).2.pending = s.pending := by
  unfold judgeCandidate
  split
  · rfl
  · split
    · rfl
    · split
      · rfl
      · split
        · rfl
        · exact crossing_pending ..

theorem takeFix_pending (zone : Nat) (s : State) : (takeFix zone s).2.pending = s.pending := by
  unfold takeFix
  split
  · rfl
  · unfold validFix
    dsimp only
    split
    · rfl
    · exact judgeCandidate_pending ..

theorem staleExpiryEffect_pending (s : State) : (staleExpiryEffect s).pending = s.pending := by
  unfold staleExpiryEffect
  split
  · rfl
  · dsimp only
    split
    · exact crossing_pending ..
    · rfl

theorem confirm_pending (z : ZoneId) (s : State) : (confirm z s).pending = s.pending := by
  unfold confirm
  split
  · rfl
  · exact crossing_pending ..

theorem releaseEffect_pending (s : State) : (releaseEffect s).pending = s.pending := by
  unfold releaseEffect
  split
  · rfl
  · dsimp only
    split
    · rfl
    · split
      · rfl
      · exact confirm_pending ..

theorem silenceContext_pending (h : Nat) (s : State) : (silenceContext h s).pending = s.pending := by
  unfold silenceContext
  split
  · rfl
  · exact dropContext_pending ..

theorem enterSilence_pending (s : State) : (enterSilence s).pending = s.pending :=
  (foldl_pending (fun s h => silenceContext_pending h s) _ _).trans (silenceMigration_pending s)

theorem setSilence_pending (line flag : Bool) (s : State) : (setSilence line flag s).pending = s.pending := by
  unfold setSilence
  dsimp only
  split
  · exact enterSilence_pending _
  · split <;> rfl

theorem lineEffect_pending (level : Bool) (s : State) : (lineEffect level s).pending = s.pending := by
  unfold lineEffect
  split
  · rfl
  · exact setSilence_pending ..

/-! ### The passes and the service reset (Chapters 4, 9 and 10) -/

theorem visitSessions_pending (h : Nat) (s : State) : (visitSessions h s).pending = s.pending := by
  unfold visitSessions
  split
  · rfl
  · split
    · rfl
    · exact foldl_pending (fun s n => visitSession_pending n s) _ s

theorem visitRetire_pending (h : Nat) (s : State) : (visitRetire h s).pending = s.pending := by
  unfold visitRetire
  split
  · rfl
  · split
    · exact retireContext_pending h s
    · rfl

theorem visit_pending (h : Nat) (s : State) : (visit h s).pending = s.pending :=
  (visitRetire_pending h _).trans ((visitSessions_pending h _).trans
    ((rates_lapseAsk h s).trans (rates_judgeAsk h _)).pending)

theorem passVisitEffect_pending (s : State) : (passVisitEffect s).pending = s.pending := by
  unfold passVisitEffect
  split
  · exact visit_pending ..
  · rfl

theorem passStartEffect_pending (s : State) : (passStartEffect s).pending = s.pending := by
  unfold passStartEffect
  split <;> rfl

theorem cutVisitEffect_pending (s : State) : (cutVisitEffect s).pending = s.pending := by
  unfold cutVisitEffect
  split
  · rfl
  · next n _ =>
    refine Eq.trans ?_ (rates_epochCutOf n s).pending
    dsimp only
    split <;> rfl

theorem resetContext_pending (h : Nat) (s : State) : (resetContext h s).pending = s.pending := by
  unfold resetContext
  split
  · rfl
  · split
    · rfl
    · exact foldAndFree_pending h s

theorem serviceReset_pending (s : State) : (serviceReset s).pending = s.pending :=
  foldl_pending (fun s h => resetContext_pending h s) _ _

/-! ### The owners of the requests -/

/-- Whether a handler leaves the queue of waiting commands as it finds it. -/
def Handler.leavesQueue (f : Handler) : Prop := ∀ who s, (f who s).state.pending = s.pending

theorem Handler.reads.leavesQueue {f : Handler} (h : f.reads) : f.leavesQueue :=
  fun who s => congrArg State.pending (h who s)

theorem leavesQueue_clientSetAnswer (k : Nat) (action : Option ClientAction) (role : Option Role)
    (address : Option Mac) : Handler.leavesQueue (clientSetAnswer k action role address) := by
  intro who s
  unfold clientSetAnswer
  split
  · split
    · rfl
    · split <;> rfl
  · rfl

theorem applyMove_pending (i : Nat) (plan : PlanId) (adjustment : Int) (m : TariffMove) (s : State) :
    (applyMove i plan adjustment m s).pending = s.pending := by
  cases m with
  | written => exact (rates_modPar ..).pending
  | _ => rfl

theorem leavesQueue_partnerSetAnswer (d : PartnerDef) : Handler.leavesQueue (partnerSetAnswer d) := by
  intro who s
  unfold partnerSetAnswer
  split
  · split
    · rfl
    · split
      · unfold createPartner
        split <;> rfl
      · unfold redefinePartner
        split
        · rfl
        · dsimp only
          split
          · rfl
          · unfold raiseWindow
            split <;> exact applyMove_pending ..
  · rfl

theorem leavesQueue_partnerStatusAnswer (code : Nat) (status : Option PartnerStatus) :
    Handler.leavesQueue (partnerStatusAnswer code status) := by
  intro who s
  unfold partnerStatusAnswer
  split
  · rfl
  · split
    · rfl
    · split
      · rfl
      · split <;> rfl

theorem leavesQueue_partnerRemoveAnswer (code : Nat) : Handler.leavesQueue (partnerRemoveAnswer code) := by
  intro who s
  unfold partnerRemoveAnswer
  split
  · rfl
  · split
    · rfl
    · split <;> rfl

theorem leavesQueue_rateSetAnswer (r : RateDef) : Handler.leavesQueue (rateSetAnswer r) := by
  intro who s
  unfold rateSetAnswer
  split
  · rfl
  · split
    · rfl
    · split
      · rfl
      · split
        · rfl
        · split <;> rfl

theorem leavesQueue_epochCutAnswer : Handler.leavesQueue epochCutAnswer := by
  intro who s
  unfold epochCutAnswer
  split
  · rfl
  · exact openEpoch_pending ..

theorem leavesQueue_settlementAnswer (code : Nat) : Handler.leavesQueue (settlementAnswer code) := by
  intro who s
  unfold settlementAnswer
  split
  · rfl
  · split
    · rfl
    · split <;> rfl

theorem leavesQueue_zoneSetAnswer (zone : Nat) (cls : Option ZoneClass) (level : Option ServiceLevel) (window : Nat) :
    Handler.leavesQueue (zoneSetAnswer zone cls level window) := by
  intro who s
  unfold zoneSetAnswer
  split
  · split
    · rfl
    · dsimp only
      split
      · rfl
      · split
        · unfold setEffectiveZone
          dsimp only
          split
          · rfl
          · split <;> rfl
        · split <;> rfl
  · rfl

theorem leavesQueue_linkSetAnswer (link : Nat) (action : Option LinkAction) (p : ProfileDef) :
    Handler.leavesQueue (linkSetAnswer link action p) := by
  intro who s
  unfold linkSetAnswer
  split
  · split
    · rfl
    · split
      · rfl
      · exact takeAction_pending ..
  · rfl

theorem leavesQueue_linkReportAnswer (link : Nat) (indication : Option Indication) (quality : Nat) :
    Handler.leavesQueue (linkReportAnswer link indication quality) := by
  intro who s
  unfold linkReportAnswer
  split
  · exact takeReport_pending ..
  · rfl

theorem leavesQueue_reconcileAnswer (link bytes : Nat) : Handler.leavesQueue (reconcileAnswer link bytes) := by
  intro who s
  unfold reconcileAnswer
  split
  · rfl
  · dsimp only
    split
    · rfl
    · exact reconcile_pending ..

theorem leavesQueue_moveOrderAnswer (source : Option Source) (dest : Option Dest) (scope : Option Scope) :
    Handler.leavesQueue (moveOrderAnswer source dest scope) := by
  intro who s
  unfold moveOrderAnswer
  split
  · rfl
  · split
    · split
      · rfl
      · split <;> rfl
    · rfl

theorem leavesQueue_batchAnswerAnswer (number : Nat) (verdict : Option Verdict) :
    Handler.leavesQueue (batchAnswerAnswer number verdict) := by
  intro who s
  unfold batchAnswerAnswer
  split
  · rfl
  · split
    · rfl
    · unfold answerBatch
      split
      · exact (closeWrites_acceptBatch _ s).pending
      · exact refuseBatch_pending _ s

theorem leavesQueue_gateSetAnswer (position : Option Gate) : Handler.leavesQueue (gateSetAnswer position) := by
  intro who s
  unfold gateSetAnswer
  split
  · rfl
  · split <;> rfl

theorem leavesQueue_pinAnswer (h identity : Nat) : Handler.leavesQueue (pinAnswer h identity) := by
  intro who s
  unfold pinAnswer
  split
  · rfl
  · split
    · rfl
    · split
      · rfl
      · split <;> rfl

theorem leavesQueue_unpinAnswer (h identity : Nat) : Handler.leavesQueue (unpinAnswer h identity) := by
  intro who s
  unfold unpinAnswer
  split
  · rfl
  · split
    · rfl
    · split <;> rfl

theorem leavesQueue_retireAnswer (h identity : Nat) : Handler.leavesQueue (retireAnswer h identity) := by
  intro who s
  unfold retireAnswer
  split
  · rfl
  · split
    · rfl
    · split
      · rfl
      · split
        · rfl
        · exact retireContext_pending h s

theorem attachNew_pending (identity : Nat) (ref : BitVec 32) (s : State) :
    (attachNew identity ref s).state.pending = s.pending := by
  unfold attachNew
  split
  · rfl
  · split
    · rfl
    · split
      · rfl
      · split
        · rfl
        · split
          · rfl
          · split
            · rfl
            · unfold attachGive createContext
              dsimp only
              split
              · exact (rates_issueAsk ..).pending
              · rfl

theorem leavesQueue_attachAnswer (identity : Nat) (ref : BitVec 32) :
    Handler.leavesQueue (attachAnswer identity ref) := by
  intro who s
  unfold attachAnswer
  split
  · rfl
  · split
    · rfl
    · split
      · exact attachNew_pending identity ref s
      · split
        · exact attachNew_pending identity ref s
        · split
          · rfl
          · unfold attachAgain
            split <;> rfl

theorem leavesQueue_detachAnswer (h : Nat) : Handler.leavesQueue (detachAnswer h) := by
  intro who s
  unfold detachAnswer
  split
  · rfl
  · split
    · rfl
    · exact dropContext_pending ..

theorem leavesQueue_sessionOpenAnswer (h : Nat) (cls : Option TrafficClass) (ref : BitVec 32) :
    Handler.leavesQueue (sessionOpenAnswer h cls ref) := by
  intro who s
  unfold sessionOpenAnswer
  split
  · rfl
  · split
    · rfl
    · split
      · rfl
      · split
        · rfl
        · split
          · rfl
          · split
            · rfl
            · split
              · exact (enlist_pending ..).trans (openRecord_pending ..)
              · unfold openNonEmergency
                split
                · rfl
                · split
                  · rfl
                  · split
                    · rfl
                    · exact (enlist_pending ..).trans ((gainUse_pending ..).trans (openRecord_pending ..))

theorem leavesQueue_sessionCloseAnswer (n subscriber : Nat) :
    Handler.leavesQueue (sessionCloseAnswer n subscriber) := by
  intro who s
  unfold sessionCloseAnswer
  split
  · rfl
  · exact closeSession_pending n .radio s

theorem leavesQueue_silenceSetAnswer (value : Option Bool) : Handler.leavesQueue (silenceSetAnswer value) := by
  intro who s
  unfold silenceSetAnswer
  split
  · rfl
  · split
    · rfl
    · exact setSilence_pending ..

theorem leavesQueue_usageAnswer (h : Header) (count : Nat) (entries : List UsageEntry) :
    Handler.leavesQueue (usageAnswer h count entries) := by
  intro who s
  unfold usageAnswer
  split
  · rfl
  · split
    · rfl
    · split
      · rfl
      · exact resolveEntries_pending entries s

/-- No owner of a request writes the queue of waiting commands. -/
theorem leavesQueue_handlerOf {i : Instr} {f : Handler} (hf : handlerOf i = some f) : f.leavesQueue := by
  cases i with
  | clientSet h client action role address => cases hf; exact leavesQueue_clientSetAnswer client action role address
  | generalSet h flags v => cases hf; exact fun _ _ => rfl
  | partnerSet h d => cases hf; exact leavesQueue_partnerSetAnswer d
  | partnerStatus h code status => cases hf; exact leavesQueue_partnerStatusAnswer code status
  | partnerRemove h code => cases hf; exact leavesQueue_partnerRemoveAnswer code
  | rateSet h r => cases hf; exact leavesQueue_rateSetAnswer r
  | epochCut h => cases hf; exact leavesQueue_epochCutAnswer
  | zoneSet h zone cls level window => cases hf; exact leavesQueue_zoneSetAnswer zone cls level window
  | linkSet h link action p => cases hf; exact leavesQueue_linkSetAnswer link action p
  | gateSet h position => cases hf; exact leavesQueue_gateSetAnswer position
  | pin h handle identity => cases hf; exact leavesQueue_pinAnswer handle identity
  | unpin h handle identity => cases hf; exact leavesQueue_unpinAnswer handle identity
  | retire h handle identity => cases hf; exact leavesQueue_retireAnswer handle identity
  | grant h handle identity ask amount =>
    cases hf; exact fun who s => (rates_grantAnswer handle identity ask amount who s).pending
  | serviceReset h => cases hf; exact fun _ s => serviceReset_pending s
  | attach h identity ref => cases hf; exact leavesQueue_attachAnswer identity ref
  | detach h handle => cases hf; exact leavesQueue_detachAnswer handle
  | lookup h identity => cases hf; exact (reads_lookupAnswer identity).leavesQueue
  | sessionOpen h handle cls ref => cases hf; exact leavesQueue_sessionOpenAnswer handle cls ref
  | sessionClose h session subscriber => cases hf; exact leavesQueue_sessionCloseAnswer session subscriber
  | silenceSet h value => cases hf; exact leavesQueue_silenceSetAnswer value
  | usage h count entries => cases hf; exact leavesQueue_usageAnswer h count entries
  | linkReport h link indication quality => cases hf; exact leavesQueue_linkReportAnswer link indication quality
  | reconcile h link bytes => cases hf; exact leavesQueue_reconcileAnswer link bytes
  | moveOrder h source dest scope => cases hf; exact leavesQueue_moveOrderAnswer source dest scope
  | batchAnswer h number verdict => cases hf; exact leavesQueue_batchAnswerAnswer number verdict
  | fix h zone => cases hf; exact fun _ s => takeFix_pending zone s
  | status h => cases hf; exact fun _ _ => rfl
  | readContext h ref => cases hf; exact (reads_readContextAnswer ref).leavesQueue
  | readSession h session => cases hf; exact (reads_readSessionAnswer session).leavesQueue
  | readFolio h ref => cases hf; exact (reads_readFolioAnswer ref).leavesQueue
  | readPartner h code => cases hf; exact (reads_readPartnerAnswer code).leavesQueue
  | readPartnerList h start settle => cases hf; exact (reads_readPartnerListAnswer start settle).leavesQueue
  | settlement h code => cases hf; exact leavesQueue_settlementAnswer code
  | readLink h link => cases hf; exact (reads_readLinkAnswer link).leavesQueue
  | readZone h zone => cases hf; exact (reads_readZoneAnswer zone).leavesQueue
  | readOrders h => cases hf; exact fun _ _ => rfl
  | _ => cases hf

/-! ### Requests, events and steps -/

theorem join_pending (fs : List OutFrame) (s : State) : (s.join fs).pending = s.pending := by
  unfold State.join
  split <;> rfl

theorem respond_pending (h : Header) (code : Nat) (taken : State) (a : Answer) :
    (respond h code taken a).pending = a.state.pending := join_pending _ a.state

theorem admission_pending {s t : State} {h : Header} {who : Sender} (ha : s.admission h = .from_ who t) :
    t.pending = s.pending := by
  unfold State.admission at ha
  split at ha
  · cases ha
  · split at ha
    · cases ha
    · split at ha
      · cases ha
      · split at ha
        · cases ha; rfl
        · split at ha
          · cases ha; rfl
          · cases ha

theorem request_pending {f : Handler} (h : Header) (k : Kind) (hf : f.leavesQueue) (s : State) :
    (request h k f s).pending = s.pending := by
  unfold request
  split
  · rfl
  · split
    · rfl
    · exact respond_pending ..
    · next who s1 ha =>
      refine Eq.trans ?_ (admission_pending ha)
      split
      · exact respond_pending ..
      · split
        · exact respond_pending ..
        · exact (respond_pending ..).trans (hf who s1)

theorem unlisted_pending (h : Header) (code : Nat) (s : State) : (unlisted h code s).pending = s.pending := by
  unfold unlisted
  split
  · rfl
  · split
    · rfl
    · exact respond_pending ..
    · next ha => exact (respond_pending ..).trans (admission_pending ha)

theorem takeFrame_pending (f : Frame) (s : State) : (takeFrame f s).pending = s.pending := by
  unfold takeFrame
  split
  · exact unlisted_pending ..
  · split
    · next hf => exact request_pending _ _ (leavesQueue_handlerOf hf) s
    · rfl

theorem arrive_pending (f : Frame) (s : State) : (arrive f s).pending = s.pending := by
  unfold arrive
  split <;> rfl

theorem transmitNext_pending (s : State) : (transmitNext s).pending = s.pending := by
  unfold transmitNext
  split <;> rfl

/-- An event that is no request completes, and leaves the queue if its effect does. -/
theorem event_completes {effect : State → State} {s : State} (he : (effect s).pending = s.pending) :
    ∃ t, event effect s = .next t ∧ t.pending = s.pending :=
  ⟨_, rfl, (join_pending _ (effect s)).trans he⟩

/-- Settles O2: a request completes with its response and an event with its notices, and neither writes the queue. -/
theorem commandsCompleteAndKeepQueue : Obligations.CommandsCompleteAndKeepQueue := by
  intro c s
  cases hf : handlerOf c with
  | some f =>
    obtain ⟨h, k, he⟩ := exec_request hf s
    exact ⟨_, he, request_pending h k (leavesQueue_handlerOf hf) s⟩
  | none =>
    cases c with
    | frameArrival f => exact event_completes (arrive_pending f s)
    | notClient f => exact ⟨_, rfl, takeFrame_pending f s⟩
    | unknownKind f => exact ⟨_, rfl, takeFrame_pending f s⟩
    | frameTransmit => exact event_completes (transmitNext_pending s)
    | powerOn line => exact ⟨_, rfl, rfl⟩
    | silenceLineChange level => exact event_completes (lineEffect_pending level s)
    | passStart => exact event_completes (passStartEffect_pending s)
    | passVisit => exact event_completes (passVisitEffect_pending s)
    | cutPassVisit => exact event_completes (cutVisitEffect_pending s)
    | batchStep => exact event_completes (batchStepEffect_pending s)
    | batchTimeout => exact event_completes (batchTimeoutEffect_pending s)
    | staleExpiry => exact event_completes (staleExpiryEffect_pending s)
    | deferralRelease => exact event_completes (releaseEffect_pending s)
    | nresetAsserted => exact event_completes (effect := assertReset) rfl
    | _ => cases hf

/-- Settles O1: the front command is the one taken, and what is left of the queue is what stood behind it. -/
theorem stepTakesFrontCommand : Obligations.StepTakesFrontCommand := fun _ _ => rfl

end Sys2Proof.Machine
end
